-- ==== Sys2Proof/Word.lean ====
section
/-! DEFINITION. The words of the part: ticks, laser codes, head numbers, directive words. -/

namespace Sys2Proof

/-- A value of the 32-bit tick count (R17). -/
abbrev Tick := BitVec 32

/-- A laser code, 0..63, as driven on the six LC lines (R8). -/
abbrev Code := BitVec 6

/-- A head number, 0..7. -/
abbrev HeadNo := BitVec 3

/-- A directive word: 16 symbols, most significant symbol first. -/
abbrev Word := BitVec 16

/-- A byte of a report frame. -/
abbrev Byte := BitVec 8

/-- A burst or incident sequence number (R38, R166). -/
abbrev Seq := BitVec 16

end Sys2Proof
end

