-- ==== Sys2Proof/Syntax.lean ====
section
/-! DEFINITION. The commands of the part: one constructor per row of spec/opcode_table.json. -/

namespace Sys2Proof

/-- A channel of the part: the lines and per-channel blocks of one actuator. -/
inductive Ch where
  | A
  | B
deriving DecidableEq, Repr

/-- The commands. Line events come from outside; the part's own timed steps are commands too, so that
the order in which coincident steps are taken can be chosen (R40, R94, R99, R109, R122, R133, R148).
The symbols and link bits a command carries are the line levels at the edges it stands for. -/
inductive Instr where
  /-- POWER_ON: power becomes stable, with RSTN at `rstn` and the strap lines at `lcA`, `lcB`. -/
  | powerOn (rstn : Bool) (lcA lcB : BitVec 6)
  /-- RSTN_LOW: pin reset is asserted. -/
  | rstnLow
  /-- RESET_RELEASE: RSTN is released with the LC lines at the strap levels `lcA`, `lcB`. -/
  | resetRelease (lcA lcB : BitVec 6)
  /-- WRITE_GATE_RISE: the filtered write gate rises. -/
  | writeGateRise (ch : Ch)
  /-- WRITE_GATE_FALL: the filtered write gate falls. -/
  | writeGateFall (ch : Ch)
  /-- SYMBOL_INTAKE: the intake side of a write-clock edge, with the four lines it samples. -/
  | symbolIntake (ch : Ch) (wd wg sg rg : Bool)
  /-- SYMBOL_RELEASE: the release side of a write-clock edge. -/
  | symbolRelease (ch : Ch)
  /-- RELEASE: the PREPARING head record is released. -/
  | release (ch : Ch)
  /-- TAIL_EXPIRY: the tail time of the record in TAIL elapses. -/
  | tailExpiry (ch : Ch)
  /-- PROMOTION: a waiting pending copy or pending unload of `head` is carried out. -/
  | promotion (ch : Ch) (head : HeadNo)
  /-- READY_TIMEOUT: the ready timer expires. -/
  | readyTimeout (ch : Ch)
  /-- LRDY_RISE: LRDYx goes high. -/
  | lrdyRise (ch : Ch)
  /-- LRDY_FALL: LRDYx goes low. -/
  | lrdyFall (ch : Ch)
  /-- PFI_CHANGE: PFIx changes to `level`. -/
  | pfiChange (ch : Ch) (level : Bool)
  /-- RAMP_STEP: a ramp step falls due. -/
  | rampStep (ch : Ch)
  /-- STEP_GRANT: the re-check of the waiting step requests. -/
  | stepGrant
  /-- RAMP_COMPLETE: a ramp completes. -/
  | rampComplete (ch : Ch)
  /-- HEAT_TICK: the heat tick of the present tick. -/
  | heatTick
  /-- PARK_EXPIRY: the park count has reached the park delay. -/
  | parkExpiry (ch : Ch)
  /-- READ_GATE_RISE: the filtered read gate rises. -/
  | readGateRise (ch : Ch)
  /-- READ_GATE_FALL: the filtered read gate falls. -/
  | readGateFall (ch : Ch)
  /-- PRG_RISE: PRGx rises behind its turnaround guard. -/
  | prgRise (ch : Ch)
  /-- SERVO_GATE_RISE: the filtered servo gate rises. -/
  | servoGateRise (ch : Ch)
  /-- SERVO_GATE_FALL: the filtered servo gate falls. -/
  | servoGateFall (ch : Ch)
  /-- FENCE_TICK_REACHED: the present tick reaches F. -/
  | fenceTickReached (ch : Ch)
  /-- ACQUISITION_ABANDON: N plus the tolerance elapse with no capture. -/
  | acquisitionAbandon (ch : Ch)
  /-- WEDGE_MISS_EXPIRY: W plus the tolerance is reached with no capture. -/
  | wedgeMissExpiry (ch : Ch)
  /-- RATE_WINDOW_COMPLETE: the 1,024th write-clock edge has completed a window. -/
  | rateWindowComplete (ch : Ch)
  /-- RATE_WINDOW_ABANDON: 4,096 ticks have elapsed since the window's start edge. -/
  | rateWindowAbandon (ch : Ch)
  /-- LINK_FRAME_START: LKSx falls. -/
  | linkFrameStart (ch : Ch)
  /-- LINK_HEADER_TAKEN: the 8th bit is taken; `header` holds the eight bits, first bit most
  significant; LKCx falls `fall` ticks after that edge, fewer than 2^31 (log entry 33). -/
  | linkHeaderTaken (ch : Ch) (header : BitVec 8) (fall : BitVec 31)
  /-- CATCH_UP_COMPLETE: the bits to catch up have been clocked downstream. -/
  | catchUpComplete (ch : Ch)
  /-- LINK_FRAME_END: LKSx rises; `bits` were sampled since bits were last reported. -/
  | linkFrameEnd (ch : Ch) (bits : List Bool)
  /-- HELD_FRAME_REPLAY: the hold stops; LKCx falls next after `fall` ticks, and `bits` are those sampled from the
  last report of bits up to that fall (both read only when the held frame is not complete). -/
  | heldFrameReplay (ch : Ch) (bits : List Bool) (fall : BitVec 31)
  /-- REPLAY_COMPLETE: the replayed frame ends downstream. -/
  | replayComplete (ch : Ch)
  /-- WAITING_FRAME_RELEASE: the stretched waiting frame is taken from its first bit. -/
  | waitingFrameRelease (ch : Ch)
  /-- HOLD_LIMIT_EXPIRY: the hold limit expires. -/
  | holdLimitExpiry (ch : Ch)
  /-- DIRECTIVE_FRAME: the symbols of one frame are handed to the receiver, in order. -/
  | directiveFrame (ch : Ch) (symbols : List Bool)
  /-- WAITING_CLEAR_JOIN: the receiver's waiting CLEAR joins the directive queue. -/
  | waitingClearJoin (ch : Ch)
  /-- HEAD_CONTEXT: the engine applies a HEAD CONTEXT. -/
  | headContext
  /-- RELEASE_CONTEXT: the engine applies a RELEASE CONTEXT. -/
  | releaseContext
  /-- LEVEL_TABLE: the engine applies a LEVEL TABLE. -/
  | levelTable
  /-- CHANNEL_SETUP: the engine applies a CHANNEL SETUP. -/
  | channelSetup
  /-- GLOBAL_SETUP: the engine applies a GLOBAL SETUP. -/
  | globalSetup
  /-- REPORT: the engine applies a REPORT. -/
  | report
  /-- CLEAR: the engine applies a CLEAR. -/
  | clear
  /-- DEFERRED_INCIDENT_STORE: the channel's deferred class-3 incident is stored. -/
  | deferredIncidentStore (ch : Ch)
  /-- CHANNEL_RESET: the engine applies a CHANNEL RESET. -/
  | channelReset
  /-- FORCE_LEVEL: the engine applies a FORCE LEVEL that carries no 0xFFFF. -/
  | forceLevel
  /-- FORCE_END: the engine applies a FORCE LEVEL with 0xFFFF. -/
  | forceEnd
  /-- UNKNOWN_KIND: the engine applies a frame of a kind not in the table. -/
  | unknownKind
  /-- REPORT_FRAME_END: the last stop bit of a report frame ends. -/
  | reportFrameEnd
deriving DecidableEq, Repr

end Sys2Proof
end

