-- ==== Sys2Proof/Config.lean ====
section
/-! DEFINITION. What the manual leaves open: the free values. Nothing can evaluate them, so no claim rests on them. -/

namespace Sys2Proof

/-- The n-th free choice of the order of two effects (or of two reasons) that the manual leaves to
"whichever is taken first" (log entries 7 and 8). -/
opaque Config.order : Nat → Bool

/-- The step size, less one, of a ramp with no loaded context and no force, for which the manual
gives none (log entry 9). -/
opaque Config.bareStep : BitVec 4

/-- The dwell, 0 standing for 1, of a ramp or of a hold at 0 with no loaded context and no force, for
which the manual gives none (log entry 9). -/
opaque Config.bareDwell : BitVec 6

end Sys2Proof
end

