-- ==== Sys2Proof/Machine/Parts.lean ====
section
/-! DEFINITION. The blocks of the part as plain data: what each block holds, by the tables of the spec's chapters. -/

namespace Sys2Proof.Machine

/-- A kept tick of R19: once it is 2^31 ticks old, every "d ticks have elapsed since it" stays true. -/
structure Stamp where
  tick : Tick
  old  : Bool
deriving DecidableEq, Repr

/-- The intake state of a channel (R4). -/
inductive Intake where
  | gap
  | storing
  | discarding
deriving DecidableEq, Repr

/-- A three-sample gate filter (R2). `run` counts agreeing samples of the opposite level; 3 means that
a filtered edge has been recognised and its step has still to be taken. -/
structure Filter where
  level : Bool
  run   : Nat
deriving DecidableEq, Repr

/-- A symbol in the delay line, with the burst sequence number of its record (R11). -/
structure Symbol where
  seq   : Seq
  value : Bool
deriving DecidableEq, Repr

/-- A rate window in progress: its start tick and the edges counted after its start edge (R20). -/
structure RateWindow where
  start : Tick
  edges : Nat
deriving DecidableEq, Repr

/-- The rate meter (R20 to R22). -/
structure RateMeter where
  window : Option RateWindow
  p      : Nat
  valid  : Bool
  slow   : Bool
deriving DecidableEq, Repr

/-- The states of a burst record (R35). -/
inductive RecState where
  | queued
  | preparing
  | releasing
  | tail
deriving DecidableEq, Repr

/-- A burst record (R35), with the length of its run in the delay line (R42) and the tick it entered
TAIL (R51). -/
structure Rec where
  seq        : Seq
  head       : HeadNo
  state      : RecState
  inputOpen  : Bool
  symIn      : Nat
  symOut     : Nat
  symDropped : Nat
  band       : Nat
  writeCode  : Code
  leadTicks  : Nat
  cold       : Bool
  allowance  : Option Nat
  bridged    : Bool
  truncated  : Bool
  run        : Nat
  tailFrom   : Tick
deriving DecidableEq, Repr

/-- What the laser sequencer is doing with the code: settled (at-write-since present) or in a ramp
(at-write-since absent), as R63 has it.
`settled since hold`: `since` is at-write-since; after a direct set to 0, `hold` is the dwell for which
the code is to be held at 0 (R69), else 0.
`ramp last dwell want held`: `last` is the tick of the last code change, `dwell` the dwell read at it,
`want` the landing code of the waiting step request, `held` the hold at 0 of R67. -/
inductive Motion where
  | settled (since : Stamp) (hold : Nat)
  | ramp (last : Stamp) (dwell : Nat) (want : Option Code) (held : Bool)
deriving DecidableEq, Repr

/-- The laser sequencer (04, opening table). `parkDue` is the model's: at its advance at the present tick the
park count stood at or above a park delay other than 0 (R76). -/
structure Sequencer where
  code      : Code
  target    : Code
  motion    : Motion
  ready     : Option Tick
  parkCount : Nat
  park      : Bool
  parkDue   : Bool
  force     : Option Code
deriving DecidableEq, Repr

/-- The lock states of a wedge timer (05). -/
inductive Lock where
  | unlocked
  | acquiring
  | locked
  | coasting
deriving DecidableEq, Repr

/-- The wedge timer (05, opening table): C, W and F as ticks, the wedge fields in effect. -/
structure Wedge where
  lock      : Lock
  last      : Tick
  good      : Nat
  first     : Option Int
  estimate  : Nat
  next      : Tick
  fenceTick : Tick
  miss      : Nat
  nominal   : Nat
  tolerance : Nat
  margin    : Nat
  fence     : Bool
deriving DecidableEq, Repr

/-- The phases of the link relay (09). -/
inductive LinkPhase where
  | wire
  | idle
  | header
  | catchUp
  | through
  | hold
  | replay
deriving DecidableEq, Repr

/-- The frame in the hold slot and its complete mark (R142, R145). -/
structure Slot where
  bits     : List Bool
  complete : Bool
deriving DecidableEq, Repr

/-- The link relay (09, opening table); `taken` and `given` stand until the next frame begins (log entry 11). `start` and `goal` are the tick at which the relay's own
downstream clocking begins and the bits it clocks (R140); `ending` says that the upstream frame has
ended in CATCH-UP (R141); `stretch` is the tick from which CATCH-UP holds LKCx low (R141); `lastOwn` is the PLKSx rise of the relay's last replay (R140). -/
structure Relay where
  phase     : LinkPhase
  taken     : List Bool
  given     : Nat
  start     : Tick
  stretch   : Tick
  goal      : Nat
  ending    : Bool
  slot      : Option Slot
  holdStart : Option Tick
  waiting   : Bool
  lastOwn   : Stamp
  selected  : Option HeadNo
deriving DecidableEq, Repr

/-- A frame of the directive queue (10, "The Directive Queue"). -/
structure Entry where
  kind    : BitVec 6
  target  : Ch
  head    : HeadNo
  payload : List Word
  source  : Ch
deriving DecidableEq, Repr

/-- A frame in assembly: the whole words taken, the symbols of the present word, the check register (R151, R152). -/
structure Assembly where
  words : List Word
  cur   : Word
  count : Nat
  crc   : Word
deriving DecidableEq, Repr

/-- The receiver's phase: HUNTING with its ones count, or ASSEMBLING (R150, R151). -/
inductive Hunt where
  | hunting (ones : Nat)
  | assembling (a : Assembly)
deriving DecidableEq, Repr

/-- A directive receiver (10, opening table). -/
structure Receiver where
  hunt         : Hunt
  waitingClear : Option Entry
deriving DecidableEq, Repr

/-- A channel setup (R135). -/
structure Setup where
  nominal    : Nat
  tolerance  : Nat
  margin     : Nat
  parkDelay  : Nat
  faultMask  : Nat
  priority   : Nat
  headsCount : Nat
  deadTime   : Nat
  holdLimit  : Nat
deriving DecidableEq, Repr

/-- The lead modes of a context (R125). -/
inductive LeadMode where
  | timed
  | ready
deriving DecidableEq, Repr

/-- A forbidden range [lo, hi] (R125). -/
structure Range where
  lo : Nat
  hi : Nat
deriving DecidableEq, Repr

/-- A band of a rate table (R24, R125). -/
structure Band where
  bound  : Nat
  code   : Code
  adjust : Int
deriving DecidableEq, Repr

/-- The fields of a head context (R125). -/
structure Context where
  bias         : Code
  read         : Code
  step         : Nat
  dwell        : Nat
  mode         : LeadMode
  lead         : Nat
  readyTimeout : Nat
  tail         : Nat
  coldLead     : Nat
  leak         : Nat
  releaseMark  : Nat
  holdMark     : Nat
  tripMark     : Nat
  ranges       : List Range
  bands        : List Band
deriving DecidableEq, Repr

/-- The pending state of a context (R125, R130, R131). -/
inductive Pending where
  | none
  | copy (c : Context)
  | unload
deriving DecidableEq, Repr

/-- One head: its context's active copy (absent when unloaded) and pending state, its accumulator
and hold flag (R125, R115, R118). -/
structure Head where
  active  : Option Context
  pending : Pending
  accum   : Nat
  hold    : Bool
deriving DecidableEq, Repr

/-- An entry of the level table: current in half-mA and heat weight (R134). -/
structure Level where
  current : Nat
  weight  : Nat
deriving DecidableEq, Repr

/-- The incident kinds (R165). -/
inductive Kind where
  | directiveBad
  | directiveCut
  | directiveOverrun
  | directiveRefused
  | directiveClamped
  | rateSlow
  | wedgeLost
  | headInvalid
  | refused
  | fenceCut
  | truncated
  | encroachment
  | delayOverflow
  | readyTimeout
  | headSwitchForced
  | thermalTrip
  | laserLost
deriving DecidableEq, Repr

/-- An incident as sent to the queue (R165); its class is fixed by its kind. -/
structure Incident where
  kind   : Kind
  ch     : Ch
  head   : Option HeadNo
  burst  : Option Seq
  detail : Nat
deriving DecidableEq, Repr

/-- A stored incident with its sequence number (R166). -/
structure Stored where
  number   : Seq
  incident : Incident
deriving DecidableEq, Repr

/-- A deferred class-3 incident (R167). `fresh` says that it was deferred at the present tick, and `tied` that
the one deferred before it was deferred at the same tick. -/
structure Deferred where
  incident : Incident
  fresh    : Bool
  tied     : Bool
deriving DecidableEq, Repr

/-- The engine's application: the frame and the tick the application ends (R156). -/
structure Application where
  entry   : Entry
  endTick : Tick
deriving DecidableEq, Repr

/-- A report frame in transmission: its bytes, the tick it began and its bit time (R172). -/
structure Transmission where
  bytes   : List Byte
  start   : Tick
  bitTime : Nat
deriving DecidableEq, Repr

/-- The straps sampled at reset release (R14). -/
structure Straps where
  register    : BitVec 6
  twoChannels : Bool
  bench       : Bool
  faultLow    : Bool
deriving DecidableEq, Repr

/-- One channel: its input line levels, its outputs that are state, and its blocks. `releaseTaken` is
the model's: the release side of the present write-clock edge has been taken (R11). -/
structure Channel where
  lrdy         : Bool
  pfi          : Bool
  lks          : Bool
  wg           : Filter
  sg           : Filter
  rg           : Filter
  hold         : List Bool
  intake       : Intake
  releaseTaken : Bool
  pwd          : Bool
  pwg          : Bool
  pwgFallDue   : Bool
  prg          : Bool
  pwgFall      : Stamp
  line         : List Symbol
  rate         : RateMeter
  queue        : List Rec
  nextSeq      : Seq
  laser        : Sequencer
  wedge        : Wedge
  relay        : Relay
  recv         : Receiver
  setup        : Setup
  heads        : List Head
deriving DecidableEq, Repr

end Sys2Proof.Machine
end

