-- ==== Sys2Proof/Machine/Initial.lean ====
section
/-! DEFINITION. The values of each block through power-on, RSTN and reset release (R2, R13, R15, R22, R60, R85, R102, R113, R124, R138, R149, R163, R173). -/

namespace Sys2Proof.Machine

/-- A kept tick that is replaced at tick `t`. -/
def stampAt (t : Tick) : Stamp := { tick := t, old := false }

/-- A gate filter at reset: low, no samples pending (R2). -/
def initialFilter : Filter := { level := false, run := 0 }

/-- The rate meter at reset (R22). -/
def initialRate : RateMeter := { window := none, p := 0, valid := false, slow := false }

/-- The laser sequencer at a reset dated `t` (R85). -/
def initialSequencer (t : Tick) : Sequencer :=
  { code := 0, target := 0, motion := .settled (stampAt t) 0, ready := none,
    parkCount := 0, park := true, parkDue := false, force := none }

/-- The wedge timer at a reset dated `t` (R102). Before the release, whose tick R102 gives C, W and F, `t` is the
tick of the fall of RSTN, or 0 at power-on (log entry 31). -/
def initialWedge (t : Tick) : Wedge :=
  { lock := .unlocked, last := t, good := 0, first := none, estimate := 16000, next := t,
    fenceTick := t, miss := 0, nominal := 16000, tolerance := 64, margin := 64, fence := false }

/-- The link relay at reset, in the phase given (R149). -/
def initialRelay (t : Tick) (phase : LinkPhase) : Relay :=
  { phase := phase, taken := [], given := 0, start := t, stretch := t, goal := 0, ending := false, slot := none,
    holdStart := none, waiting := false, lastOwn := { tick := t, old := true }, selected := none }

/-- A directive receiver at reset (R163). -/
def initialReceiver : Receiver := { hunt := .hunting 0, waitingClear := none }

/-- The channel setup defaults (R135). -/
def initialSetup : Setup :=
  { nominal := 16000, tolerance := 64, margin := 64, parkDelay := 1000, faultMask := 1,
    priority := 0, headsCount := 8, deadTime := 16, holdLimit := 1024 }

/-- A head at reset: its context unloaded, its hold flag clear, its accumulator as given (R124, R138). -/
def initialHead (accum : Nat) : Head :=
  { active := none, pending := .none, accum := accum, hold := false }

/-- The level table defaults: current 2c, weight c (R134). -/
def initialLevels : List Level :=
  (List.range 64).map fun c => { current := 2 * c, weight := c }

/-- The straps as sampled from the strap lines (R14). -/
def sampleStraps (lcA lcB : BitVec 6) : Straps :=
  { register := lcA, twoChannels := lcB.getLsbD 0, bench := lcB.getLsbD 1,
    faultLow := lcB.getLsbD 2 }

/-- A channel at a reset dated `t`, with the link phase, the input line levels and the accumulators
given: what power-on, RSTN low and reset release make of it. -/
def initialChannel (t : Tick) (phase : LinkPhase) (lrdy pfi lks : Bool) (accums : List Nat) :
    Channel :=
  { lrdy := lrdy, pfi := pfi, lks := lks,
    wg := initialFilter, sg := initialFilter, rg := initialFilter,
    hold := [], intake := .gap, releaseTaken := false,
    pwd := false, pwg := false, pwgFallDue := false, prg := false, pwgFall := stampAt t,
    line := [], rate := initialRate, queue := [], nextSeq := 0,
    laser := initialSequencer t, wedge := initialWedge t, relay := initialRelay t phase,
    recv := initialReceiver, setup := initialSetup, heads := accums.map initialHead }

end Sys2Proof.Machine
end

