-- ==== Sys2Proof/Machine/State.lean ====
section
/-! DEFINITION. State: everything the spec gives the part, as plain data; the reasons a step can stop; the state after reset. -/

namespace Sys2Proof.Machine

/-- The part stops for no reason of its own: every command has an effect or none, and the spec names no
fault of the part that ends its run. No constructor, so no step answers a fault (safe). -/
inductive Fault where
deriving DecidableEq, Repr

/-- Why a command has no meaning. -/
inductive Refusal where
  /-- Raised by an arm of exec whose command has no meaning yet; no arm raises it now. Safe: nothing
  is claimed of such a command. -/
  | notModelled (mnemonic : String)
deriving DecidableEq, Repr

/-- The state of the part. `pending`, `heatTaken`, `recheckDue` and `freeCount` are the model's own
(INVENTORY.md); all else is named by the spec. -/
structure State where
  /-- The commands that wait, first in first out. -/
  pending       : List Instr
  /-- The tick count (R17). -/
  now           : Tick
  /-- The heat tick of the present tick has been taken (R18). -/
  heatTaken     : Bool
  /-- RSTN is low (R15). -/
  rstnLow       : Bool
  /-- The straps of the most recent reset release (R14). -/
  straps        : Straps
  /-- Channel A. -/
  a             : Channel
  /-- Channel B. -/
  b             : Channel
  /-- The level table (R134). -/
  levels        : List Level
  /-- The supply ceiling in half-mA (R137). -/
  ceiling       : Nat
  /-- The report divider N (R137). -/
  reportDiv     : BitVec 8
  /-- The head-select register number (R137). -/
  selectReg     : BitVec 7
  /-- The contest loser (R108). -/
  loser         : Option Ch
  /-- Headroom was freed at this tick and the re-check has still to be taken (R107). -/
  recheckDue    : Bool
  /-- The directive queue, oldest first (R154). -/
  directives    : List Entry
  /-- OVERRUN is in force (R154). -/
  overrun       : Bool
  /-- The directive engine's application, absent when idle (R156). -/
  engine        : Option Application
  /-- The stored incidents, oldest first (R166). -/
  incidents     : List Stored
  /-- The next incident sequence number (R166). -/
  nextIncident  : Seq
  /-- The overflow indicator (R166). -/
  overflow      : Bool
  /-- The deferred class-3 incidents, earliest first (R167). -/
  deferred      : List Deferred
  /-- The report sequence number (R171). -/
  reportSeq     : BitVec 8
  /-- The report frame in transmission (R172). -/
  sending       : Option Transmission
  /-- The pending-report flag (R171). -/
  reportPending : Bool
  /-- How many free choices have been consumed. -/
  freeCount     : Nat
deriving DecidableEq, Repr

/-- The part right after power-on, with RSTN low: what the power-on columns of the spec state (R15, R22,
R60, R85, R102, R113, R124, R138, R149, R163, R173); the head-select register number and C, W and F, which the
spec gives from a release on, stand at 0 (log entries 4, 31). The first command that has an effect on it is
RESET_RELEASE. -/
def State.reset : State :=
  { pending := [], now := 0, heatTaken := true, rstnLow := true,
    straps := { register := 0, twoChannels := false, bench := false, faultLow := false },
    a := initialChannel 0 .wire false false true (List.replicate 8 0),
    b := initialChannel 0 .wire false false true (List.replicate 8 0),
    levels := initialLevels, ceiling := 200, reportDiv := 15, selectReg := 0, loser := none,
    recheckDue := false, directives := [], overrun := false, engine := none, incidents := [],
    nextIncident := 0, overflow := false, deferred := [], reportSeq := 0, sending := none,
    reportPending := false, freeCount := 0 }

end Sys2Proof.Machine
end

