-- ==== Sys2Proof/Machine/Plan.lean ====
section
/-! DEFINITION. Ticks and the heat plan: tick comparison, band, lead, ramp steps, ramp-down time, fence tick, allowance (R19, R24 to R34), the accumulator update (R115, R117) and the estimate updates (R88, R90). -/

namespace Sys2Proof.Machine

/-- The signed difference of two tick values (R19). -/
def tickDiff (x y : Tick) : Int := (x - y).toInt

/-- The ticks counted from `y` up to `x`, for intervals that stay short of the wrap. -/
def ticksFrom (y x : Tick) : Nat := (x - y).toNat

/-- `x` is at or after `y` (R19). -/
def atOrAfter (x y : Tick) : Bool := decide (0 ≤ tickDiff x y)

/-- "`d` ticks have elapsed since `b`" at the tick `now`, for a kept tick (R19). -/
def Stamp.elapsed (b : Stamp) (now : Tick) (d : Nat) : Bool :=
  b.old || decide (d ≤ ticksFrom b.tick now)

/-- What a kept tick becomes when the tick count reaches `now`: past 2^31 ticks it is old for good (R19). -/
def Stamp.age (b : Stamp) (now : Tick) : Stamp :=
  { b with old := b.old || decide (2 ^ 31 ≤ ticksFrom b.tick now) }

/-- `v` brought into lo..hi. -/
def clampInt (v lo hi : Int) : Int := max lo (min v hi)

/-- A code lies inside a range (R26). -/
def Range.has (r : Range) (c : Nat) : Bool := decide (r.lo ≤ c) && decide (c ≤ r.hi)

/-- A code lies inside one of the ranges. -/
def inRanges (rs : List Range) (c : Nat) : Bool := rs.any fun r => r.has c

/-- The landing of an up step kept out of the ranges, the rule applied up to `n` times (R26). -/
def escapeUp (rs : List Range) : Nat → Nat → Nat
  | 0, c => c
  | n + 1, c =>
    match rs.find? fun r => r.has c with
    | none => c
    | some r => escapeUp rs n (r.hi + 1)

/-- The landing of a down step, or a forced or clamped code, kept out of the ranges, the rule applied
up to `n` times (R27, R83, R129). -/
def escapeDown (rs : List Range) : Nat → Nat → Nat
  | 0, c => c
  | n + 1, c =>
    match rs.find? fun r => r.has c with
    | none => c
    | some r => escapeDown rs n (r.lo - 1)

/-- A code moved below the ranges it lies in (R83, R129). -/
def belowRanges (rs : List Range) (c : Code) : Code :=
  BitVec.ofNat 6 (escapeDown rs rs.length c.toNat)

/-- What a ramp reads at each step: step size, dwell and forbidden ranges (R65). -/
structure RampParams where
  step   : Nat
  dwell  : Nat
  ranges : List Range
deriving DecidableEq, Repr

/-- The ramp parameters of a context (R65). -/
def Context.ramp (c : Context) : RampParams :=
  { step := c.step, dwell := c.dwell, ranges := c.ranges }

/-- The ramp parameters under a force with no loaded context (R65). -/
def forcedRamp : RampParams := { step := 1, dwell := 63, ranges := [] }

/-- The ramp parameters with no loaded context and no force: free values (log entry 9). -/
def bareRamp : RampParams :=
  { step := Config.bareStep.toNat + 1, dwell := max 1 Config.bareDwell.toNat, ranges := [] }

/-- The code that a step from `c` toward `t` lands on (R26, R27); `c` itself when it is the target. -/
def nextCode (p : RampParams) (c t : Code) : Code :=
  if c.toNat < t.toNat then
    BitVec.ofNat 6 (escapeUp p.ranges p.ranges.length (min (c.toNat + p.step) t.toNat))
  else if t.toNat < c.toNat then
    BitVec.ofNat 6 (escapeDown p.ranges p.ranges.length (max (c.toNat - p.step) t.toNat))
  else c

/-- The step count of a ramp from `c` to `t`, counted to at most `n` steps (R27). -/
def countSteps (p : RampParams) : Nat → Code → Code → Nat
  | 0, _, _ => 0
  | n + 1, c, t => if c = t then 0 else countSteps p n (nextCode p c t) t + 1

/-- The ramp time from `c` to `t`, no waits counted (R29). A ramp has at most 63 steps (R27). -/
def rampTime (p : RampParams) (c t : Code) : Nat := countSteps p 63 c t * p.dwell

/-- The band for a period: the first whose bound is at or above it, else the last, with its index from
`i` on (R24). -/
def findBand (period : Nat) : Nat → List Band → Option (Nat × Band)
  | _, [] => none
  | i, [b] => some (i, b)
  | i, b :: rest => if period ≤ b.bound then some (i, b) else findBand period (i + 1) rest

/-- The band of a context for a period, with its index 1..6 (R24). -/
def Context.band (c : Context) (period : Nat) : Option (Nat × Band) := findBand period 1 c.bands

/-- The base lead of a band (R25). -/
def baseLead (c : Context) (b : Band) : Nat := (clampInt (c.lead + b.adjust) 0 1023).toNat

/-- The write code of the present band; of the last band while P has never been valid (R29, R31). -/
def presentWriteCode (c : Context) (r : RateMeter) : Code :=
  match (if r.valid then c.band r.p else c.bands.getLast?.map fun b => (c.bands.length, b)) with
  | some (_, b) => b.code
  | none => c.read

/-- The ramp-down time of a head (R29). -/
def rampDown (c : Context) (r : RateMeter) : Nat := rampTime c.ramp (presentWriteCode c r) c.read

/-- The fence tick counted back from W; without tail and ramp-down when there is no context (R30, R31). -/
def fenceTickOf (w : Tick) (margin : Nat) (c : Option Context) (r : RateMeter) : Tick :=
  let guard := match c with
    | some c => c.tail + rampDown c r
    | none => 0
  w - BitVec.ofNat 32 (margin + guard)

/-- The timer predicts: the lock state is LOCKED or COASTING. -/
def Lock.predicts : Lock → Bool
  | .locked => true
  | .coasting => true
  | .unlocked => false
  | .acquiring => false

/-- The largest allowance and the largest symbol count. -/
def maxSymbols : Nat := 1048575

/-- The release allowance at the release tick (R32, R33). -/
def allowanceOf (lock : Lock) (fence release : Tick) (period : Nat) : Nat :=
  if lock.predicts then
    let d := tickDiff fence release
    if d ≤ 0 then 0 else min maxSymbols (d.toNat * 1024 / period)
  else maxSymbols

/-- A symbol count raised by `n`, saturating (R35, R42). -/
def satAdd (a n : Nat) : Nat := min maxSymbols (a + n)

/-- The accumulator update of one heat tick (R115). -/
def heatUpdate (accum weight leak : Nat) : Nat := min 65535 (accum + weight - accum / 2 ^ leak)

/-- A period estimate brought into its range (R88, R90). -/
def clampEstimate (e : Int) : Nat := (clampInt e 1000 1048575).toNat

/-- An interval lies within the tolerance of a period (R88, R90). -/
def within (i : Int) (period tolerance : Nat) : Bool := decide ((i - period).natAbs ≤ tolerance)

end Sys2Proof.Machine
end

