-- ==== Sys2Proof/Machine/Access.lean ====
section
/-! DEFINITION. Reading and writing the parts of State: channels, heads, level table, and the quantities read off them. -/

namespace Sys2Proof.Machine

/-- The other channel. -/
def otherCh : Ch → Ch
  | .A => .B
  | .B => .A

/-- A channel of the part. -/
def State.chan (s : State) : Ch → Channel
  | .A => s.a
  | .B => s.b

/-- The state with one channel replaced. -/
def State.setChan (s : State) (ch : Ch) (c : Channel) : State :=
  match ch with
  | .A => { s with a := c }
  | .B => { s with b := c }

/-- The state with one channel changed. -/
def State.onChan (s : State) (ch : Ch) (f : Channel → Channel) : State := s.setChan ch (f (s.chan ch))

/-- The channel is present: channel A, or the channel-count strap was 1 (R10, R14). -/
def State.present (s : State) : Ch → Bool
  | .A => true
  | .B => s.straps.twoChannels

/-- The channel takes its inputs: RSTN is high and the channel is present (R10, R15). -/
def State.live (s : State) (ch : Ch) : Bool := !s.rstnLow && s.present ch

/-- A head of a channel. -/
def Channel.headAt (c : Channel) (h : HeadNo) : Head := c.heads.getD h.toNat (initialHead 0)

/-- The channel with one head replaced. -/
def Channel.setHead (c : Channel) (h : HeadNo) (x : Head) : Channel :=
  { c with heads := c.heads.set h.toNat x }

/-- The active context of a head, absent when unloaded. -/
def Channel.contextOf (c : Channel) (h : HeadNo) : Option Context := (c.headAt h).active

/-- The active context of the selected head, absent when the head is none or unloaded. -/
def Channel.context (c : Channel) : Option Context := c.relay.selected.bind c.contextOf

/-- The selected head's entry. -/
def Channel.selectedHead (c : Channel) : Option Head := c.relay.selected.map c.headAt

/-- The head record of the channel's burst queue (R36). -/
def Channel.headRec (c : Channel) : Option Rec := c.queue.head?

/-- The queue holds a record of head `h` (R132). -/
def Channel.hasRecordOf (c : Channel) (h : HeadNo) : Bool := c.queue.any fun r => r.head == h

/-- The forbidden ranges in force for the channel's code. -/
def Channel.ranges (c : Channel) : List Range :=
  match c.context with
  | some x => x.ranges
  | none => []

/-- What a ramp of the channel reads at this tick (R65). -/
def Channel.rampParams (c : Channel) : RampParams :=
  match c.context with
  | some x => x.ramp
  | none => if c.laser.force.isSome then forcedRamp else bareRamp

/-- The waiting step request of a sequencer, as its landing code. -/
def Sequencer.want (q : Sequencer) : Option Code :=
  match q.motion with
  | .ramp _ _ w _ => w
  | .settled _ _ => none

/-- The code has settled: no ramp in progress, at-write-since present (R63). -/
def Sequencer.isSettled (q : Sequencer) : Bool :=
  match q.motion with
  | .settled _ _ => true
  | .ramp _ _ _ _ => false

/-- The level-table current of a code (R104). -/
def State.current (s : State) (c : Code) : Nat := (s.levels.getD c.toNat { current := 0, weight := 0 }).current

/-- The level-table heat weight of a code (R116). -/
def State.weight (s : State) (c : Code) : Nat := (s.levels.getD c.toNat { current := 0, weight := 0 }).weight

/-- The present code of a channel (R61). -/
def State.code (s : State) (ch : Ch) : Code := (s.chan ch).laser.code

/-- The used sum (R104). -/
def State.used (s : State) : Nat := s.current (s.code .A) + s.current (s.code .B)

/-- The tick read by an event: `d` ticks have elapsed since the kept tick `b` (R19). -/
def State.elapsed (s : State) (b : Stamp) (d : Nat) : Bool := b.elapsed s.now d

/-- `d` ticks have passed from `b` to the present tick, `b` being younger than 2^31 ticks (R19). -/
def State.passed (s : State) (b : Tick) (d : Nat) : Bool := decide (d ≤ ticksFrom b s.now)

/-- The present tick as a fresh kept tick. -/
def State.stamp (s : State) : Stamp := stampAt s.now

/-- A free choice of order (log entry 7). -/
def State.choose (s : State) : Bool := Config.order s.freeCount

/-- The state with one free choice consumed. -/
def State.chosen (s : State) : State := { s with freeCount := s.freeCount + 1 }

/-- Two effects of one step whose order the manual leaves open, taken in the order of a free choice. -/
def State.eitherOrder (s : State) (f g : State → State) : State :=
  if s.choose then g (f s.chosen) else f (g s.chosen)

end Sys2Proof.Machine
end

