-- ==== Sys2Proof/Machine/Flags.lean ====
section
/-! DEFINITION. What follows from the state: incident classes and lockout, write fault, the sequencer's target case and state, write ready, the conditions of admission. -/

namespace Sys2Proof.Machine

/-- The class of an incident kind (R164, R165). -/
def Kind.cls : Kind → Nat
  | .directiveBad | .directiveCut | .directiveOverrun | .directiveRefused | .directiveClamped
  | .rateSlow | .wedgeLost | .headInvalid => 1
  | .refused | .fenceCut | .truncated | .encroachment | .delayOverflow | .readyTimeout
  | .headSwitchForced => 2
  | .thermalTrip | .laserLost => 3

/-- The kind code of an incident (R164). -/
def Kind.code : Kind → Nat
  | .directiveBad => 1
  | .directiveCut => 2
  | .directiveOverrun => 3
  | .directiveRefused => 4
  | .directiveClamped => 5
  | .rateSlow => 6
  | .wedgeLost => 7
  | .headInvalid => 8
  | .refused => 16
  | .fenceCut => 17
  | .truncated => 18
  | .encroachment => 19
  | .delayOverflow => 20
  | .readyTimeout => 21
  | .headSwitchForced => 22
  | .thermalTrip => 32
  | .laserLost => 33

/-- A class-3 incident of the channel (R169). -/
def Incident.locks (i : Incident) (ch : Ch) : Bool := i.ch == ch && i.kind.cls == 3

/-- The channel is in LOCKOUT: the queue holds a class-3 incident of it, stored or deferred (R167, R169). -/
def State.lockedOut (s : State) (ch : Ch) : Bool :=
  (s.incidents.any fun x => x.incident.locks ch) || (s.deferred.any fun x => x.incident.locks ch)

/-- The write fault of a channel is asserted (R168); never for an absent channel B (R10). -/
def State.writeFault (s : State) (ch : Ch) : Bool :=
  s.present ch &&
    ((s.chan ch).pfi
      || (s.incidents.any fun x =>
            x.incident.ch == ch && decide ((s.chan ch).setup.faultMask < x.incident.kind.cls))
      || s.lockedOut ch)

/-- The cases of R62 that choose the target. -/
inductive TargetCase where
  | lockout
  | force
  | record
  | noContext
  | fence
  | read
  | park
  | idle
deriving DecidableEq, Repr

/-- The case of R62 that applies, with the target it gives. -/
def State.targetOf (s : State) (ch : Ch) : TargetCase × Code :=
  let c := s.chan ch
  if s.lockedOut ch then (.lockout, 0)
  else match c.laser.force with
    | some f => (.force, belowRanges c.ranges f)
    | none =>
      match c.headRec with
      | some r => (.record, r.writeCode)
      | none =>
        match c.context with
        | none => (.noContext, 0)
        | some x =>
          if c.wedge.fence then (.fence, x.read)
          else if c.rg.level then (.read, x.read)
          else if c.laser.park then (.park, 0)
          else (.idle, x.bias)

/-- The states of the laser sequencer (R63). -/
inductive SeqState where
  | parked
  | idle
  | reading
  | ramp
  | preheat
  | writing
  | tail
  | fenced
  | forced
  | lockout
deriving DecidableEq, Repr

/-- The values by which a report gives the sequencer state (R63). -/
def SeqState.value : SeqState → Nat
  | .parked => 0
  | .idle => 1
  | .reading => 2
  | .ramp => 3
  | .preheat => 4
  | .writing => 5
  | .tail => 6
  | .fenced => 7
  | .forced => 8
  | .lockout => 9

/-- The state of the laser sequencer (R63). -/
def State.seqState (s : State) (ch : Ch) : SeqState :=
  let c := s.chan ch
  match (s.targetOf ch).1 with
  | .lockout => .lockout
  | .force => .forced
  | .fence => .fenced
  | k =>
    if !c.laser.isSettled then .ramp
    else match k with
      | .record =>
        match c.headRec with
        | some r =>
          match r.state with
          | .releasing => .writing
          | .tail => .tail
          | .preparing => .preheat
          | .queued => .preheat
        | none => .parked
      | .read => .reading
      | .idle => .idle
      | _ => .parked

/-- The head record's lead mode is READY (R70). -/
def Channel.readyMode (c : Channel) (r : Rec) : Bool :=
  match c.contextOf r.head with
  | some x => x.mode == .ready
  | none => false

/-- Write ready for a record (R70): it is PREPARING or RELEASING, the code is settled at its write code,
its lead has elapsed since at-write-since, and in READY mode LRDYx is high. A fall and a new rise of LRDYx in
PREPARING ask for no fresh lead (R71 over the end of R70; log entry 29). -/
def State.writeReady (s : State) (ch : Ch) (r : Rec) : Bool :=
  let c := s.chan ch
  (r.state == .preparing || r.state == .releasing)
    && c.laser.code == r.writeCode
    && (match c.laser.motion with
        | .settled since _ => s.elapsed since r.leadTicks
        | .ramp _ _ _ _ => false)
    && (!c.readyMode r || c.lrdy)

/-- The head record is RELEASING. -/
def Channel.isReleasing (c : Channel) : Bool :=
  match c.headRec with
  | some r => r.state == .releasing
  | none => false

/-- The reasons of a refused rise, in the order they are checked (R39). -/
inductive Reason where
  | lockout
  | servoActive
  | fenced
  | gateConflict
  | headPending
  | noContext
  | noRate
  | thermalHold
  | overCeiling
  | queueFull
deriving DecidableEq, Repr

/-- The detail value of a reason (R39). -/
def Reason.value : Reason → Nat
  | .lockout => 1
  | .servoActive => 2
  | .fenced => 3
  | .gateConflict => 4
  | .headPending => 5
  | .noContext => 6
  | .noRate => 7
  | .thermalHold => 8
  | .overCeiling => 9
  | .queueFull => 10

/-- What an admitted record takes from the context store: its head, the active context, and the band
with its index (R35). -/
structure Admission where
  head    : HeadNo
  context : Context
  index   : Nat
  band    : Band
deriving DecidableEq, Repr

/-- Checks 7 to 10 of R39, once the selected head's context is at hand. -/
def State.admitWith (s : State) (ch : Ch) (h : HeadNo) (x : Context) : Except Reason Admission :=
  let c := s.chan ch
  if !c.rate.valid then .error .noRate
  else if (c.headAt h).hold then .error .thermalHold
  else match x.band c.rate.p with
    | none => .error .noContext
    | some (i, b) =>
      if s.ceiling < s.current b.code then .error .overCeiling
      else if 8 ≤ c.queue.length then .error .queueFull
      else .ok { head := h, context := x, index := i, band := b }

/-- Admission of a write-gate rise: the first failing check of R39 refuses it. -/
def State.admission (s : State) (ch : Ch) : Except Reason Admission :=
  let c := s.chan ch
  if s.lockedOut ch then .error .lockout
  else if c.sg.level then .error .servoActive
  else if c.wedge.fence then .error .fenced
  else if c.rg.level then .error .gateConflict
  else if c.relay.slot.isSome then .error .headPending
  else match c.relay.selected with
    | none => .error .noContext
    | some h =>
      match (c.headAt h).active, (c.headAt h).pending with
      | none, _ => .error .noContext
      | some _, .unload => .error .noContext
      | some x, _ => s.admitWith ch h x

end Sys2Proof.Machine
end

