-- ==== Sys2Proof/Machine/Ops.lean ====
section
/-! DEFINITION. The shared operations: incidents, headroom, the laser code, the fence window, promotion, lockout, the burst queue. -/

namespace Sys2Proof.Machine

/-! ### Incidents (R165 to R167) -/

/-- An incident with its detail brought down to 65,535 (R165). -/
def incident (kind : Kind) (ch : Ch) (head : Option HeadNo) (burst : Option Seq) (detail : Nat) :
    Incident :=
  { kind := kind, ch := ch, head := head, burst := burst, detail := min 65535 detail }

/-- An incident reaches the queue: it is stored and numbered, or deferred, or lost (R166, R167). -/
def State.post (s : State) (i : Incident) : State :=
  if s.incidents.length < 16 then
    { s with
      incidents := s.incidents ++ [{ number := s.nextIncident, incident := i }]
      nextIncident := s.nextIncident + 1 }
  else if i.kind.cls == 3 && !(s.deferred.any fun d => d.incident.ch == i.ch) then
    { s with
      overflow := true
      deferred := s.deferred ++
        [{ incident := i, fresh := true, tied := s.deferred.any fun d => d.fresh }] }
  else { s with overflow := true }

/-- Incidents of one event, in their order (R166). -/
def State.postAll (s : State) (is : List Incident) : State := is.foldl State.post s

/-! ### Headroom (R104 to R109) -/

/-- A waiting step request exists. -/
def State.anyWaiting (s : State) : Bool := s.a.laser.want.isSome || s.b.laser.want.isSome

/-- Headroom was freed: a re-check is due at this tick if a request waits (R107). -/
def State.freed (s : State) : State := { s with recheckDue := s.recheckDue || s.anyWaiting }

/-- The current a step of `ch` to `b` asks for: Δ of R105. -/
def State.stepCost (s : State) (ch : Ch) (b : Code) : Int :=
  (s.current b : Int) - (s.current (s.code ch) : Int)

/-- The test of R105: Δ is 0 or less, or the used sum plus Δ is within the ceiling. -/
def State.fits (s : State) (ch : Ch) (b : Code) : Bool :=
  decide (s.stepCost ch b ≤ 0) || decide ((s.used : Int) + s.stepCost ch b ≤ (s.ceiling : Int))

/-- The sequencer takes a step to `b`: the next is due one dwell later, and the ready timer stops (R65, R66, R72). -/
def Channel.stepTo (c : Channel) (now : Tick) (b : Code) : Channel :=
  { c with laser := { c.laser with
      code := b
      motion := .ramp (stampAt now) c.rampParams.dwell none false
      ready := none } }

/-- A step of `ch` to `b` is taken; a down step, or a step that lowers the sum, frees headroom (R104, R107). -/
def State.stepTo (s : State) (ch : Ch) (b : Code) : State :=
  let t := s.onChan ch fun c => c.stepTo s.now b
  if b.toNat < (s.code ch).toNat || decide (s.stepCost ch b < 0) then t.freed else t

/-- The waiting request of `ch` at a re-check: granted and taken if it fits (R107). The Bool says whether. -/
def State.grant (s : State) (ch : Ch) : State × Bool :=
  match (s.chan ch).laser.want with
  | some b => if s.fits ch b then (s.stepTo ch b, true) else (s, false)
  | none => (s, false)

/-- The channel taken first in a contest (R108). -/
def State.firstInContest (s : State) : Ch :=
  if s.b.setup.priority < s.a.setup.priority then .A
  else if s.a.setup.priority < s.b.setup.priority then .B
  else s.loser.getD .A

/-- The contest loser after a contest (R108). -/
def loserAfter (first : Ch) (g1 g2 : Bool) (before : Option Ch) : Option Ch :=
  match g1, g2 with
  | true, false => some (otherCh first)
  | false, true => some first
  | _, _ => before

/-- A contest between both waiting requests (R108). A re-check that a grant in it calls for comes after the loser is
updated (log entry 40). -/
def State.contest (s : State) : State :=
  let first := s.firstInContest
  let r1 := s.grant first
  let r2 := r1.1.grant (otherCh first)
  { r2.1 with loser := loserAfter first r1.2 r2.2 s.loser }

/-- A re-check of the waiting requests (R107, R108). -/
def State.recheck (s : State) : State :=
  let s := { s with recheckDue := false }
  match s.a.laser.want, s.b.laser.want with
  | none, none => s
  | some _, none => (s.grant .A).1
  | none, some _ => (s.grant .B).1
  | some _, some _ => s.contest

/-- A re-check that is still due is taken before the next event that reaches the arbiter (R109). -/
def State.settleRecheck (s : State) : State := if s.recheckDue then s.recheck else s

/-! ### The laser code (R61 to R69) -/

/-- The dwell, or the hold at 0, that followed the last code change has passed. -/
def State.stepIsDue (s : State) (ch : Ch) : Bool :=
  match (s.chan ch).laser.motion with
  | .settled since hold => s.elapsed since hold
  | .ramp last dwell _ _ => s.elapsed last dwell

/-- A motion held up by a step request that waits for `b` (R66). At-write-since is absent from the change of the
target on, though the first step has still to be granted (R63 over R65; log entry 30). -/
def Motion.waitFor : Motion → Code → Motion
  | .settled since hold, b => .ramp since hold (some b) false
  | .ramp last dwell _ _, b => .ramp last dwell (some b) false

/-- The next step of the ramp, at the tick it is due: a down step is taken, an up step is taken if the
arbiter grants it at once, and else its request waits (R26, R27, R65, R66, R105). -/
def State.takeStep (s0 : State) (ch : Ch) : State :=
  let s := s0.settleRecheck
  let q := (s.chan ch).laser
  let b := nextCode (s.chan ch).rampParams q.code q.target
  if q.target == q.code then s
  else if q.target.toNat < q.code.toNat || s.fits ch b then s.stepTo ch b
  else s.onChan ch fun c =>
    { c with laser := { c.laser with motion := c.laser.motion.waitFor b } }

/-- The motion turned toward a new target at `code`, when no step is taken at once (R64, R67, R69): a
waiting request is cleared; a hold at 0 whose new target is 0 ends settled. -/
def Motion.turn : Motion → Bool → Motion
  | .settled since hold, atTarget => if atTarget then .settled since hold else .ramp since hold none true
  | .ramp last dwell _ held, atTarget =>
    if atTarget && held then .settled last dwell else .ramp last dwell none held

/-- The sequencer after its target changed (R64, R67): a step that is due is taken at once. -/
def State.turn (s : State) (ch : Ch) : State :=
  let due := s.stepIsDue ch
  let q := (s.chan ch).laser
  let s := s.onChan ch fun c =>
    { c with laser := { q with motion := q.motion.turn (q.code == q.target) } }
  if q.code != q.target && due then s.takeStep ch else s

/-- The park count is 0 outside IDLE (R76). -/
def State.leaveIdle (s : State) (ch : Ch) : State :=
  if s.seqState ch == .idle then s
  else s.onChan ch fun c => { c with laser := { c.laser with parkCount := 0, parkDue := false } }

/-- A recomputation of the target (R62, R64). -/
def State.retarget (s : State) (ch : Ch) : State :=
  let t := (s.targetOf ch).2
  let s1 :=
    if t == (s.chan ch).laser.target then s
    else (s.onChan ch fun c => { c with laser := { c.laser with target := t } }).turn ch
  s1.leaveIdle ch

/-- The direct set of the code to 0 (R69): no ramp, no request, the ready timer stopped, at-write-since
now, and a hold at 0 of one dwell before the next step, in LOCKOUT too (over R82; log entry 15). The target is 0
until it is recomputed, which every caller does next. -/
def State.directZero (s0 : State) (ch : Ch) : State :=
  let s := s0.settleRecheck
  (s.onChan ch fun c =>
    { c with laser := { c.laser with
        code := 0, target := 0, motion := .settled s.stamp c.rampParams.dwell, ready := none } }).freed

/-! ### PWGx, the delay line and the queue -/

/-- A forced fall of PWGx, with PWDx returned to 0 (R6). -/
def Channel.dropGate (c : Channel) (now : Tick) : Channel :=
  { c with
    pwg := false, pwd := false, pwgFallDue := false
    pwgFall := if c.pwg then stampAt now else c.pwgFall }

/-- STORING becomes DISCARDING (R5). -/
def Intake.discard : Intake → Intake
  | .storing => .discarding
  | .gap => .gap
  | .discarding => .discarding

/-- The intake once the given records have been cut: DISCARDING when one of them is the open record (R5). -/
def Intake.afterCut (i : Intake) (cut : List Rec) : Intake :=
  if cut.any fun r => r.inputOpen then i.discard else i

/-- The symbols stored for the given records. -/
def runTotal (rs : List Rec) : Nat := (rs.map fun r => r.run).sum

/-- Every record is removed with its symbols, and PWGx falls (R56, R57, R58). -/
def Channel.removeAll (c : Channel) (now : Tick) : Channel :=
  let d := c.dropGate now
  { d with
    line := [], queue := [], intake := d.intake.discard
    laser := { d.laser with ready := none } }

/-- The incident of a record (R59). -/
def Rec.incident (r : Rec) (ch : Ch) (kind : Kind) (detail : Nat) : Incident :=
  Machine.incident kind ch (some r.head) (some r.seq) detail

/-- A channel enters LOCKOUT, its class-3 incident being stored or deferred: every record is removed
with its REFUSED incident, and the code is set to 0 (R56, R81, R169). A promotion of the selected head that the
emptied queue calls for follows at this tick, after the set to 0 (R132; log entry 35). -/
def State.enterLockout (s : State) (ch : Ch) : State :=
  let recs := (s.chan ch).queue
  let s1 := s.onChan ch fun c => c.removeAll s.now
  let s2 := (s1.directZero ch).retarget ch
  s2.postAll (recs.map fun r => r.incident ch .refused Reason.lockout.value)

/-- A class-3 incident is raised: it enters LOCKOUT if the channel is not in it already (R169). The incident and
the REFUSEDs of the removed records reach the queue one after the other, before the next event of the tick
(log entry 32). -/
def State.raiseFault (s : State) (i : Incident) : State :=
  let s1 := s.post i
  if s.lockedOut i.ch then s1 else s1.enterLockout i.ch

/-! ### Thermal evaluation (R118, R119) -/

/-- The hold flag after an evaluation of a loaded head (R118). -/
def holdAfter (x : Context) (accum : Nat) (before : Bool) : Bool :=
  if x.holdMark ≤ accum then true else if accum ≤ x.releaseMark then false else before

/-- The THERMAL_TRIP of a head (R119). -/
def State.tripIncident (s : State) (ch : Ch) (h : HeadNo) : Incident :=
  incident .thermalTrip ch (some h) ((s.chan ch).headRec.map fun r => r.seq)
    ((s.chan ch).headAt h).accum

/-- The evaluation of a head: nothing when it is unloaded (R115, R118, R119). -/
def State.evaluate (s : State) (ch : Ch) (h : HeadNo) : State :=
  let hd := (s.chan ch).headAt h
  match hd.active with
  | none => s
  | some x =>
    let s1 := s.onChan ch fun c => c.setHead h { hd with hold := holdAfter x hd.accum hd.hold }
    if x.tripMark ≤ hd.accum && !s.lockedOut ch then s1.raiseFault (s1.tripIncident ch h) else s1

/-! ### The fence window (R96 to R98, R53) -/

/-- F is not after the present tick while the timer predicts (R97). -/
def State.fenceReached (s : State) (ch : Ch) : Bool :=
  let w := (s.chan ch).wedge
  w.lock.predicts && atOrAfter s.now w.fenceTick

/-- The records a fence beginning leaves: a head record that has been released (R53). -/
def keptAtFence : List Rec → List Rec
  | [] => []
  | r :: _ => if r.state == .releasing || r.state == .tail then [r] else []

/-- The records a fence beginning cuts, oldest first (R53). -/
def cutAtFence (q : List Rec) : List Rec := q.drop (keptAtFence q).length

/-- The channel at a fence beginning: the window open, the park condition clear, the unreleased records
and their runs gone (R53, R77, R97). -/
def Channel.beginFence (c : Channel) : Channel :=
  let cut := cutAtFence c.queue
  { c with
    wedge := { c.wedge with fence := true }
    queue := keptAtFence c.queue
    line := c.line.take (c.line.length - runTotal cut)
    intake := c.intake.afterCut cut
    laser := { c.laser with
      park := false
      ready := if (keptAtFence c.queue).isEmpty then none else c.laser.ready } }

/-- A fence beginning, all but what its neighbours do at it (R53, R97). -/
def State.beginFence (s : State) (ch : Ch) : State :=
  let cut := cutAtFence (s.chan ch).queue
  (s.onChan ch Channel.beginFence).postAll (cut.map fun r => r.incident ch .fenceCut 0)

/-- F computed afresh (R96). -/
def State.computeFence (s : State) (ch : Ch) : State :=
  s.onChan ch fun c =>
    { c with wedge := { c.wedge with
        fenceTick := fenceTickOf c.wedge.next c.wedge.margin c.context c.rate } }

/-- A recomputation of F at the promotion or unload of the selected head's context: the queue holds no
record that the window could cut (R96, R132). -/
def State.refenceEmpty (s : State) (ch : Ch) : State :=
  if (s.chan ch).wedge.lock.predicts then
    let s1 := s.computeFence ch
    if s1.fenceReached ch && !(s1.chan ch).wedge.fence then (s1.beginFence ch).retarget ch else s1
  else s

/-! ### Promotion and unload (R79, R121, R132) -/

/-- The sequencer at a promotion of its selected head's context (R79): code 0 when the code lies inside a
new range; else a waiting request is cleared and the step asked for again at once. -/
def State.promoteLaser (s : State) (ch : Ch) (x : Context) : State :=
  let q := (s.chan ch).laser
  if inRanges x.ranges q.code.toNat then (s.directZero ch).retarget ch
  else if q.want.isSome then
    let s1 := s.onChan ch fun c =>
      { c with laser := { c.laser with motion := c.laser.motion.turn false } }
    let s2 := s1.retarget ch
    let q2 := (s2.chan ch).laser
    if !q2.isSettled && q2.want.isNone && s2.stepIsDue ch then s2.takeStep ch else s2
  else s.retarget ch

/-- The waiting pending copy or pending unload of a head is carried out (R132): the thermal monitor first, then the
sequencer, then the wedge timer, whose new F may open the window (log entry 36). -/
def State.promote (s : State) (ch : Ch) (h : HeadNo) : State :=
  let c := s.chan ch
  let hd := c.headAt h
  let sel := c.relay.selected == some h
  match hd.pending with
  | .none => s
  | .copy x =>
    let s1 := s.onChan ch fun c => c.setHead h { hd with active := some x, pending := .none }
    let s2 := s1.evaluate ch h
    if sel then (s2.promoteLaser ch x).refenceEmpty ch else s2
  | .unload =>
    let s1 := s.onChan ch fun c =>
      c.setHead h { hd with active := none, pending := .none, hold := false }
    if sel then ((s1.directZero ch).retarget ch).refenceEmpty ch else s1

/-- The selected head's context waits for a promotion or an unload. -/
def Channel.selectedPending (c : Channel) : Option HeadNo :=
  match c.relay.selected with
  | some h => if (c.headAt h).pending == .none then none else some h
  | none => none

/-- The queue has become empty (R36): the sequencer takes its target without a record. When the context
store has a promotion to carry out for the same head, either block may be taken first: the store at
once, or after the sequencer as a PROMOTION that is then due at this tick (R132; log entry 7). -/
def State.announceEmpty (s : State) (ch : Ch) : State :=
  match (s.chan ch).selectedPending with
  | none => s.retarget ch
  | some h => if s.choose then (s.chosen.promote ch h).retarget ch else s.chosen.retarget ch

/-! ### The head record (R36, R44) -/

/-- The ready timer starts for a record that becomes the head record with the code already settled at its
write code, in READY mode (R72). -/
def State.startReady (s : State) (ch : Ch) : State :=
  let c := s.chan ch
  match c.headRec with
  | some r =>
    if r.state == .preparing && c.readyMode r && c.laser.isSettled && c.laser.code == r.writeCode then
      s.onChan ch fun c => { c with laser := { c.laser with ready := some s.now } }
    else s
  | none => s

/-- A record as it becomes the head record, finding the code at `code` (R25, R44). -/
def Rec.asHead (r : Rec) (code : Code) (coldLead : Nat) (bridged : Bool) : Rec :=
  { r with
    state := .preparing
    bridged := bridged
    cold := code == 0
    leadTicks := r.leadTicks + (if code == 0 then coldLead else 0) }

/-- The cold lead of a record's head (R25). -/
def Channel.coldLeadOf (c : Channel) (r : Rec) : Nat :=
  match c.contextOf r.head with
  | some x => x.coldLead
  | none => 0

/-- The oldest record becomes the head record (R44, R74, R77). -/
def State.becomeHead (s : State) (ch : Ch) (bridged : Bool) : State :=
  let c := s.chan ch
  match c.queue with
  | [] => s
  | r :: rest =>
    let s1 := s.onChan ch fun c =>
      { c with
        queue := r.asHead c.laser.code (c.coldLeadOf r) bridged :: rest
        laser := { c.laser with park := false, ready := none } }
    (s1.retarget ch).startReady ch

/-- What follows the departure of the head record (R36, R52). -/
def State.afterDeparture (s : State) (ch : Ch) (bridged : Bool) : State :=
  if (s.chan ch).queue.isEmpty then s.announceEmpty ch else s.becomeHead ch bridged

/-- The head record leaves, its run removed by a leading discard (R12, R36, R52). -/
def Channel.dropHead (c : Channel) : Channel :=
  match c.queue with
  | [] => c
  | r :: rest =>
    { c with
      queue := rest
      line := c.line.drop r.run
      intake := c.intake.afterCut [r]
      laser := { c.laser with ready := none } }

/-- The head record leaves the queue, with the incidents it leaves behind (R36, R52). -/
def State.departHead (s : State) (ch : Ch) (bridged : Bool) (is : List Incident) : State :=
  ((s.onChan ch Channel.dropHead).postAll is).afterDeparture ch bridged

/-! ### Opening and closing the fence window (R97, R98) -/

/-- The fence window opens, if it is closed (R97). `had` says that the queue held a record before the
event, so that its emptying is announced (R36, R53). -/
def State.openFenceAfter (s : State) (ch : Ch) (had : Bool) : State :=
  if (s.chan ch).wedge.fence then s
  else
    let s1 := s.beginFence ch
    if had && (s1.chan ch).queue.isEmpty then s1.announceEmpty ch else s1.retarget ch

/-- The fence window opens, if it is closed (R97). -/
def State.openFence (s : State) (ch : Ch) : State := s.openFenceAfter ch (!(s.chan ch).queue.isEmpty)

/-- A recomputation of F (R96); one that is not after the present tick opens the window (R97). -/
def State.refence (s : State) (ch : Ch) : State :=
  if (s.chan ch).wedge.lock.predicts then
    let s1 := s.computeFence ch
    if s1.fenceReached ch then s1.openFence ch else s1
  else s

/-- The fence window closes, unless filtered SGx is high or F is not after the present tick (R98). -/
def State.closeFence (s : State) (ch : Ch) : State :=
  let c := s.chan ch
  if c.wedge.fence && !c.sg.level && !s.fenceReached ch then
    (s.onChan ch fun c => { c with wedge := { c.wedge with fence := false } }).retarget ch
  else s

/-! ### Head switch (R78, R144) -/

/-- The selected head is updated: the code is set to 0, the park condition cleared, the target and F
recomputed (R78, R96, R144). -/
def State.switchHead (s : State) (ch : Ch) (h : Option HeadNo) : State :=
  let s1 := s.onChan ch fun c =>
    { c with relay := { c.relay with selected := h }, laser := { c.laser with park := false } }
  ((s1.directZero ch).retarget ch).refence ch

/-- The selected head of a channel. -/
def State.selected (s : State) (ch : Ch) : Option HeadNo := (s.chan ch).relay.selected

end Sys2Proof.Machine
end

