-- ==== Sys2Proof/Machine/Operands.lean ====
section
/-! DEFINITION. Directive frames: the check, the receiver, the header and every payload layout (R150 to R152, R157, R164), with the store's checks and clamps (R126 to R129, R134, R135). -/

namespace Sys2Proof.Machine

/-! ### The check and the symbols of a frame (R151, R152) -/

/-- The check register after one symbol (R152). -/
def crcSymbol (reg : Word) (b : Bool) : Word :=
  let shifted := reg <<< 1
  if b != reg.msb then shifted ^^^ 0x1021#16 else shifted

/-- The check register after a run of symbols. -/
def crcSymbols (reg : Word) (bs : List Bool) : Word := bs.foldl crcSymbol reg

/-- The symbols of a word, most significant first. -/
def wordSymbols (w : Word) : List Bool := (List.range 16).map fun i => w.getLsbD (15 - i)

/-- The check register after whole words, from all ones (R152). -/
def crcWords (ws : List Word) : Word := ws.foldl (fun reg w => crcSymbols reg (wordSymbols w)) 0xFFFF#16

/-- The channel bit of a header or an incident: 0 is A, 1 is B (R164). -/
def chBit : Ch → Nat
  | .A => 0
  | .B => 1

/-- The header word of a frame (R164). -/
def headerWord (kind : BitVec 6) (target : Ch) (head : HeadNo) (n : Nat) : Word :=
  BitVec.ofNat 16 (kind.toNat * 1024 + chBit target * 512 + head.toNat * 64 + n % 32)

/-- A word on the line: its symbols and its guard symbol (R151). -/
def guarded (w : Word) : List Bool := wordSymbols w ++ [true]

/-- The symbols of a good frame with a marker of `marker` ones (R150, R151). -/
def frameSymbols (marker : Nat) (kind : BitVec 6) (target : Ch) (head : HeadNo) (payload : List Word) :
    List Bool :=
  let ws := headerWord kind target head payload.length :: payload
  List.replicate marker true ++ [false] ++ (ws.flatMap guarded) ++ guarded (crcWords ws)

/-! ### The receiver (R150 to R152) -/

/-- What a symbol brings about: nothing, a bad frame with its detail, or a good frame's words. -/
inductive Received where
  | nothing
  | bad (detail : Nat)
  | good (header : Word) (payload : List Word)
deriving DecidableEq, Repr

/-- A frame in assembly right after its start symbol (R150). -/
def startAssembly : Assembly := { words := [], cur := 0, count := 0, crc := 0xFFFF#16 }

/-- The index of the check word, n + 1, once the header is whole (R151). -/
def Assembly.checkIndex (a : Assembly) : Option Nat :=
  a.words.head?.map fun h => h.toNat % 32 + 1

/-- The word being taken is the check word. -/
def Assembly.atCheck (a : Assembly) : Bool := a.checkIndex == some a.words.length

/-- A symbol of a word in assembly; the check word is not taken into the check register (R151, R152). -/
def Assembly.takeSymbol (a : Assembly) (b : Bool) : Assembly :=
  { a with
    cur := (a.cur <<< 1) ||| (if b then 1#16 else 0#16)
    count := a.count + 1
    crc := if a.atCheck then a.crc else crcSymbol a.crc b }

/-- A guard symbol: 0 is a bad frame; after the check word the frame is complete; else assembly goes on (R151, R152). -/
def Assembly.takeGuard (a : Assembly) (b : Bool) : Hunt × Received :=
  if !b then (.hunting 0, .bad (256 + a.words.length))
  else if a.atCheck then
    if a.cur == a.crc then
      (.hunting 0, .good (a.words.headD 0) a.words.tail)
    else (.hunting 0, .bad (512 + a.words.length))
  else (.assembling { a with words := a.words ++ [a.cur], cur := 0, count := 0 }, .nothing)

/-- A symbol handed to a receiver (R150, R151). -/
def Hunt.take : Hunt → Bool → Hunt × Received
  | .hunting ones, true => (.hunting (min 32 (ones + 1)), .nothing)
  | .hunting ones, false =>
    if ones == 32 then (.assembling startAssembly, .nothing) else (.hunting 0, .nothing)
  | .assembling a, b =>
    if a.count < 16 then (.assembling (a.takeSymbol b), .nothing) else a.takeGuard b

/-! ### Headers and kinds (R157, R164) -/

/-- Places `hi`..`lo` of a word, as a number. -/
def Word.field (w : Sys2Proof.Word) (hi lo : Nat) : Nat := w.toNat / 2 ^ lo % 2 ^ (hi + 1 - lo)

/-- The entry a good frame makes in the directive queue (R154, R164). -/
def entryOf (source : Ch) (header : Word) (payload : List Word) : Entry :=
  { kind := BitVec.ofNat 6 (Word.field header 15 10)
    target := if header.getLsbD 9 then .B else .A
    head := BitVec.ofNat 3 (Word.field header 8 6)
    payload := payload
    source := source }

/-- The directive kinds (R157). -/
inductive Directive where
  | headContext
  | releaseContext
  | levelTable
  | channelSetup
  | globalSetup
  | report
  | clear
  | channelReset
  | forceLevel
deriving DecidableEq, Repr

/-- The kind a code stands for, if it is in the table (R157). -/
def kindOf (code : BitVec 6) : Option Directive :=
  match code.toNat with
  | 1 => some .headContext
  | 2 => some .releaseContext
  | 3 => some .levelTable
  | 4 => some .channelSetup
  | 5 => some .globalSetup
  | 6 => some .report
  | 7 => some .clear
  | 8 => some .channelReset
  | 9 => some .forceLevel
  | _ => none

/-- The payload length is one the kind allows (R157, check 2). -/
def Directive.lengthOk : Directive → Nat → Bool
  | .headContext, n => decide (10 ≤ n)
  | .releaseContext, n => n == 0
  | .levelTable, n => decide (1 ≤ n)
  | .channelSetup, n => n == 7
  | .globalSetup, n => n == 2
  | .report, n => n == 0
  | .clear, n => n == 1
  | .channelReset, n => n == 0
  | .forceLevel, n => n == 1

/-- The kind names a channel (R157). -/
def Directive.namesChannel : Directive → Bool
  | .headContext | .releaseContext | .channelSetup | .channelReset | .forceLevel => true
  | .levelTable | .globalSetup | .report | .clear => false

/-- The kind names a head (R157). -/
def Directive.namesHead : Directive → Bool
  | .headContext | .releaseContext => true
  | .levelTable | .channelSetup | .globalSetup | .report | .clear | .channelReset | .forceLevel => false

/-- The kind is quiet (R157, R159). -/
def Directive.quiet : Directive → Bool
  | .levelTable | .globalSetup => true
  | .headContext | .releaseContext | .channelSetup | .report | .clear | .channelReset
  | .forceLevel => false

/-- The reasons of a refused directive (R157). -/
inductive RefuseReason where
  | unknownKind
  | length
  | channelAbsent
  | headRange
  | notBench
  | busy
  | payload
  | ceiling
deriving DecidableEq, Repr

/-- The reason values (R157). -/
def RefuseReason.value : RefuseReason → Nat
  | .unknownKind => 1
  | .length => 2
  | .channelAbsent => 3
  | .headRange => 4
  | .notBench => 5
  | .busy => 6
  | .payload => 7
  | .ceiling => 8

/-- Checks 2 to 6 of R157: the first that fails. -/
def State.generalCheck (s : State) (d : Directive) (e : Entry) : Option RefuseReason :=
  if !d.lengthOk e.payload.length then some .length
  else if d.namesChannel && !s.present e.target then some .channelAbsent
  else if d.namesHead && decide ((s.chan e.target).setup.headsCount ≤ e.head.toNat) then some .headRange
  else if d == .forceLevel && !s.straps.bench then some .notBench
  else if d.quiet && !(s.a.queue.isEmpty && s.b.queue.isEmpty) then some .busy
  else none

/-- Payload word `i`, counted from 1. -/
def Entry.word (e : Entry) (i : Nat) : Word := e.payload.getD (i - 1) 0

/-! ### HEAD CONTEXT (R126 to R129, R164) -/

/-- The range count of a HEAD CONTEXT payload (R164). -/
def rangeCount (e : Entry) : Nat := Word.field (e.word 10) 9 8

/-- The band count of a HEAD CONTEXT payload (R164). -/
def bandCount (e : Entry) : Nat := Word.field (e.word 10) 2 0

/-- A range word (R164). -/
def rangeOfWord (w : Word) : Range := { lo := Word.field w 13 8, hi := Word.field w 5 0 }

/-- A band's two words (R164). -/
def bandOfWords (w1 w2 : Word) : Band :=
  { bound := Word.field w1 11 0
    code := BitVec.ofNat 6 (Word.field w2 13 8)
    adjust := (BitVec.ofNat 8 (Word.field w2 7 0)).toInt }

/-- The forbidden ranges a HEAD CONTEXT carries, in its order: as many as its count says and its payload holds
(R164). -/
def rangesOf (e : Entry) : List Range :=
  ((e.payload.drop 10).take (rangeCount e)).map rangeOfWord

/-- At most `n` bands from a run of words, two words each; a word with no second makes none (log entry 8). -/
def bandsOfWords : Nat → List Word → List Band
  | n + 1, w1 :: w2 :: rest => bandOfWords w1 w2 :: bandsOfWords n rest
  | _, _ => []

/-- The bands a HEAD CONTEXT carries, in its order: as many as its count says and its payload holds (R164). -/
def bandsOf (e : Entry) : List Band :=
  bandsOfWords (bandCount e) (e.payload.drop (10 + rangeCount e))

/-- The fields of a HEAD CONTEXT as received, before any clamp (R164). -/
def contextOfPayload (e : Entry) : Context :=
  { bias := BitVec.ofNat 6 (Word.field (e.word 1) 13 8)
    read := BitVec.ofNat 6 (Word.field (e.word 1) 5 0)
    step := Word.field (e.word 2) 12 8
    dwell := Word.field (e.word 2) 5 0
    mode := if (e.word 3).getLsbD 15 then .ready else .timed
    lead := Word.field (e.word 3) 9 0
    readyTimeout := Word.field (e.word 4) 11 0
    tail := Word.field (e.word 5) 7 0
    coldLead := Word.field (e.word 6) 11 0
    leak := Word.field (e.word 5) 15 12
    releaseMark := (e.word 7).toNat
    holdMark := (e.word 8).toNat
    tripMark := (e.word 9).toNat
    ranges := rangesOf e
    bands := bandsOf e }

/-- The words of a range and of a band, as the controller writes them (R164). -/
def Range.word (r : Range) : Word := BitVec.ofNat 16 (r.lo * 256 + r.hi)

/-- The two words of a band, as the controller writes them (R164). -/
def Band.words (b : Band) : List Word :=
  [BitVec.ofNat 16 b.bound,
    BitVec.ofNat 16 (b.code.toNat * 256 + (BitVec.ofInt 8 b.adjust).toNat)]

/-- The payload that carries a context, as the controller writes it (R164). -/
def Context.words (c : Context) : List Word :=
  [BitVec.ofNat 16 (c.bias.toNat * 256 + c.read.toNat),
    BitVec.ofNat 16 (c.step * 256 + c.dwell),
    BitVec.ofNat 16 ((if c.mode = .ready then 32768 else 0) + c.lead),
    BitVec.ofNat 16 c.readyTimeout,
    BitVec.ofNat 16 (c.leak * 4096 + c.tail),
    BitVec.ofNat 16 c.coldLead,
    BitVec.ofNat 16 c.releaseMark, BitVec.ofNat 16 c.holdMark, BitVec.ofNat 16 c.tripMark,
    BitVec.ofNat 16 (c.ranges.length * 256 + c.bands.length)]
    ++ c.ranges.map Range.word ++ c.bands.flatMap Band.words

/-- The payload length matches the counts (R126). -/
def countsMatch (e : Entry) : Bool := e.payload.length == 10 + rangeCount e + 2 * bandCount e

/-- A range is well formed: 1 ≤ lo ≤ hi ≤ 62 (R126). -/
def Range.ok (r : Range) : Bool := decide (1 ≤ r.lo) && decide (r.lo ≤ r.hi) && decide (r.hi ≤ 62)

/-- Two ranges share no code (R126). -/
def Range.apart (r q : Range) : Bool := decide (r.hi < q.lo) || decide (q.hi < r.lo)

/-- No two ranges of the list share a code (R126). -/
def rangesApart : List Range → Bool
  | [] => true
  | r :: rest => (rest.all fun q => r.apart q) && rangesApart rest

/-- The bounds rise strictly from above `low` (R127). -/
def boundsRise : Nat → List Band → Bool
  | _, [] => true
  | low, b :: rest => decide (low < b.bound) && boundsRise b.bound rest

/-- No write code is 0, nor would be 0 after the clamp (R127, R129). -/
def writeCodesOk (c : Context) : Bool :=
  c.bands.all fun b => b.code != 0 && belowRanges c.ranges b.code != 0

/-- The conditions of R126 to R128 other than the length of the payload. -/
def contextOk (c : Context) (ranges bands : Nat) : Bool :=
  decide (ranges ≤ 2) && decide (1 ≤ bands) && decide (bands ≤ 6)
    && (c.ranges.all fun r => r.ok) && rangesApart c.ranges
    && boundsRise 0 c.bands && writeCodesOk c
    && decide (c.releaseMark < c.holdMark) && decide (c.holdMark ≤ c.tripMark)

/-- A number brought into lo..hi. -/
def clampNat (v lo hi : Nat) : Nat := max lo (min v hi)

/-- The clamps of an accepted HEAD CONTEXT (R129). -/
def clampContext (c : Context) : Context :=
  { c with
    step := clampNat c.step 1 16
    dwell := max 1 c.dwell
    readyTimeout := max 1 c.readyTimeout
    leak := clampNat c.leak 4 12
    bias := belowRanges c.ranges c.bias
    read := belowRanges c.ranges c.read
    bands := c.bands.map fun b => { b with code := belowRanges c.ranges b.code } }

/-! ### The other payloads (R134, R135, R164) -/

/-- The first code of a LEVEL TABLE (R164). -/
def firstCode (e : Entry) : Nat := Word.field (e.word 1) 5 0

/-- The entries of a LEVEL TABLE (R164). -/
def levelEntries (e : Entry) : List Level :=
  e.payload.tail.map fun w => { current := Word.field w 15 8, weight := Word.field w 7 0 }

/-- The payload checks of a LEVEL TABLE (R134): the first code is not 0 and the entries end by code 63. -/
def levelTableOk (e : Entry) : Bool :=
  decide (1 ≤ firstCode e) && decide (firstCode e + (levelEntries e).length ≤ 64)

/-- The level table with entries written from code `c` on (R134). -/
def writeLevels (c : Nat) : List Level → List Level → List Level
  | [], table => table
  | x :: rest, table => writeLevels (c + 1) rest (table.set c x)

/-- The fields of a CHANNEL SETUP (R164). -/
def setupOfPayload (e : Entry) : Setup :=
  { nominal := Word.field (e.word 1) 3 0 * 65536 + (e.word 2).toNat
    tolerance := Word.field (e.word 3) 11 0
    margin := Word.field (e.word 4) 11 0
    parkDelay := (e.word 5).toNat
    faultMask := Word.field (e.word 1) 9 8
    priority := Word.field (e.word 1) 7 6
    headsCount := Word.field (e.word 1) 15 12
    deadTime := Word.field (e.word 6) 7 0
    holdLimit := (e.word 7).toNat }

/-- The payload that carries a channel setup, as the controller writes it (R164). -/
def Setup.words (x : Setup) : List Word :=
  [BitVec.ofNat 16
      (x.headsCount * 4096 + x.faultMask * 256 + x.priority * 64 + x.nominal / 65536),
    BitVec.ofNat 16 x.nominal, BitVec.ofNat 16 x.tolerance, BitVec.ofNat 16 x.margin,
    BitVec.ofNat 16 x.parkDelay, BitVec.ofNat 16 x.deadTime, BitVec.ofNat 16 x.holdLimit]

/-- The range checks of a CHANNEL SETUP (R135). -/
def setupOk (x : Setup) : Bool :=
  decide (1000 ≤ x.nominal) && decide (x.nominal ≤ 1048575) && decide (1 ≤ x.tolerance)
    && decide (x.faultMask ≤ 2) && decide (1 ≤ x.headsCount) && decide (x.headsCount ≤ 8)
    && decide (1 ≤ x.holdLimit)

/-- The ceiling a GLOBAL SETUP carries (R164). -/
def ceilingOf (e : Entry) : Nat := Word.field (e.word 1) 9 0

/-- The report divider a GLOBAL SETUP carries (R164). -/
def reportDivOf (e : Entry) : BitVec 8 := BitVec.ofNat 8 (Word.field (e.word 2) 15 8)

/-- The head-select register number a GLOBAL SETUP carries (R164). -/
def selectRegOf (e : Entry) : BitVec 7 := BitVec.ofNat 7 (Word.field (e.word 2) 6 0)

/-- A FORCE LEVEL frame that ends the force (R162). -/
def isForceEnd (e : Entry) : Bool := e.payload == [0xFFFF#16]

end Sys2Proof.Machine
end

