-- ==== Sys2Proof/Machine/Bursts.lean ====
section
/-! DEFINITION. Release, tail expiry, ready timeout and promotion: RELEASE, TAIL_EXPIRY, READY_TIMEOUT, PROMOTION (R45, R46, R51, R55, R72, R132). -/

namespace Sys2Proof.Machine

/-- What every command's meaning answers. -/
abbrev Result := Host.Outcome State Fault Refusal

/-- The state with its head record changed. -/
def Channel.onHead (c : Channel) (f : Rec → Rec) : Channel :=
  match c.queue with
  | [] => c
  | r :: rest => { c with queue := f r :: rest }

/-! ### Release (R45, R46) -/

/-- The head record is to be released at this tick (R45): PREPARING, write ready, PRGx low, the fence
window closed. -/
def State.releaseDue (s : State) (ch : Ch) : Bool :=
  let c := s.chan ch
  s.live ch && !c.prg && !c.wedge.fence &&
    match c.headRec with
    | some r => r.state == .preparing && s.writeReady ch r
    | none => false

/-- The allowance of a release at this tick (R32 to R34). -/
def State.allowanceNow (s : State) (ch : Ch) : Nat :=
  let c := s.chan ch
  allowanceOf c.wedge.lock c.wedge.fenceTick s.now c.rate.p

/-- A record as it is released with a nonzero allowance (R45). -/
def Rec.asReleased (r : Rec) (allowance : Nat) : Rec :=
  { r with state := .releasing, allowance := some allowance }

/-- The release of the head record, or its FENCE_CUT when the allowance is 0 (R45, R46). -/
def State.releaseHead (s : State) (ch : Ch) : State :=
  match (s.chan ch).headRec with
  | none => s
  | some r =>
    let n := s.allowanceNow ch
    if n == 0 then s.departHead ch false [r.incident ch .fenceCut 0]
    else s.onChan ch fun c =>
      let d := c.onHead fun r => r.asReleased n
      { d with laser := { d.laser with ready := none } }

/-- RELEASE. -/
def execRelease (ch : Ch) (s : State) : Result :=
  .next (if s.releaseDue ch then s.releaseHead ch else s)

/-! ### Tail (R51) -/

/-- The tail time of a record's head (R51). -/
def Channel.tailOf (c : Channel) (r : Rec) : Nat :=
  match c.contextOf r.head with
  | some x => x.tail
  | none => 0

/-- The head record is in TAIL and its tail time has elapsed (R51). -/
def State.tailDue (s : State) (ch : Ch) : Bool :=
  let c := s.chan ch
  s.live ch &&
    match c.headRec with
    | some r => r.state == .tail && s.passed r.tailFrom (c.tailOf r)
    | none => false

/-- TAIL_EXPIRY. -/
def execTailExpiry (ch : Ch) (s : State) : Result :=
  .next (if s.tailDue ch then s.departHead ch false [] else s)

/-! ### Ready timeout (R55, R72) -/

/-- The ready timeout of a record's head (R72). -/
def Channel.readyTimeoutOf (c : Channel) (r : Rec) : Nat :=
  match c.contextOf r.head with
  | some x => x.readyTimeout
  | none => 0

/-- The ready timer has run out with the head record still PREPARING (R72). -/
def State.readyTimeoutDue (s : State) (ch : Ch) : Bool :=
  let c := s.chan ch
  s.live ch &&
    match c.headRec, c.laser.ready with
    | some r, some t => r.state == .preparing && s.passed t (c.readyTimeoutOf r)
    | _, _ => false

/-- The incidents of a ready timeout (R55). -/
def Channel.timeoutIncidents (c : Channel) (ch : Ch) : List Incident :=
  match c.headRec with
  | some r => [r.incident ch .readyTimeout 0]
  | none => []

/-- READY_TIMEOUT. -/
def execReadyTimeout (ch : Ch) (s : State) : Result :=
  .next
    (if s.readyTimeoutDue ch then s.departHead ch false ((s.chan ch).timeoutIncidents ch) else s)

/-! ### Promotion (R132) -/

/-- A promotion or unload of the head waits, and no record of the head is queued (R132). -/
def State.promotionDue (s : State) (ch : Ch) (h : HeadNo) : Bool :=
  let c := s.chan ch
  s.live ch && (c.headAt h).pending != .none && !c.hasRecordOf h

/-- PROMOTION. -/
def execPromotion (ch : Ch) (h : HeadNo) (s : State) : Result :=
  .next (if s.promotionDue ch h then s.promote ch h else s)

/-- The promotion that the emptying of the queue has called for is taken before the next rise of the
channel is answered (R36, R132). -/
def State.settleStore (s : State) (ch : Ch) : State :=
  match (s.chan ch).relay.selected with
  | some h => if s.promotionDue ch h then s.promote ch h else s
  | none => s

end Sys2Proof.Machine
end

