-- ==== Sys2Proof/Machine/Gates.lean ====
section
/-! DEFINITION. The gates and the preamplifier's inputs: WRITE_GATE_RISE, WRITE_GATE_FALL, READ_GATE_RISE, READ_GATE_FALL, PRG_RISE, SERVO_GATE_RISE, SERVO_GATE_FALL, LRDY_RISE, LRDY_FALL, PFI_CHANGE. -/

namespace Sys2Proof.Machine

/-- A filter at the recognition of an edge to `level`: the new level, no samples pending (R2). -/
def filterAt (level : Bool) : Filter := { level := level, run := 0 }

/-! ### The write gate (R5, R38, R39, R41, R150, R153) -/

/-- The record of an admitted rise (R35). Its cold field is no until it becomes the head record (log entry 26). -/
def newRecord (a : Admission) (seq : Seq) : Rec :=
  { seq := seq, head := a.head, state := .queued, inputOpen := true, symIn := 0, symOut := 0,
    symDropped := 0, band := a.index, writeCode := a.band.code,
    leadTicks := baseLead a.context a.band, cold := false, allowance := none, bridged := false,
    truncated := false, run := 0, tailFrom := 0 }

/-- An admitted record joins the queue (R41): as head record of an empty queue, as the newest behind a
record whose tail it ends, or in QUEUED. -/
def State.enqueue (s : State) (ch : Ch) (r : Rec) : State :=
  let add (c : Channel) : Channel := { c with queue := c.queue ++ [r] }
  match (s.chan ch).headRec with
  | none => (s.onChan ch add).becomeHead ch false
  | some q =>
    if q.state == .tail then (s.onChan ch fun c => add c.dropHead).becomeHead ch true
    else s.onChan ch add

/-- The answer of admission to a rise that has taken number `n` (R38, R39, R41). -/
def State.answerRise (s : State) (ch : Ch) (n : Seq) : State :=
  match s.admission ch with
  | .ok a => (s.onChan ch fun c => { c with intake := .storing }).enqueue ch (newRecord a n)
  | .error e =>
    (s.onChan ch fun c => { c with intake := .discarding }).post
      (incident .refused ch (s.selected ch) (some n) e.value)

/-- A rise ends the frame in assembly as cut, with the count of whole words (R153); otherwise it sets
the ones count to 0 (R150). -/
def State.cutFrame (s : State) (ch : Ch) (n : Seq) : State :=
  let s1 := s.onChan ch fun c => { c with recv := { c.recv with hunt := .hunting 0 } }
  match (s.chan ch).recv.hunt with
  | .hunting _ => s1
  | .assembling a => s1.post (incident .directiveCut ch none (some n) a.words.length)

/-- The receiver is assembling a frame. -/
def Channel.assembling (c : Channel) : Bool :=
  match c.recv.hunt with
  | .hunting _ => false
  | .assembling _ => true

/-- A filtered write-gate rise (R38, R39). The receiver's incident and admission's are numbered in
either order (R166). -/
def State.writeRise (s : State) (ch : Ch) : State :=
  let n := (s.chan ch).nextSeq
  let s1 := s.onChan ch fun c => { c with wg := filterAt true, nextSeq := n + 1 }
  let s2 := s1.settleStore ch
  if (s2.chan ch).assembling then
    s2.eitherOrder (fun t => t.cutFrame ch n) (fun t => t.answerRise ch n)
  else (s2.cutFrame ch n).answerRise ch n

/-- A filtered write-gate fall: the open record's input closes and the intake is in GAP (R5, R42). -/
def State.writeFall (s : State) (ch : Ch) : State :=
  s.onChan ch fun c =>
    { c with
      wg := filterAt false
      intake := .gap
      queue := c.queue.map fun r => { r with inputOpen := false } }

/-- WRITE_GATE_RISE. -/
def execWriteGateRise (ch : Ch) (s : State) : Result :=
  .next (if s.live ch && !(s.chan ch).wg.level then s.writeRise ch else s)

/-- WRITE_GATE_FALL. -/
def execWriteGateFall (ch : Ch) (s : State) : Result :=
  .next (if s.live ch && (s.chan ch).wg.level then s.writeFall ch else s)

/-! ### The read gate (R7, R75, R77) -/

/-- A filtered read-gate rise (R75, R77). -/
def State.readRise (s : State) (ch : Ch) : State :=
  (s.onChan ch fun c =>
    { c with rg := filterAt true, laser := { c.laser with park := false } }).retarget ch

/-- A filtered read-gate fall: PRGx falls, or its wait ends (R7, R75). -/
def State.readFall (s : State) (ch : Ch) : State :=
  (s.onChan ch fun c => { c with rg := filterAt false, prg := false }).retarget ch

/-- READ_GATE_RISE. -/
def execReadGateRise (ch : Ch) (s : State) : Result :=
  .next (if s.live ch && !(s.chan ch).rg.level then s.readRise ch else s)

/-- READ_GATE_FALL. -/
def execReadGateFall (ch : Ch) (s : State) : Result :=
  .next (if s.live ch && (s.chan ch).rg.level then s.readFall ch else s)

/-- PRGx is to rise at this tick (R7). A record that is RELEASING cancels the rise: its PWGx rises at
the next symbol (log entry 10). Once such a record is gone without a symbol, PWGx having stayed low, the rise waits
for R7's three conditions alone (log entry 27). -/
def State.prgDue (s : State) (ch : Ch) : Bool :=
  let c := s.chan ch
  s.live ch && !c.prg && c.rg.level && !c.pwg && !c.isReleasing
    && s.elapsed c.pwgFall c.setup.deadTime

/-- PRG_RISE. -/
def execPrgRise (ch : Ch) (s : State) : Result :=
  .next (if s.prgDue ch then s.onChan ch fun c => { c with prg := true } else s)

/-! ### The servo gate (R54, R86 to R91, R97, R98) -/

/-- A servo-gate rise on the head record: a RELEASING record is ended by encroachment, all but what
follows its departure; a PWGx fall that is due takes place now (R54). -/
def State.encroach (s : State) (ch : Ch) : State :=
  let c := s.chan ch
  match c.headRec with
  | some r =>
    if r.state == .releasing then
      (s.onChan ch fun c => (c.dropGate s.now).dropHead).post (r.incident ch .encroachment r.symOut)
    else s.onChan ch fun c =>
      { c with pwg := false, pwgFallDue := false, pwgFall := if c.pwg then s.stamp else c.pwgFall }
  | none => s.onChan ch fun c =>
      { c with pwg := false, pwgFallDue := false, pwgFall := if c.pwg then s.stamp else c.pwgFall }

/-- Release control and the fence window at a servo-gate rise (R54, R97). -/
def State.servoFence (s : State) (ch : Ch) : State :=
  let c := s.chan ch
  let s1 := s.encroach ch
  if c.wedge.fence then
    if c.isReleasing then s1.afterDeparture ch false else s1
  else s1.openFenceAfter ch (!c.queue.isEmpty)

/-- The wedge timer with the channel setup's wedge fields copied (R86). -/
def Channel.copyFields (c : Channel) : Wedge :=
  { c.wedge with
    nominal := c.setup.nominal, tolerance := c.setup.tolerance, margin := c.setup.margin }

/-- A capture in ACQUIRING at tick `now` with interval `i`, the fields copied (R88). -/
def Wedge.acquire (w : Wedge) (now : Tick) (i : Int) : Wedge :=
  if within i w.nominal w.tolerance then
    if w.good == 0 then { w with good := 1, first := some i, last := now }
    else
      let e := clampEstimate ((w.first.getD 0 + i) / 2)
      { w with
        good := 2, estimate := e, last := now, next := now + BitVec.ofNat 32 e, miss := 0
        lock := .locked }
  else { w with good := 0, first := none, last := now }

/-- A capture in tolerance of E (R90). -/
def Wedge.track (w : Wedge) (now : Tick) (i : Int) : Wedge :=
  let e := clampEstimate ((3 * (w.estimate : Int) + i) / 4)
  { w with
    estimate := e, last := now, next := now + BitVec.ofNat 32 e, miss := 0, lock := .locked }

/-- A capture out of tolerance of E (R91). -/
def Wedge.lose (w : Wedge) (now : Tick) : Wedge :=
  { w with last := now, good := 0, miss := 0, lock := .acquiring }

/-- The interval of a capture at this tick (R86). -/
def State.interval (s : State) (ch : Ch) : Int := tickDiff s.now (s.chan ch).wedge.last

/-- A capture at this tick would lose lock (R91). -/
def State.losesLock (s : State) (ch : Ch) : Bool :=
  let c := s.chan ch
  c.wedge.lock.predicts && !within (s.interval ch) c.wedge.estimate c.setup.tolerance

/-- The capture of a servo-gate rise (R86 to R91). An interval is judged by R90 alone, also after a coast on the same
tick (R94; log entry 39). -/
def State.capture (s : State) (ch : Ch) : State :=
  let c := s.chan ch
  let i := s.interval ch
  let w := c.copyFields
  let put (w' : Wedge) : State := s.onChan ch fun c => { c with wedge := w' }
  match w.lock with
  | .unlocked => put { w with last := s.now, good := 0, lock := .acquiring }
  | .acquiring => (put (w.acquire s.now i)).refence ch
  | _ =>
    if within i w.estimate w.tolerance then (put (w.track s.now i)).refence ch
    else (put (w.lose s.now)).post (incident .wedgeLost ch (s.selected ch) none i.toNat)

/-- A filtered servo-gate rise: encroachment, fence and capture. When the capture raises WEDGE_LOST, its
incident and release control's are numbered in either order (R166). -/
def State.servoRise (s : State) (ch : Ch) : State :=
  let s1 := s.onChan ch fun c => { c with sg := filterAt true }
  if s1.losesLock ch then s1.eitherOrder (fun t => t.servoFence ch) (fun t => t.capture ch)
  else (s1.servoFence ch).capture ch

/-- A filtered servo-gate fall (R98). -/
def State.servoFall (s : State) (ch : Ch) : State :=
  (s.onChan ch fun c => { c with sg := filterAt false }).closeFence ch

/-- SERVO_GATE_RISE. -/
def execServoGateRise (ch : Ch) (s : State) : Result :=
  .next (if s.live ch && !(s.chan ch).sg.level then s.servoRise ch else s)

/-- SERVO_GATE_FALL. -/
def execServoGateFall (ch : Ch) (s : State) : Result :=
  .next (if s.live ch && (s.chan ch).sg.level then s.servoFall ch else s)

/-! ### LRDYx and PFIx (R9, R71, R73, R168) -/

/-- LRDY_RISE: the level is the line's; a write-ready record is then due for release (R71). -/
def execLrdyRise (ch : Ch) (s : State) : Result :=
  .next (s.onChan ch fun c => { c with lrdy := true })

/-- A fall of LRDYx is a loss of the laser: the head record is RELEASING in READY mode (R73). -/
def State.laserLost (s : State) (ch : Ch) : Option Rec :=
  let c := s.chan ch
  match c.headRec with
  | some r => if s.live ch && c.lrdy && r.state == .releasing && c.readyMode r then some r else none
  | none => none

/-- LRDY_FALL. -/
def execLrdyFall (ch : Ch) (s : State) : Result :=
  let s1 := s.onChan ch fun c => { c with lrdy := false }
  .next
    (match s.laserLost ch with
     | some r => s1.raiseFault (r.incident ch .laserLost r.symOut)
     | none => s1)

/-- PFI_CHANGE: WFOx follows the level (State.writeFault). -/
def execPfiChange (ch : Ch) (level : Bool) (s : State) : Result :=
  .next (s.onChan ch fun c => { c with pfi := level })

end Sys2Proof.Machine
end

