-- ==== Sys2Proof/Machine/Frames.lean ====
section
/-! DEFINITION. Directive frames from the receiver to the queue: DIRECTIVE_FRAME, WAITING_CLEAR_JOIN (R150 to R156). -/

namespace Sys2Proof.Machine

/-- The application time of a frame in ticks (R156). -/
def applicationTime (e : Entry) : Nat := 64 + 16 * e.payload.length

/-- The engine takes the oldest entry of the queue, or becomes idle (R156). -/
def State.takeNext (s : State) : State :=
  match s.directives with
  | [] => { s with engine := none }
  | e :: rest =>
    { s with
      directives := rest
      engine := some { entry := e, endTick := s.now + BitVec.ofNat 32 (applicationTime e) } }

/-- A frame joins the queue; an idle engine takes it at once (R154, R156). -/
def State.join (s : State) (e : Entry) : State :=
  let s1 := { s with directives := s.directives ++ [e] }
  if s.engine.isNone then s1.takeNext else s1

/-- The frame is a CLEAR. -/
def Entry.isClear (e : Entry) : Bool := kindOf e.kind == some .clear

/-- A receiver's waiting CLEAR is set (R155). -/
def State.keepClear (s : State) (ch : Ch) (e : Entry) : State :=
  if (s.chan ch).recv.waitingClear.isSome then s
  else s.onChan ch fun c => { c with recv := { c.recv with waitingClear := some e } }

/-- A good frame is offered to the directive queue by the receiver of `ch` (R154, R155). -/
def State.offer (s : State) (ch : Ch) (e : Entry) : State :=
  if s.overrun then
    if !e.isClear then s
    else if s.directives.length < 4 then
      if (s.chan ch).recv.waitingClear.isSome then s else s.join e
    else s.keepClear ch e
  else if s.directives.length < 4 then s.join e
  else
    ({ s with overrun := true }).post
      (incident .directiveOverrun ch none none e.kind.toNat)

/-- What a received symbol brings about outside the receiver (R151, R152). -/
def State.received (s : State) (ch : Ch) : Received → State
  | .nothing => s
  | .bad detail => s.post (incident .directiveBad ch none none detail)
  | .good header payload => s.offer ch (entryOf ch header payload)

/-- A gap symbol is handed to the channel's receiver (R4, R150, R151). -/
def State.handSymbol (s : State) (ch : Ch) (b : Bool) : State :=
  let r := (s.chan ch).recv.hunt.take b
  (s.onChan ch fun c => { c with recv := { c.recv with hunt := r.1 } }).received ch r.2

/-- Gap symbols handed in order (R150). -/
def State.handSymbols (s : State) (ch : Ch) (bs : List Bool) : State :=
  bs.foldl (fun s b => s.handSymbol ch b) s

/-- DIRECTIVE_FRAME: the symbols of a frame, all of them gap symbols, reach the receiver in order. -/
def execDirectiveFrame (ch : Ch) (symbols : List Bool) (s : State) : Result :=
  .next
    (if s.live ch && (s.chan ch).intake == .gap then s.handSymbols ch symbols else s)

/-- The channel's waiting CLEAR has a place to join (R155). -/
def State.clearJoinDue (s : State) (ch : Ch) : Bool :=
  s.live ch && (s.chan ch).recv.waitingClear.isSome && decide (s.directives.length < 4)

/-- The waiting CLEAR joins the directive queue (R155). -/
def State.joinClear (s : State) (ch : Ch) : State :=
  match (s.chan ch).recv.waitingClear with
  | some e =>
    (s.onChan ch fun c => { c with recv := { c.recv with waitingClear := none } }).join e
  | none => s

/-- WAITING_CLEAR_JOIN. -/
def execWaitingClearJoin (ch : Ch) (s : State) : Result :=
  .next (if s.clearJoinDue ch then s.joinClear ch else s)

end Sys2Proof.Machine
end

