-- ==== Sys2Proof/Machine/Symbols.lean ====
section
/-! DEFINITION. The write clock: SYMBOL_INTAKE, SYMBOL_RELEASE, RATE_WINDOW_COMPLETE, RATE_WINDOW_ABANDON (R2 to R6, R11, R12, R20, R21, R42, R43, R47 to R50). -/

namespace Sys2Proof.Machine

/-! ### The rate meter (R20, R21) -/

/-- The window in progress has its 1,024 edges and fewer than 4,096 ticks (R20). -/
def State.rateComplete (s : State) (ch : Ch) : Bool :=
  match (s.chan ch).rate.window with
  | some w => s.live ch && decide (1024 ≤ w.edges) && !s.passed w.start 4096
  | none => false

/-- A window completes: P is measured and the completing edge starts the next window (R20). -/
def State.completeRate (s : State) (ch : Ch) : State :=
  s.onChan ch fun c =>
    match c.rate.window with
    | some w =>
      { c with rate :=
          { window := some { start := s.now, edges := 0 }
            p := max 64 (ticksFrom w.start s.now), valid := true, slow := false } }
    | none => c

/-- The window in progress has lasted 4,096 ticks (R21). -/
def State.rateExpired (s : State) (ch : Ch) : Bool :=
  match (s.chan ch).rate.window with
  | some w => s.live ch && s.passed w.start 4096
  | none => false

/-- A window is abandoned; the first abandonment raises RATE_SLOW (R21). -/
def State.abandonRate (s : State) (ch : Ch) : State :=
  let m := (s.chan ch).rate
  let s1 := s.onChan ch fun c => { c with rate := { c.rate with window := none, slow := true } }
  if m.slow then s1
  else s1.post (incident .rateSlow ch (s.selected ch) none (if m.valid then m.p else 0))

/-- A write-clock edge counted by the rate meter (R20, R21). -/
def RateMeter.countEdge (m : RateMeter) (now : Tick) : RateMeter :=
  match m.window with
  | some w => { m with window := some { w with edges := w.edges + 1 } }
  | none => { m with window := some { start := now, edges := 0 } }

/-- A write-clock edge at the rate meter: a window that has lasted too long is abandoned first, so that
the edge opens the next (R21). -/
def State.rateEdge (s : State) (ch : Ch) : State :=
  let s1 := if s.rateExpired ch then s.abandonRate ch else s
  s1.onChan ch fun c => { c with rate := c.rate.countEdge s.now }

/-- RATE_WINDOW_COMPLETE. -/
def execRateWindowComplete (ch : Ch) (s : State) : Result :=
  .next (if s.rateComplete ch then s.completeRate ch else s)

/-- RATE_WINDOW_ABANDON. -/
def execRateWindowAbandon (ch : Ch) (s : State) : Result :=
  .next (if s.rateExpired ch then s.abandonRate ch else s)

/-! ### Edges that have been recognised (R2, R3) -/

/-- The step of a filter's recognised edge, if one is due. -/
def State.settleGate (s : State) (f : Filter) (rise fall : State → State) : State :=
  if f.run < 3 then s else if f.level then fall s else rise s

/-- The recognised edges of the channel, and a completed rate window, are taken before the next
write-clock edge (R3, R4), in the order write gate, servo gate, read gate, window (R23 and R40 leave it to which is
taken first; log entry 28). -/
def State.settleEdges (s : State) (ch : Ch) : State :=
  let s1 := s.settleGate (s.chan ch).wg (fun t => t.writeRise ch) (fun t => t.writeFall ch)
  let s2 := s1.settleGate (s1.chan ch).sg (fun t => t.servoRise ch) (fun t => t.servoFall ch)
  let s3 := s2.settleGate (s2.chan ch).rg (fun t => t.readRise ch) (fun t => t.readFall ch)
  if s3.rateComplete ch then s3.completeRate ch else s3

/-- A filter takes a sample (R2). -/
def Filter.sample (f : Filter) (b : Bool) : Filter :=
  if b == f.level then { f with run := 0 } else { f with run := min 3 (f.run + 1) }

/-! ### The release side of an edge (R6, R47 to R50) -/

/-- The head record after its oldest symbol has left (R47). -/
def Rec.sendOne (r : Rec) : Rec := { r with symOut := satAdd r.symOut 1, run := r.run - 1 }

/-- The head record as it enters TAIL (R49, R51). -/
def Rec.enterTail (r : Rec) (now : Tick) : Rec := { r with state := .tail, tailFrom := now }

/-- The head record truncated: its remaining run is dropped and counted (R48). -/
def Rec.truncate (r : Rec) : Rec :=
  { r with symDropped := satAdd r.symDropped r.run, run := 0, truncated := true }

/-- A symbol has left at this edge and the record has reached its normal end (R49, R50): PWGx falls at
the next edge, and the record bridges or enters TAIL. -/
def State.normalEnd (s : State) (ch : Ch) : State :=
  let s1 := s.onChan ch fun c => { c with pwgFallDue := true }
  if 2 ≤ (s.chan ch).queue.length then s1.departHead ch true []
  else s1.onChan ch fun c => c.onHead fun r => r.enterTail s.now

/-- A symbol has left at this edge and the record has reached its allowance too early (R48). -/
def State.truncateHead (s : State) (ch : Ch) (r : Rec) : State :=
  (s.onChan ch fun c =>
    let d := c.onHead fun r => r.truncate.enterTail s.now
    { d with
      pwgFallDue := true
      line := c.line.drop r.run
      intake := c.intake.afterCut [r] }).post (r.incident ch .truncated r.symOut)

/-- What follows the symbol just sent by the head record `r` (R48, R49). -/
def State.afterSymbol (s : State) (ch : Ch) (r : Rec) : State :=
  if r.run == 0 && !r.inputOpen then s.normalEnd ch
  else if r.allowance == some r.symOut then s.truncateHead ch r
  else s

/-- The oldest symbol of the releasing head record leaves on PWDx, PWGx high (R6, R47). -/
def State.sendSymbol (s : State) (ch : Ch) (r : Rec) : State :=
  match (s.chan ch).line with
  | [] => s
  | x :: rest =>
    (s.onChan ch fun c =>
      let d := c.onHead Rec.sendOne
      { d with line := rest, pwd := x.value, pwg := true }).afterSymbol ch r.sendOne

/-- The head record sends a symbol at this edge (R47): it is RELEASING with a run, and write ready holds. -/
def State.sendingRec (s : State) (ch : Ch) : Option Rec :=
  match (s.chan ch).headRec with
  | some r =>
    if r.state == .releasing && decide (1 ≤ r.run) && s.writeReady ch r then some r else none
  | none => none

/-- The release side of a write-clock edge (R6, R47): PWGx falls if that is due; else a symbol leaves; else
PWDx is 0. A release that is due when PWGx falls is taken first, so that PWGx is low for one period
between bridged bursts (R50). -/
def State.releaseEdge (s0 : State) (ch : Ch) : State :=
  let s := s0.onChan ch fun c => { c with releaseTaken := true }
  if (s.chan ch).pwgFallDue then
    let s1 := if s.releaseDue ch then s.releaseHead ch else s
    s1.onChan ch fun c => c.dropGate s.now
  else match s.sendingRec ch with
    | some r => s.sendSymbol ch r
    | none => s.onChan ch fun c => { c with pwd := false }

/-- SYMBOL_RELEASE: the release side of the present edge, taken once. -/
def execSymbolRelease (ch : Ch) (s : State) : Result :=
  .next
    (if s.live ch && !(s.chan ch).releaseTaken then (s.settleEdges ch).releaseEdge ch else s)

/-! ### The intake side of an edge (R4, R42, R43) -/

/-- A list with its last element changed. -/
def onLast {α : Type} (f : α → α) : List α → List α
  | [] => []
  | [x] => [f x]
  | x :: y :: rest => x :: onLast f (y :: rest)

/-- A record with one more symbol stored (R42). -/
def Rec.storeOne (r : Rec) : Rec := { r with symIn := satAdd r.symIn 1, run := r.run + 1 }

/-- A truncated record with one more symbol discarded (R42). -/
def Rec.dropOne (r : Rec) : Rec :=
  { r with symIn := satAdd r.symIn 1, symDropped := satAdd r.symDropped 1 }

/-- The open record: the newest one, if its input is open (R42). -/
def Channel.openRec (c : Channel) : Option Rec :=
  match c.queue.getLast? with
  | some r => if r.inputOpen then some r else none
  | none => none

/-- The channel with its newest record removed and that record's run discarded (R12, R43). -/
def Channel.dropNewest (c : Channel) (r : Rec) : Channel :=
  { c with
    queue := c.queue.dropLast
    line := c.line.take (c.line.length - r.run)
    intake := c.intake.discard }

/-- The open record is aborted with DELAY_OVERFLOW (R43). -/
def State.overflowAbort (s : State) (ch : Ch) (r : Rec) : State :=
  let s1 := s.onChan ch fun c =>
    (if r.state == .releasing then c.dropGate s.now else c).dropNewest r
  let s2 := s1.post (r.incident ch .delayOverflow r.symOut)
  if (s2.chan ch).queue.isEmpty then
    (s2.onChan ch fun c => { c with laser := { c.laser with ready := none } }).announceEmpty ch
  else s2

/-- A STORING symbol reaches the delay line (R11, R42, R43). -/
def State.storeSymbol (s : State) (ch : Ch) (b : Bool) : State :=
  match (s.chan ch).openRec with
  | none => s
  | some r =>
    if (s.chan ch).line.length < 4096 then
      s.onChan ch fun c =>
        { c with
          line := c.line ++ [{ seq := r.seq, value := b }]
          queue := onLast Rec.storeOne c.queue }
    else s.overflowAbort ch r

/-- A DISCARDING symbol is dropped, and counted while its truncated record is in the queue (R42). -/
def State.discardSymbol (s : State) (ch : Ch) : State :=
  match (s.chan ch).openRec with
  | none => s
  | some _ => s.onChan ch fun c => { c with queue := onLast Rec.dropOne c.queue }

/-- A symbol leaving the intake hold is routed by the intake state (R4). -/
def State.routeSymbol (s : State) (ch : Ch) (b : Bool) : State :=
  match (s.chan ch).intake with
  | .gap => s.handSymbol ch b
  | .storing => s.storeSymbol ch b
  | .discarding => s.discardSymbol ch

/-- The hold advances by one edge: the oldest of three held symbols leaves (R4). -/
def State.advanceHold (s : State) (ch : Ch) (wd : Bool) : State :=
  match (s.chan ch).hold with
  | x :: y :: z :: _ =>
    (s.onChan ch fun c => { c with hold := [y, z, wd] }).routeSymbol ch x
  | _ => s.onChan ch fun c => { c with hold := c.hold ++ [wd] }

/-- The three gates are sampled (R1, R2). -/
def Channel.sampleGates (c : Channel) (wg sg rg : Bool) : Channel :=
  { c with wg := c.wg.sample wg, sg := c.sg.sample sg, rg := c.rg.sample rg }

/-- The intake side of a write-clock edge. -/
def State.intakeEdge (s : State) (ch : Ch) (wd wg sg rg : Bool) : State :=
  ((s.advanceHold ch wd).rateEdge ch).onChan ch fun c =>
    { c.sampleGates wg sg rg with releaseTaken := false }

/-- SYMBOL_INTAKE: the intake side of a write-clock edge, its release side first if that has not been
taken (R11). -/
def execSymbolIntake (ch : Ch) (wd wg sg rg : Bool) (s : State) : Result :=
  .next
    (if s.live ch then
      let s1 := s.settleEdges ch
      let s2 := if (s1.chan ch).releaseTaken then s1 else s1.releaseEdge ch
      s2.intakeEdge ch wd wg sg rg
    else s)

end Sys2Proof.Machine
end

