-- ==== Sys2Proof/Machine/Laser.lean ====
section
/-! DEFINITION. The laser and its heat: RAMP_STEP, STEP_GRANT, RAMP_COMPLETE, PARK_EXPIRY, HEAT_TICK (R65 to R68, R76, R77, R105 to R108, R115 to R119). -/

namespace Sys2Proof.Machine

/-- A ramp step of the channel falls due (R28, R65). -/
def State.rampStepDue (s : State) (ch : Ch) : Bool :=
  let q := (s.chan ch).laser
  s.live ch && !q.isSettled && q.want.isNone && q.code != q.target && s.stepIsDue ch

/-- RAMP_STEP. -/
def execRampStep (ch : Ch) (s : State) : Result :=
  .next (if s.rampStepDue ch then s.takeStep ch else s)

/-- STEP_GRANT: the re-check that freed headroom has called for at this tick (R107, R108). -/
def execStepGrant (s : State) : Result := .next s.settleRecheck

/-- The ramp of the channel completes (R68). -/
def State.rampCompleteDue (s : State) (ch : Ch) : Bool :=
  let q := (s.chan ch).laser
  s.live ch && !q.isSettled && q.code == q.target && s.stepIsDue ch

/-- A ramp completes: at-write-since is this tick, and the ready timer may start (R68, R72). -/
def State.completeRamp (s : State) (ch : Ch) : State :=
  ((s.onChan ch fun c =>
    { c with laser := { c.laser with motion := .settled s.stamp 0 } }).startReady ch).leaveIdle ch

/-- RAMP_COMPLETE. -/
def execRampComplete (ch : Ch) (s : State) : Result :=
  .next (if s.rampCompleteDue ch then s.completeRamp ch else s)

/-- The comparison that followed the advance of the park count at this tick has called for the park condition, and
the state is still IDLE (R76). -/
def State.parkDue (s : State) (ch : Ch) : Bool :=
  s.live ch && (s.chan ch).laser.parkDue && s.seqState ch == .idle

/-- PARK_EXPIRY: the park condition is set and the target recomputed (R76, R77). -/
def execParkExpiry (ch : Ch) (s : State) : Result :=
  .next
    (if s.parkDue ch then
      (s.onChan ch fun c =>
        { c with laser := { c.laser with park := true, parkDue := false } }).retarget ch
    else s)

/-! ### The heat tick (R18, R115 to R119) -/

/-- The present tick is a heat tick that has not been taken (R18). -/
def State.heatDue (s : State) : Bool := s.now.toNat % 1024 == 0 && !s.heatTaken

/-- The leak shift of a head (R117). -/
def Head.leakShift (hd : Head) : Nat :=
  match hd.active with
  | some x => x.leak
  | none => 8

/-- The accumulators of a channel after a heat tick, the selected head receiving `weight` (R115, R116). -/
def heatHeads (selected : Option HeadNo) (weight : Nat) (heads : List Head) : List Head :=
  heads.mapIdx fun i hd =>
    let w := if selected.map BitVec.toNat == some i then weight else 0
    { hd with accum := heatUpdate hd.accum w hd.leakShift }

/-- The heat update of a channel (R115). -/
def State.heatChannel (s : State) (ch : Ch) : State :=
  s.onChan ch fun c =>
    { c with heads := heatHeads c.relay.selected (s.weight c.laser.code) c.heads }

/-- The heads of a channel, in order. -/
def allHeads : List HeadNo := [0, 1, 2, 3, 4, 5, 6, 7]

/-- The evaluation of a channel's heads, in order (R115). -/
def State.evaluateAll (s : State) (ch : Ch) : State :=
  allHeads.foldl (fun s h => s.evaluate ch h) s

/-- The park count after an advance (R76). -/
def Sequencer.parkNext (q : Sequencer) : Nat := min 65535 (q.parkCount + 1)

/-- The park count of a channel advances while IDLE, and is compared with the park delay as it stands (R76). -/
def State.advancePark (s : State) (ch : Ch) : State :=
  if s.seqState ch == .idle then
    s.onChan ch fun c =>
      { c with laser := { c.laser with
          parkCount := c.laser.parkNext
          parkDue := c.setup.parkDelay != 0 && decide (c.setup.parkDelay ≤ c.laser.parkNext) } }
  else s

/-- A heat tick with RSTN high: all 16 accumulators, then the evaluations, then the park counts. What a trip of
channel A sends to the incident queue reaches it before channel B is evaluated (R115; log entry 32). That the park
counts come last, so that a park expiry never steps the code before it is weighed, is the model's choice: R18 and R122
leave it open (log entry 41). -/
def State.takeHeat (s : State) : State :=
  let s1 := (s.heatChannel .A).heatChannel .B
  let s2 := (s1.evaluateAll .A).evaluateAll .B
  (s2.advancePark .A).advancePark .B

/-- HEAT_TICK. While RSTN is low no accumulator is updated (R115). -/
def execHeatTick (s : State) : Result :=
  .next
    (if s.heatDue then
      let s1 := { s with heatTaken := true }
      if s.rstnLow then s1 else s1.takeHeat
    else s)

end Sys2Proof.Machine
end

