-- ==== Sys2Proof/Machine/Wedges.lean ====
section
/-! DEFINITION. The wedge timer's own steps: FENCE_TICK_REACHED, ACQUISITION_ABANDON, WEDGE_MISS_EXPIRY (R89, R92, R93, R97). -/

namespace Sys2Proof.Machine

/-- The present tick has reached F with the window closed (R97). -/
def State.fenceDue (s : State) (ch : Ch) : Bool :=
  s.live ch && !(s.chan ch).wedge.fence && s.fenceReached ch

/-- FENCE_TICK_REACHED. -/
def execFenceTickReached (ch : Ch) (s : State) : Result :=
  .next (if s.fenceDue ch then s.openFence ch else s)

/-- The acquisition has waited N plus the tolerance since C (R89). -/
def State.abandonDue (s : State) (ch : Ch) : Bool :=
  let w := (s.chan ch).wedge
  s.live ch && w.lock == .acquiring && s.passed w.last (w.nominal + w.tolerance)

/-- ACQUISITION_ABANDON (R89). -/
def execAcquisitionAbandon (ch : Ch) (s : State) : Result :=
  .next
    (if s.abandonDue ch then
      s.onChan ch fun c =>
        { c with wedge := { c.wedge with good := 0, first := none, lock := .unlocked } }
    else s)

/-- W plus the tolerance is reached with no capture (R92, R93). -/
def State.missDue (s : State) (ch : Ch) : Bool :=
  let w := (s.chan ch).wedge
  s.live ch && w.lock.predicts && atOrAfter s.now (w.next + BitVec.ofNat 32 w.tolerance)

/-- The wedge timer at a first miss: it coasts to the next prediction (R92). -/
def Wedge.coast (w : Wedge) : Wedge :=
  { w with miss := 1, last := w.next, next := w.next + BitVec.ofNat 32 w.estimate, lock := .coasting }

/-- A first miss: F is recomputed for the coasted prediction, and the window closes as R98 states (R92). -/
def State.coast (s : State) (ch : Ch) : State :=
  let s1 := (s.onChan ch fun c => { c with wedge := c.wedge.coast }).computeFence ch
  if (s.chan ch).wedge.fence then s1.closeFence ch
  else if s1.fenceReached ch then s1.openFence ch else s1

/-- A second miss: WEDGE_LOST, UNLOCKED, and the window closes as R98 states (R93). -/
def State.secondMiss (s : State) (ch : Ch) : State :=
  ((s.onChan ch fun c =>
      { c with wedge := { c.wedge with miss := 0, lock := .unlocked } }).post
    (incident .wedgeLost ch (s.selected ch) none 0)).closeFence ch

/-- WEDGE_MISS_EXPIRY. -/
def execWedgeMissExpiry (ch : Ch) (s : State) : Result :=
  .next
    (if s.missDue ch then
      if (s.chan ch).wedge.miss == 0 then s.coast ch else s.secondMiss ch
    else s)

end Sys2Proof.Machine
end

