-- ==== Sys2Proof/Machine/Link.lean ====
section
/-! DEFINITION. The link relay: LINK_FRAME_START, LINK_HEADER_TAKEN, CATCH_UP_COMPLETE, LINK_FRAME_END, HELD_FRAME_REPLAY, REPLAY_COMPLETE, WAITING_FRAME_RELEASE, HOLD_LIMIT_EXPIRY (R140 to R149). -/

namespace Sys2Proof.Machine

/-- The ticks of one downstream bit clocked by the part (R140). -/
def bitTicks : Nat := 64

/-- The channel with its relay changed. -/
def Channel.onRelay (c : Channel) (f : Relay → Relay) : Channel := { c with relay := f c.relay }

/-- The tick at which the part may begin its own downstream clocking, `delay` ticks from now at the
earliest: PLKSx stays high for 64 ticks after a replay (R140). -/
def Relay.ownStart (r : Relay) (now : Tick) (delay : Nat) : Tick :=
  let quiet := if r.lastOwn.old then 0 else bitTicks - ticksFrom r.lastOwn.tick now
  now + BitVec.ofNat 32 (max delay quiet)

/-- The relay with no frame in progress (R141); the counts of the frame that has ended stand (log entry 11). -/
def Relay.toIdle (r : Relay) : Relay := { r with phase := .idle, goal := 0, ending := false }

/-- The relay with a head-select write gone from the slot, and no hold (R143, R144). -/
def Relay.dropSlot (r : Relay) : Relay := { r.toIdle with slot := none, holdStart := none }

/-- LINK_FRAME_START: LKSx falls. From IDLE a frame begins; behind an occupied slot, or while the relay
still finishes the frame before, it waits at its first clock (R141, R146). -/
def execLinkFrameStart (ch : Ch) (s : State) : Result :=
  let c := s.chan ch
  let s1 := s.onChan ch fun c => { c with lks := false }
  .next
    (if s.live ch && c.lks then
      if c.relay.slot.isSome || c.relay.phase == .catchUp then
        s1.onChan ch fun c => c.onRelay fun r => { r with waiting := true }
      else if c.relay.phase == .idle then
        s1.onChan ch fun c => c.onRelay fun r => { r with phase := .header, taken := [], given := 0 }
      else s1
    else s1)

/-- The eight header bits, first bit first (R140). -/
def headerBits (header : BitVec 8) : List Bool := (List.range 8).map fun i => header.getLsbD (7 - i)

/-- The header is that of a head-select write (R142). -/
def State.selectsHead (s : State) (header : BitVec 8) : Bool :=
  !header.getLsbD 7 && header.toNat % 128 == s.selectReg.toNat

/-- The relay is to clock its taken bits downstream with LKCx stretched, from LKCx's next fall, `fall` ticks from
now, on (R141, R147; log entry 33). -/
def Relay.catchUpFrom (r : Relay) (now : Tick) (fall : BitVec 31) : Relay :=
  { r with
    phase := .catchUp, start := r.ownStart now fall.toNat
    stretch := now + BitVec.ofNat 32 fall.toNat, goal := r.taken.length, given := 0, ending := false }

/-- The 8th bit is taken (R141, R142, R145). -/
def State.takeHeader (s : State) (ch : Ch) (header : BitVec 8) (fall : BitVec 31) : State :=
  let bits := headerBits header
  let s1 := s.onChan ch fun c => c.onRelay fun r => { r with taken := bits }
  if s.selectsHead header then
    let s2 := s1.onChan ch fun c =>
      c.onRelay fun r => { r with slot := some { bits := bits, complete := false } }
    if (s.chan ch).queue.isEmpty then
      s2.onChan ch fun c => c.onRelay fun r => r.catchUpFrom s.now fall
    else s2.onChan ch fun c => c.onRelay fun r => { r with phase := .hold, holdStart := some s.now }
  else s1.onChan ch fun c => c.onRelay fun r => r.catchUpFrom s.now fall

/-- LINK_HEADER_TAKEN. -/
def execLinkHeaderTaken (ch : Ch) (header : BitVec 8) (fall : BitVec 31) (s : State) : Result :=
  .next
    (if s.live ch && (s.chan ch).relay.phase == .header then s.takeHeader ch header fall else s)

/-- The relay's own downstream clocking is over at tick `now`: it has begun, and 64 ticks a bit have passed (R140). -/
def Relay.ownDone (r : Relay) (now : Tick) : Bool :=
  atOrAfter now r.start && decide (bitTicks * r.goal ≤ ticksFrom r.start now)

/-- The bits to catch up have been clocked out (R141). -/
def State.catchUpDue (s : State) (ch : Ch) : Bool :=
  let r := (s.chan ch).relay
  s.live ch && r.phase == .catchUp && r.ownDone s.now

/-- The relay at the end of a catch-up: THROUGH, or IDLE when the upstream frame has ended (R141, R143). -/
def Relay.caughtUp (r : Relay) : Relay :=
  if r.ending then { r.toIdle with given := r.goal } else { r with phase := .through, given := r.goal }

/-- The head a complete head-select write asks for: bits 22 to 24 of the frame (R140, R144). -/
def requestedHead (bits : List Bool) : HeadNo :=
  BitVec.ofNat 3
    ((if bits.getD 21 false then 4 else 0) + (if bits.getD 22 false then 2 else 0)
      + (if bits.getD 23 false then 1 else 0))

/-- A complete head-select write has ended downstream: the slot empties and the selected head is updated
(R144). -/
def State.updateHead (s : State) (ch : Ch) (bits : List Bool) : State :=
  let h := requestedHead bits
  let n := (s.chan ch).setup.headsCount
  let s1 := s.onChan ch fun c =>
    c.onRelay fun r => { r.dropSlot with taken := bits, given := bits.length }
  if h.toNat < n then s1.switchHead ch (some h)
  else (s1.post (incident .headInvalid ch (some h) none n)).switchHead ch none

/-- CATCH_UP_COMPLETE. A head-select write whose 24 bits have all gone out behind the end of its upstream frame
has ended downstream whole (R144; log entry 17); it is no replay, and no quiet time follows it (R140; log entry
37). -/
def execCatchUpComplete (ch : Ch) (s : State) : Result :=
  let r := (s.chan ch).relay
  .next
    (if s.catchUpDue ch then
      if r.ending && r.slot.isSome then s.updateHead ch r.taken
      else s.onChan ch fun c => c.onRelay Relay.caughtUp
    else s)

/-- The relay begins to replay a complete held frame (R147). -/
def Relay.replayFrom (r : Relay) (now : Tick) : Relay :=
  { r with phase := .replay, holdStart := none, start := r.ownStart now 0, goal := 24, given := 0 }

/-- The relay when a frame ends in CATCH-UP: the stretch is released, and the bits already begun are
finished downstream (R141, R143). The slot empties, unless all 24 bits have begun (log entry 17). A held frame that
has all its 24 bits and ends before LKCx has fallen is complete and is replayed (R145, R147; log entry 34). -/
def Relay.endInCatchUp (r : Relay) (now : Tick) : Relay :=
  let begun := if atOrAfter now r.start then min r.goal (ticksFrom r.start now / bitTicks + 1) else 0
  if r.slot.isSome && decide (24 ≤ r.taken.length) && !atOrAfter now r.stretch then
    { r.replayFrom now with slot := some { bits := r.taken, complete := true } }
  else if begun == 0 then r.dropSlot
  else if begun == 24 then { r with goal := begun, ending := true }
  else { r with slot := none, holdStart := none, goal := begun, ending := true }

/-- The present upstream frame ends with `all` its bits taken, and in THROUGH all of them given; in WIRE none is
counted (R140, R141, R143 to R145, R149). -/
def State.endFrame (s : State) (ch : Ch) (all : List Bool) : State :=
  let r := (s.chan ch).relay
  let full := decide (24 ≤ all.length)
  let taking (f : Relay → Relay) : State := s.onChan ch fun c => c.onRelay fun r => { f r with taken := all }
  match r.phase with
  | .wire => s.onChan ch fun c => c.onRelay Relay.toIdle
  | .header => taking Relay.toIdle
  | .catchUp => s.onChan ch fun c => c.onRelay fun r => r.endInCatchUp s.now
  | .through =>
    if r.slot.isNone then taking fun r => { r.toIdle with given := all.length }
    else if full then s.updateHead ch all
    else taking fun r => { r.dropSlot with given := all.length }
  | .hold =>
    if full then taking fun r => { r with slot := some { bits := all, complete := true } }
    else taking Relay.dropSlot
  | .idle => s
  | .replay => s

/-- LINK_FRAME_END: LKSx rises. A waiting frame is dropped; else the present frame ends, its bits past the
24th ignored (R140, R146). -/
def execLinkFrameEnd (ch : Ch) (bits : List Bool) (s : State) : Result :=
  let c := s.chan ch
  let s1 := s.onChan ch fun c => { c with lks := true }
  .next
    (if s.live ch && !c.lks then
      if c.relay.waiting then s1.onChan ch fun c => c.onRelay fun r => { r with waiting := false }
      else s1.endFrame ch ((c.relay.taken ++ bits).take 24)
    else s1)

/-- The hold stops: the queue is empty with a held frame in the slot (R147). -/
def State.replayDue (s : State) (ch : Ch) : Bool :=
  let c := s.chan ch
  s.live ch && c.relay.phase == .hold && c.queue.isEmpty

/-- The hold slot holds no frame that is still arriving (R147). -/
def Relay.wholeHeld (r : Relay) : Bool :=
  match r.slot with
  | some x => x.complete
  | none => true

/-- The relay as the hold stops: a complete frame is replayed, an incomplete one is caught up (R147). -/
def Relay.startReplay (r : Relay) (now : Tick) (bits : List Bool) (fall : BitVec 31) : Relay :=
  match r.slot with
  | some x =>
    if x.complete then r.replayFrom now
    else
      let all := (r.taken ++ bits).take 24
      ({ r with
        holdStart := none, taken := all
        slot := some { bits := all, complete := false } } : Relay).catchUpFrom now fall
  | none => r.dropSlot

/-- HELD_FRAME_REPLAY. -/
def execHeldFrameReplay (ch : Ch) (bits : List Bool) (fall : BitVec 31) (s : State) : Result :=
  .next
    (if s.replayDue ch then
      s.onChan ch fun c => c.onRelay fun r => r.startReplay s.now bits fall
    else s)

/-- The replayed frame ends downstream at this tick (R147). -/
def State.replayEnds (s : State) (ch : Ch) : Bool :=
  let r := (s.chan ch).relay
  s.live ch && r.phase == .replay && r.ownDone s.now

/-- The replay is over: PLKSx rises and the head is updated (R144, R147). -/
def State.finishReplay (s : State) (ch : Ch) : State :=
  let bits := match (s.chan ch).relay.slot with
    | some x => x.bits
    | none => []
  (s.onChan ch fun c => c.onRelay fun r => { r with lastOwn := s.stamp }).updateHead ch bits

/-- REPLAY_COMPLETE. -/
def execReplayComplete (ch : Ch) (s : State) : Result :=
  .next (if s.replayEnds ch then s.finishReplay ch else s)

/-- A waiting frame can be taken: the slot is empty and the relay idle (R146). -/
def State.waitingDue (s : State) (ch : Ch) : Bool :=
  let r := (s.chan ch).relay
  s.live ch && r.waiting && r.slot.isNone && r.phase == .idle

/-- WAITING_FRAME_RELEASE: LKCx is released and the frame is taken from its first bit (R146). -/
def execWaitingFrameRelease (ch : Ch) (s : State) : Result :=
  .next
    (if s.waitingDue ch then
      s.onChan ch fun c =>
        c.onRelay fun r => { r with waiting := false, phase := .header, taken := [], given := 0 }
    else s)

/-- The hold limit has elapsed since the hold start with the hold still running (R148). -/
def State.holdLimitDue (s : State) (ch : Ch) : Bool :=
  let c := s.chan ch
  s.live ch && c.relay.phase == .hold && !c.queue.isEmpty &&
    match c.relay.holdStart with
    | some t => s.passed t (c.setup.holdLimit * 64)
    | none => false

/-- Every record is removed with one HEAD_SWITCH_FORCED (R57, R148). The replay is then due at this tick. -/
def State.forceSwitch (s : State) (ch : Ch) : State :=
  let s1 := s.onChan ch fun c => c.removeAll s.now
  match (s.chan ch).headRec with
  | some r => (s1.post (r.incident ch .headSwitchForced r.symOut)).announceEmpty ch
  | none => s1

/-- HOLD_LIMIT_EXPIRY. -/
def execHoldLimitExpiry (ch : Ch) (s : State) : Result :=
  .next (if s.holdLimitDue ch then s.forceSwitch ch else s)

end Sys2Proof.Machine
end

