-- ==== Sys2Proof/Machine/Lines.lean ====
section
/-! DEFINITION. The output lines that follow from the state and, where a line is buffered, from an input line: PWCKx, LCx, LENx, WFOx, the preamplifier link, the hold on LKCx, RPT (R1, R8, R10, R15, R140, R141, R147, R149, R168, R172). -/

namespace Sys2Proof.Machine

/-- A line the part drives, or has released. -/
inductive Level3 where
  | released
  | driven (high : Bool)
deriving DecidableEq, Repr

/-- PWCKx: a copy of WCKx, held low for an absent channel B (R1, R10, R15). -/
def State.pwck (s : State) (ch : Ch) (wck : Bool) : Bool := (s.rstnLow || s.present ch) && wck

/-- LCx: the present code; released while RSTN is low (R8, R15). -/
def State.lc (s : State) (ch : Ch) : Option Code := if s.rstnLow then none else some (s.code ch)

/-- LENx (R8). -/
def State.len (s : State) (ch : Ch) : Bool := s.live ch && !s.lockedOut ch

/-- WFOx: released while RSTN is low; else asserted at the strapped polarity (R15, R168). -/
def State.wfo (s : State) (ch : Ch) : Level3 :=
  if s.rstnLow then .released else .driven (s.writeFault ch != s.straps.faultLow)

/-- PLKSx, high meaning deselected (R10, R140, R141, R147, R149). -/
def State.plks (s : State) (ch : Ch) : Bool :=
  let c := s.chan ch
  if !s.rstnLow && !s.present ch then true
  else match c.relay.phase with
    | .wire => c.lks
    | .through => false
    | .catchUp => !atOrAfter s.now c.relay.start
    | .replay => !atOrAfter s.now c.relay.start
    | .idle => true
    | .header => true
    | .hold => true

/-- The part's own downstream clock: low for 32 ticks, then high for 32, of each bit (R140). -/
def Relay.ownClock (r : Relay) (now : Tick) : Bool :=
  !atOrAfter now r.start || decide (32 ≤ ticksFrom r.start now % bitTicks)

/-- The bit the part's own clocking has on PLKDx (R140). -/
def Relay.ownBit (r : Relay) (now : Tick) : Bool := r.taken.getD (ticksFrom r.start now / bitTicks) true

/-- What the part does to an open-drain line that it wants at a level: it pulls the line low, or releases it (R140). -/
def openDrain (high : Bool) : Level3 := if high then .released else .driven false

/-- The level the part leaves on a line that its pull-up holds high. -/
def Level3.high : Level3 → Bool
  | .released => true
  | .driven b => b

/-- The link of the channel is a plain wire (R149). -/
def State.wired (s : State) (ch : Ch) : Bool :=
  (s.rstnLow || s.present ch) && (s.chan ch).relay.phase == .wire

/-- What the part does to PLKCx, `lkc` being the level of LKCx (R140, R141, R149). That it releases the line in IDLE,
HEADER and HOLD, and before its own clocking has begun, is the model's choice (log entry 38). -/
def State.plkc (s : State) (ch : Ch) (lkc : Bool) : Level3 :=
  let r := (s.chan ch).relay
  if !s.rstnLow && !s.present ch then .released
  else match r.phase with
    | .wire => openDrain lkc
    | .through => openDrain lkc
    | .catchUp => openDrain (r.ownClock s.now)
    | .replay => openDrain (r.ownClock s.now)
    | .idle => .released
    | .header => .released
    | .hold => .released

/-- The present frame is a read: its first bit is 1 (R140). -/
def Relay.isRead (r : Relay) : Bool := r.taken.headD false

/-- What the part does to PLKDx, `lkd` being the level of LKDx; released in the value of a read (R140, R141). That it
releases the line in IDLE, HEADER and HOLD, and before its own clocking has begun, is the model's choice (log entry
38). -/
def State.plkd (s : State) (ch : Ch) (lkd : Bool) : Level3 :=
  let r := (s.chan ch).relay
  if !s.rstnLow && !s.present ch then .released
  else match r.phase with
    | .wire => openDrain lkd
    | .through => if r.isRead then .released else openDrain lkd
    | .catchUp => openDrain (r.ownBit s.now)
    | .replay => openDrain (r.ownBit s.now)
    | .idle => .released
    | .header => .released
    | .hold => .released

/-- The part follows PLKDx onto LKDx: the value of a read passes back (R141); joined in WIRE (R149). -/
def State.lkdFollows (s : State) (ch : Ch) : Bool :=
  let r := (s.chan ch).relay
  (s.rstnLow || s.present ch) && (r.phase == .wire || (r.phase == .through && r.isRead))

/-- The part holds LKCx low: a stretch during catch-up, or a waiting frame (R141, R146, R147). -/
def State.lkcHeld (s : State) (ch : Ch) : Bool :=
  let r := (s.chan ch).relay
  s.live ch && (r.waiting || (r.phase == .catchUp && !r.ending && atOrAfter s.now r.stretch))

/-- The level on LKCx, with the levels `up` and `down` that the controller leaves on LKCx and the preamplifier on
PLKCx: low when any end holds it low, the preamplifier's being one of them only in WIRE (R140, R141, R149). -/
def State.lkcLevel (s : State) (ch : Ch) (up down : Bool) : Bool :=
  up && !s.lkcHeld ch && (!s.wired ch || down)

/-- The level on PLKCx, with the levels that both ends leave (R140, R141, R149). -/
def State.plkcLevel (s : State) (ch : Ch) (up down : Bool) : Bool :=
  down && (s.plkc ch (s.lkcLevel ch up down)).high

/-- The level on LKDx, with the levels that both ends leave (R140, R141, R149). -/
def State.lkdLevel (s : State) (ch : Ch) (up down : Bool) : Bool := up && (!s.lkdFollows ch || down)

/-- The level on PLKDx, with the levels that both ends leave (R140, R141, R149). -/
def State.plkdLevel (s : State) (ch : Ch) (up down : Bool) : Bool :=
  down && (s.plkd ch (s.lkdLevel ch up down)).high

/-- The level of one report byte on RPT at bit time `i` of its ten: start bit, data least significant
place first, stop bit (R172). -/
def byteLevel (x : Byte) (i : Nat) : Bool :=
  if i == 0 then false else if i ≤ 8 then x.getLsbD (i - 1) else true

/-- The level of a report frame on RPT at bit time `i`: the break, then the bytes (R172). -/
def Transmission.level (t : Transmission) (i : Nat) : Bool :=
  if i < 13 then false
  else if i < 15 then true
  else match t.bytes[(i - 15) / 10]? with
    | some x => byteLevel x ((i - 15) % 10)
    | none => true

/-- RPT: released while RSTN is low, high when idle (R15, R172, R173). -/
def State.rpt (s : State) : Level3 :=
  if s.rstnLow then .released
  else match s.sending with
    | none => .driven true
    | some t => .driven (t.level (ticksFrom t.start s.now / t.bitTime))

end Sys2Proof.Machine
end

