-- ==== Sys2Proof/Machine/Reports.lean ====
section
/-! DEFINITION. Reports and the incident queue's own steps: the report frame (R164, R171, R172), REPORT_FRAME_END, the removal, deferral and re-raise of CLEAR (R120, R167, R170), DEFERRED_INCIDENT_STORE. -/

namespace Sys2Proof.Machine

/-! ### The report frame (R164) -/

/-- A number as two bytes, most significant first. -/
def twoBytes (n : Nat) : List Byte := [BitVec.ofNat 8 (n / 256), BitVec.ofNat 8 n]

/-- A Bool as the weight of a place. -/
def place (b : Bool) (i : Nat) : Nat := if b then 2 ^ i else 0

/-- The head record state among the channel flags (R164). -/
def headStateValue : Option Rec → Nat
  | none => 0
  | some r =>
    match r.state with
    | .queued => 1
    | .preparing => 1
    | .releasing => 2
    | .tail => 3

/-- The channel flags of a status (R164). -/
def State.channelFlags (s : State) (ch : Ch) : Nat :=
  let c := s.chan ch
  place c.rate.valid 0 + place c.rate.slow 1 + place c.wedge.fence 2 + place c.laser.want.isSome 3
    + place ((c.selectedHead.map fun h => h.hold).getD false) 4 + place c.relay.slot.isSome 5
    + place (s.lockedOut ch) 6 + place c.laser.force.isSome 7 + headStateValue c.headRec * 2 ^ 8
    + place ((c.headRec.map fun r => r.bridged).getD false) 11
    + place ((c.headRec.map fun r => r.truncated).getD false) 12 + place (s.present ch) 13

/-- The lock state values (R101). -/
def Lock.value : Lock → Nat
  | .unlocked => 0
  | .acquiring => 1
  | .locked => 2
  | .coasting => 3

/-- The selected head byte of a status: 0xFF for none (R164). -/
def selectedByte : Option HeadNo → Byte
  | some h => BitVec.ofNat 8 h.toNat
  | none => 0xFF#8

/-- The twelve status bytes of a channel (R164). -/
def State.statusBytes (s : State) (ch : Ch) : List Byte :=
  let c := s.chan ch
  if !s.present ch then [0, 0, 0xFF#8, 0, 0, 0, 0, 0, 0, 0, 0, 0]
  else
    [BitVec.ofNat 8 (s.seqState ch).value, BitVec.ofNat 8 c.wedge.lock.value,
      selectedByte c.relay.selected]
      ++ twoBytes (if c.rate.valid then c.rate.p else 0)
      ++ [BitVec.ofNat 8 c.queue.length]
      ++ twoBytes c.line.length
      ++ twoBytes (s.channelFlags ch)
      ++ twoBytes ((c.selectedHead.map fun h => h.accum).getD 0)

/-- The eight bytes of an incident record (R164). -/
def Stored.bytes (x : Stored) : List Byte :=
  let i := x.incident
  twoBytes x.number.toNat ++ [BitVec.ofNat 8 i.kind.code]
    ++ [BitVec.ofNat 8
          (i.kind.cls * 64 + place i.burst.isSome 5 + chBit i.ch * 16 + place i.head.isSome 3
            + (i.head.map BitVec.toNat).getD 0)]
    ++ twoBytes ((i.burst.map BitVec.toNat).getD 0) ++ twoBytes i.detail

/-- The flags byte of a report (R164). -/
def State.reportFlags (s : State) : Byte :=
  BitVec.ofNat 8
    (place s.overflow 0 + place s.overrun 1 + place s.straps.bench 2 + place s.straps.twoChannels 3)

/-- The symbols of a byte, most significant place first (R164, R172). -/
def byteSymbols (x : Byte) : List Bool := (List.range 8).map fun i => x.getLsbD (7 - i)

/-- The bytes a report's check covers: byte 1 to the end of the incident records (R164). -/
def State.reportBody (s : State) : List Byte :=
  [s.reportSeq, s.reportFlags] ++ s.statusBytes .A ++ s.statusBytes .B
    ++ [BitVec.ofNat 8 s.incidents.length] ++ s.incidents.flatMap Stored.bytes

/-- The check over a report's bytes (R152, R172). -/
def reportCheck (body : List Byte) : Word := crcSymbols 0xFFFF#16 (body.flatMap byteSymbols)

/-- The bytes of a report frame whose snapshot is taken now (R164, R171). -/
def State.reportBytes (s : State) : List Byte :=
  [0xC3#8] ++ s.reportBody ++ twoBytes (reportCheck s.reportBody).toNat

/-- A snapshot is taken and its frame begins (R171, R172). -/
def State.beginReport (s : State) : State :=
  { s with
    sending := some
      { bytes := s.reportBytes, start := s.now, bitTime := 16 * (s.reportDiv.toNat + 1) }
    reportSeq := s.reportSeq + 1 }

/-- A REPORT reaches the transmitter (R171). -/
def State.requestReport (s : State) : State :=
  if s.sending.isNone then s.beginReport else { s with reportPending := true }

/-- The length of a frame in ticks (R172). -/
def Transmission.ticks (t : Transmission) : Nat := t.bitTime * (15 + 10 * t.bytes.length)

/-- The last stop bit of the frame ends at this tick (R171). -/
def State.reportEnds (s : State) : Bool :=
  match s.sending with
  | some t => !s.rstnLow && s.passed t.start t.ticks
  | none => false

/-- A frame has ended: the next begins if one is pending (R171). -/
def State.finishReport (s : State) : State :=
  if s.reportPending then ({ s with reportPending := false, sending := none }).beginReport
  else { s with sending := none }

/-- REPORT_FRAME_END. -/
def execReportFrameEnd (s : State) : Result := .next (if s.reportEnds then s.finishReport else s)

/-! ### CLEAR on the incident queue (R120, R167, R170) -/

/-- A deferred incident is stored, if a place is free (R167). -/
def State.storeDeferred (s : State) (d : Deferred) : State :=
  if s.incidents.length < 16 then
    { s with
      incidents := s.incidents ++ [{ number := s.nextIncident, incident := d.incident }]
      nextIncident := s.nextIncident + 1
      deferred := s.deferred.erase d }
  else s

/-- The deferred incidents in the order in which they are stored: the earlier deferral first; two of one
tick in either order (R167; log entry 7). -/
def State.deferredOrder (s : State) : List Deferred :=
  match s.deferred with
  | [x, y] => if y.tied && s.choose then [y, x] else [x, y]
  | ds => ds

/-- Every deferred incident is stored, as far as places are free (R167, R170). -/
def State.storeAllDeferred (s : State) : State :=
  let s1 := if s.deferred.length == 2 then s.chosen else s
  s.deferredOrder.foldl State.storeDeferred s1

/-- The oldest `n` incidents are removed (R170). -/
def State.removeIncidents (s : State) (n : Nat) : State := { s with incidents := s.incidents.drop n }

/-- The fresh THERMAL_TRIP of a head at the examination of a CLEAR (R120). -/
def State.examineHead (s : State) (ch : Ch) (h : HeadNo) : State :=
  let hd := (s.chan ch).headAt h
  match hd.active with
  | none => s
  | some x =>
    if x.tripMark ≤ hd.accum then s.post (incident .thermalTrip ch (some h) none hd.accum) else s

/-- The examination of a channel's heads, in order (R120). -/
def State.examine (s : State) (ch : Ch) : State := allHeads.foldl (fun s h => s.examineHead ch h) s

/-- A channel leaves LOCKOUT: the park condition is set and the target recomputed; LENx is high (R82). -/
def State.exitLockout (s : State) (ch : Ch) : State :=
  (s.onChan ch fun c => { c with laser := { c.laser with park := true } }).retarget ch

/-- A CLEAR has left the channel, which was in LOCKOUT, with no class-3 incident: it is examined (R170). -/
def State.examineDue (s : State) (ch : Ch) (was : Bool) : Bool := was && !s.lockedOut ch

/-- The lockout check and exit of a channel that was in LOCKOUT when the CLEAR began (R170). -/
def State.checkLockout (s : State) (ch : Ch) (was : Bool) : State :=
  if s.examineDue ch was then
    let s1 := s.examine ch
    if s1.lockedOut ch then s1 else s1.exitLockout ch
  else s

/-- The lockout checks of a CLEAR that began at `s0`: with both channels to examine, in either order (R120, R170;
log entry 7). -/
def State.checkLockouts (s s0 : State) : State :=
  let check (ch : Ch) (t : State) : State := t.checkLockout ch (s0.lockedOut ch)
  if s.examineDue .A (s0.lockedOut .A) && s.examineDue .B (s0.lockedOut .B) then
    s.eitherOrder (check .A) (check .B)
  else check .B (check .A s)

/-- A CLEAR of `n` incidents on the incident queue, in the order of R170. -/
def State.clearIncidents (s : State) (n : Nat) : State :=
  let s1 := (s.removeIncidents n).storeAllDeferred
  let s2 := s1.checkLockouts s
  if s2.incidents.isEmpty then { s2 with overflow := false } else s2

/-- The deferred incident of a channel. -/
def State.deferredOf (s : State) (ch : Ch) : Option Deferred :=
  s.deferred.find? fun d => d.incident.ch == ch

/-- DEFERRED_INCIDENT_STORE: the channel's deferred incident is stored and numbered once a place is free
(R167). A CLEAR stores it in its own step, so this one finds it only where a place is free otherwise. -/
def execDeferredIncidentStore (ch : Ch) (s : State) : Result :=
  .next
    (match s.deferredOf ch with
     | some d => s.storeDeferred d
     | none => s)

end Sys2Proof.Machine
end

