-- ==== Sys2Proof/Machine/Directives.lean ====
section
/-! DEFINITION. The directive engine's applications: HEAD_CONTEXT, RELEASE_CONTEXT, LEVEL_TABLE, CHANNEL_SETUP, GLOBAL_SETUP, REPORT, CLEAR, CHANNEL_RESET, FORCE_LEVEL, FORCE_END, UNKNOWN_KIND (R126 to R137, R156 to R162). -/

namespace Sys2Proof.Machine

/-! ### The engine (R156, R157) -/

/-- The frame whose application ends at this tick (R156). -/
def State.applying (s : State) : Option Entry :=
  match s.engine with
  | some a => if !s.rstnLow && atOrAfter s.now a.endTick then some a.entry else none
  | none => none

/-- The application of a directive of the table (R156): the general checks, then the directive's own
checks and effect, then the next frame is taken. -/
def State.apply (s : State) (d : Directive) (e : Entry) (effect : State → State)
    (refuse : State → RefuseReason → State) : State :=
  (match s.generalCheck d e with
    | some r => refuse s r
    | none => effect s).takeNext

/-- The DIRECTIVE_REFUSED of a frame (R157). -/
def refusalOf (e : Entry) (named : Bool) (r : RefuseReason) : Incident :=
  incident .directiveRefused e.target (if named then some e.head else none) none
    (r.value * 256 + e.kind.toNat)

/-- A directive is refused (R157). -/
def State.refuse (s : State) (e : Entry) (named : Bool) (r : RefuseReason) : State :=
  s.post (refusalOf e named r)

/-- The frame being applied is of kind `d`, and `pick` tells it from other rows of that kind. -/
def State.applyingKind (s : State) (d : Directive) (pick : Entry → Bool) : Option Entry :=
  match s.applying with
  | some e => if kindOf e.kind == some d && pick e then some e else none
  | none => none

/-- Every frame of the kind. -/
def anyEntry (_ : Entry) : Bool := true

/-- The application of kind `d` that ends at this tick, if one does. -/
def State.applyKind (s : State) (d : Directive) (pick : Entry → Bool)
    (effect : State → Entry → State) : State :=
  match s.applyingKind d pick with
  | some e => s.apply d e (fun t => effect t e) (fun t r => t.refuse e d.namesHead r)
  | none => s

/-! ### HEAD CONTEXT and RELEASE CONTEXT (R126 to R132) -/

/-- The reason a HEAD CONTEXT payload is refused with (R126 to R128, R158), `lengthFirst` deciding between
LENGTH and PAYLOAD when both apply (log entry 8). -/
def contextRefusal (e : Entry) (lengthFirst : Bool) : Option RefuseReason :=
  let ok := contextOk (contextOfPayload e) (rangeCount e) (bandCount e)
  if countsMatch e then (if ok then none else some .payload)
  else if ok || lengthFirst then some .length else some .payload

/-- A pending state is written, and carried out at once if no record of the head is queued (R130, R131). -/
def State.setPending (s : State) (ch : Ch) (h : HeadNo) (p : Pending) : State :=
  let s1 := s.onChan ch fun c => c.setHead h { c.headAt h with pending := p }
  if (s1.chan ch).hasRecordOf h then s1 else s1.promote ch h

/-- The DIRECTIVE_CLAMPED of a HEAD CONTEXT (R129, R158). -/
def clampedIncident (e : Entry) : Incident :=
  incident .directiveClamped e.target (some e.head) none e.kind.toNat

/-- An accepted HEAD CONTEXT: the clamps, DIRECTIVE_CLAMPED if they changed a field, the pending copy and
its promotion (R129, R130). -/
def State.loadContext (s : State) (e : Entry) : State :=
  let raw := contextOfPayload e
  let x := clampContext raw
  let s1 := if x == raw then s else s.post (clampedIncident e)
  s1.setPending e.target e.head (.copy x)

/-- The two reasons of R158 both apply, so that a free choice decides. -/
def reasonOpen (e : Entry) : Bool :=
  !countsMatch e && !contextOk (contextOfPayload e) (rangeCount e) (bandCount e)

/-- The store's part of a HEAD CONTEXT (R126 to R130). -/
def State.applyContext (s : State) (e : Entry) : State :=
  let r := contextRefusal e (if reasonOpen e then s.choose else false)
  let s1 := if reasonOpen e then s.chosen else s
  match r with
  | some reason => s1.refuse e true reason
  | none => s1.loadContext e

/-- HEAD_CONTEXT. -/
def execHeadContext (s : State) : Result :=
  .next (s.applyKind .headContext anyEntry State.applyContext)

/-- The store's part of a RELEASE CONTEXT (R131): nothing for an unloaded context. -/
def State.applyRelease (s : State) (e : Entry) : State :=
  if ((s.chan e.target).contextOf e.head).isNone then s
  else s.setPending e.target e.head .unload

/-- RELEASE_CONTEXT. -/
def execReleaseContext (s : State) : Result :=
  .next (s.applyKind .releaseContext anyEntry State.applyRelease)

/-! ### LEVEL TABLE and GLOBAL SETUP (R107, R112, R134, R137) -/

/-- The current of the landing code that a channel waits for. -/
def State.waitingCurrent (s : State) (ch : Ch) : Option Nat := (s.chan ch).laser.want.map s.current

/-- A landing code waited for has become cheaper from `s` to `t` (R107). -/
def landingFell (s t : State) (ch : Ch) : Bool :=
  match s.waitingCurrent ch, t.waitingCurrent ch with
  | some x, some y => decide (y < x)
  | _, _ => false

/-- The store's and arbiter's part of a LEVEL TABLE (R107, R112, R134). -/
def State.applyLevels (s0 : State) (e : Entry) : State :=
  let s := s0.settleRecheck
  let t := { s with levels := writeLevels (firstCode e) (levelEntries e) s.levels }
  if !levelTableOk e then s.refuse e false .payload
  else if s.ceiling < t.used then s.refuse e false .ceiling
  else if decide (t.used < s.used) || landingFell s t .A || landingFell s t .B then t.freed else t

/-- LEVEL_TABLE. -/
def execLevelTable (s : State) : Result := .next (s.applyKind .levelTable anyEntry State.applyLevels)

/-- The store's and arbiter's part of a GLOBAL SETUP (R112, R137). -/
def State.applyGlobal (s0 : State) (e : Entry) : State :=
  let s := s0.settleRecheck
  let t := { s with
    ceiling := ceilingOf e, reportDiv := reportDivOf e, selectReg := selectRegOf e }
  if ceilingOf e == 0 then s.refuse e false .payload
  else if ceilingOf e < s.used then s.refuse e false .ceiling
  else if s.ceiling < ceilingOf e then t.freed else t

/-- GLOBAL_SETUP. -/
def execGlobalSetup (s : State) : Result :=
  .next (s.applyKind .globalSetup anyEntry State.applyGlobal)

/-! ### CHANNEL SETUP (R76, R135, R136) -/

/-- The new heads count would take the selected head from queued records (R135). -/
def State.setupBusy (s : State) (ch : Ch) (x : Setup) : Bool :=
  match s.selected ch with
  | some h => decide (x.headsCount ≤ h.toNat) && !(s.chan ch).queue.isEmpty
  | none => false

/-- The re-check of the selected head against a new heads count (R136). -/
def State.recheckHead (s : State) (ch : Ch) : State :=
  let n := (s.chan ch).setup.headsCount
  match s.selected ch with
  | some h =>
    if n ≤ h.toNat then (s.post (incident .headInvalid ch (some h) none n)).switchHead ch none else s
  | none => s

/-- A park delay of 0 clears a set park condition, and one that has still to be set at this tick (R76, R136;
log entry 16). -/
def State.parkOff (s : State) (ch : Ch) : State :=
  if (s.chan ch).setup.parkDelay == 0 then
    let s1 := s.onChan ch fun c => { c with laser := { c.laser with park := false, parkDue := false } }
    if (s.chan ch).laser.park then s1.retarget ch else s1
  else s

/-- The store's part of a CHANNEL SETUP (R135, R136). One that earns both PAYLOAD and BUSY carries either, by a
free choice (R158 gives no order; log entry 8). -/
def State.applySetup (s : State) (e : Entry) : State :=
  let x := setupOfPayload e
  if !setupOk x then
    if s.setupBusy e.target x then s.chosen.refuse e false (if s.choose then .payload else .busy)
    else s.refuse e false .payload
  else if s.setupBusy e.target x then s.refuse e false .busy
  else
    ((s.onChan e.target fun c => { c with setup := x }).parkOff e.target).recheckHead e.target

/-- CHANNEL_SETUP. -/
def execChannelSetup (s : State) : Result :=
  .next (s.applyKind .channelSetup anyEntry State.applySetup)

/-! ### REPORT and CLEAR (R155, R160, R170, R171) -/

/-- REPORT. -/
def execReport (s : State) : Result :=
  .next (s.applyKind .report anyEntry fun t _ => t.requestReport)

/-- A CLEAR: the incident queue's part, and the end of OVERRUN (R155, R160, R170). -/
def State.applyClear (s : State) (e : Entry) : State :=
  { s.clearIncidents (e.word 1).toNat with overrun := false }

/-- CLEAR. -/
def execClear (s : State) : Result := .next (s.applyKind .clear anyEntry State.applyClear)

/-! ### CHANNEL RESET (R13, R16, R58, R85, R103, R161) -/

/-- The wedge timer at a CHANNEL RESET (R103). -/
def Wedge.restart (w : Wedge) : Wedge :=
  { w with lock := .unlocked, good := 0, miss := 0, first := none }

/-- The channel at a CHANNEL RESET, before the code is set to 0: no record, no force, the park condition
set, the wedge timer UNLOCKED with its window closed unless filtered SGx is high (R16, R58, R85, R98, R103). -/
def Channel.resetBlocks (c : Channel) (now : Tick) : Channel :=
  let d := c.removeAll now
  { d with
    wedge := { d.wedge.restart with fence := d.wedge.fence && d.sg.level }
    laser := { d.laser with force := none, park := true, parkCount := 0, parkDue := false } }

/-- The effect of a CHANNEL RESET (R161). Promotions and the replay of a held frame that the emptied queue
calls for follow at this tick (R132, R147). The set to 0 is always taken before the promotion of the selected
head, so the hold at 0 is the dwell of the copy active until then (R138; log entry 35). -/
def State.resetChannel (s : State) (ch : Ch) : State :=
  let s1 := (s.onChan ch fun c => c.resetBlocks s.now).directZero ch
  if (s.chan ch).queue.isEmpty then s1.retarget ch else s1.announceEmpty ch

/-- CHANNEL_RESET. -/
def execChannelReset (s : State) : Result :=
  .next (s.applyKind .channelReset anyEntry fun t e => t.resetChannel e.target)

/-! ### FORCE LEVEL (R81, R83, R84, R162) -/

/-- A force takes a code and the park condition is cleared (R83). -/
def State.setForce (s : State) (ch : Ch) (f : Code) : State :=
  (s.onChan ch fun c =>
    { c with laser := { c.laser with force := some f, park := false } }).retarget ch

/-- FORCE LEVEL with a code 0..63, or with a value that is refused (R162). -/
def State.applyForce (s : State) (e : Entry) : State :=
  let w := (e.word 1).toNat
  if w ≤ 63 then s.setForce e.target (BitVec.ofNat 6 w) else s.refuse e false .payload

/-- FORCE_LEVEL. -/
def execForceLevel (s : State) : Result :=
  .next (s.applyKind .forceLevel (fun e => !isForceEnd e) State.applyForce)

/-- The force ends and the target is recomputed (R84). -/
def State.endForce (s : State) (ch : Ch) : State :=
  (s.onChan ch fun c => { c with laser := { c.laser with force := none } }).retarget ch

/-- FORCE_END. -/
def execForceEnd (s : State) : Result :=
  .next (s.applyKind .forceLevel isForceEnd fun t e => t.endForce e.target)

/-! ### Unknown kinds (R157) -/

/-- UNKNOWN_KIND. -/
def execUnknownKind (s : State) : Result :=
  .next
    (match s.applying with
     | some e => if kindOf e.kind == none then (s.refuse e false .unknownKind).takeNext else s
     | none => s)

end Sys2Proof.Machine
end

