-- ==== Sys2Proof/Machine/Resets.lean ====
section
/-! DEFINITION. Power-on and pin reset: POWER_ON, RSTN_LOW, RESET_RELEASE (R14, R15, R17, R22, R60, R85, R102, R113, R124, R138, R149, R163, R173). -/

namespace Sys2Proof.Machine

/-- A channel as a reset leaves it: its input lines stay, its accumulators are those given. -/
def Channel.atReset (c : Channel) (t : Tick) (phase : LinkPhase) (accums : List Nat) : Channel :=
  initialChannel t phase c.lrdy c.pfi c.lks accums

/-- The accumulators of a channel. -/
def Channel.accums (c : Channel) : List Nat := c.heads.map fun hd => hd.accum

/-- The shared blocks as a reset leaves them; the tick count, the straps, the channels and the free-choice
count stay. The head-select register number is 0 until a release samples its strap (log entry 4). -/
def State.resetShared (s : State) : State :=
  { s with
    levels := initialLevels, ceiling := 200, reportDiv := 15, selectReg := 0, loser := none
    recheckDue := false, directives := [], overrun := false, engine := none, incidents := []
    nextIncident := 0, overflow := false, deferred := [], reportSeq := 0, sending := none
    reportPending := false }

/-- The part while RSTN is low: everything reset, the accumulators kept (R15, R115, R124). C, W and F stand at the
tick of the fall of RSTN until the release dates them (log entry 31). -/
def State.holdReset (s : State) : State :=
  { s.resetShared with
    rstnLow := true
    a := s.a.atReset s.now .wire s.a.accums
    b := s.b.atReset s.now .wire s.b.accums }

/-- RSTN_LOW. -/
def execRstnLow (s : State) : Result := .next (if s.rstnLow then s else s.holdReset)

/-- The relay's phase at reset release: IDLE when LKSx is high, else WIRE until it rises; an absent
channel's relay stays idle (R149). -/
def releasePhase (present lks : Bool) : LinkPhase := if !present || lks then .idle else .wire

/-- Reset release: the straps are sampled and every block starts, its kept ticks dated now (R14, R15). -/
def State.leaveReset (s : State) (lcA lcB : BitVec 6) : State :=
  let straps := sampleStraps lcA lcB
  { s.resetShared with
    rstnLow := false
    straps := straps
    selectReg := lcA.setWidth 7
    a := s.a.atReset s.now (releasePhase true s.a.lks) s.a.accums
    b := s.b.atReset s.now (releasePhase straps.twoChannels s.b.lks) s.b.accums }

/-- RESET_RELEASE: RSTN rises (it must be low). -/
def execResetRelease (lcA lcB : BitVec 6) (s : State) : Result :=
  .next (if s.rstnLow then s.leaveReset lcA lcB else s)

/-- The part at power-on with RSTN low: the tick count and every accumulator at 0 (R15, R17, R124). -/
def State.powerUp (s : State) : State :=
  { s.resetShared with
    now := 0
    heatTaken := true
    rstnLow := true
    a := s.a.atReset 0 .wire (List.replicate 8 0)
    b := s.b.atReset 0 .wire (List.replicate 8 0) }

/-- POWER_ON: with RSTN already high, power-on is itself a reset release (R14). -/
def execPowerOn (rstn : Bool) (lcA lcB : BitVec 6) (s : State) : Result :=
  .next (if rstn then s.powerUp.leaveReset lcA lcB else s.powerUp)

end Sys2Proof.Machine
end

