-- ==== Sys2Proof/Machine/Due.lean ====
section
/-! DEFINITION. What the part does by itself: the timed steps that are due at the present tick, and the passing of a tick (R17, R19; log entry 2). -/

namespace Sys2Proof.Machine

/-- A command, if its event is due. -/
def dueIf (b : Bool) (i : Instr) : List Instr := if b then [i] else []

/-- A filter's recognised edge whose step has still to be taken (R2). -/
def dueGate (f : Filter) (rise fall : Instr) : List Instr :=
  if f.run < 3 then [] else [if f.level then fall else rise]

/-- The steps of a channel that are due at this tick. A held frame that is still arriving is caught up by the
sender's command alone, which knows its bits and the fall of LKCx (R147; log entry 11). -/
def State.dueOf (s : State) (ch : Ch) : List Instr :=
  let c := s.chan ch
  (if s.live ch then
      dueGate c.wg (.writeGateRise ch) (.writeGateFall ch)
        ++ dueGate c.sg (.servoGateRise ch) (.servoGateFall ch)
        ++ dueGate c.rg (.readGateRise ch) (.readGateFall ch)
    else [])
    ++ dueIf (s.rateComplete ch) (.rateWindowComplete ch)
    ++ dueIf (s.rateExpired ch) (.rateWindowAbandon ch)
    ++ (allHeads.filter fun h => s.promotionDue ch h).map (fun h => .promotion ch h)
    ++ dueIf (s.replayDue ch && (s.chan ch).relay.wholeHeld) (.heldFrameReplay ch [] 0)
    ++ dueIf (s.replayEnds ch) (.replayComplete ch)
    ++ dueIf (s.catchUpDue ch) (.catchUpComplete ch)
    ++ dueIf (s.waitingDue ch) (.waitingFrameRelease ch)
    ++ dueIf (s.tailDue ch) (.tailExpiry ch)
    ++ dueIf (s.rampStepDue ch) (.rampStep ch)
    ++ dueIf (s.rampCompleteDue ch) (.rampComplete ch)
    ++ dueIf (s.releaseDue ch) (.release ch)
    ++ dueIf (s.readyTimeoutDue ch) (.readyTimeout ch)
    ++ dueIf (s.prgDue ch) (.prgRise ch)
    ++ dueIf (s.fenceDue ch) (.fenceTickReached ch)
    ++ dueIf (s.abandonDue ch) (.acquisitionAbandon ch)
    ++ dueIf (s.missDue ch) (.wedgeMissExpiry ch)
    ++ dueIf (s.holdLimitDue ch) (.holdLimitExpiry ch)
    ++ dueIf (s.clearJoinDue ch) (.waitingClearJoin ch)
    ++ dueIf (s.parkDue ch) (.parkExpiry ch)

/-- The command that applies a frame (R157). -/
def applicationOf (e : Entry) : Instr :=
  match kindOf e.kind with
  | some .headContext => .headContext
  | some .releaseContext => .releaseContext
  | some .levelTable => .levelTable
  | some .channelSetup => .channelSetup
  | some .globalSetup => .globalSetup
  | some .report => .report
  | some .clear => .clear
  | some .channelReset => .channelReset
  | some .forceLevel => if isForceEnd e then .forceEnd else .forceLevel
  | none => .unknownKind

/-- The channel's deferred incident has a free place to be stored in (R167). -/
def State.deferredWaits (s : State) (ch : Ch) : Bool :=
  (s.deferredOf ch).isSome && decide (s.incidents.length < 16)

/-- The steps that are due at this tick, in the order in which the part takes them when no command says
otherwise (log entry 2). -/
def State.dueSteps (s : State) : List Instr :=
  dueIf s.recheckDue .stepGrant
    ++ s.dueOf .A ++ s.dueOf .B
    ++ dueIf (s.deferredWaits .A) (.deferredIncidentStore .A)
    ++ dueIf (s.deferredWaits .B) (.deferredIncidentStore .B)
    ++ dueIf s.heatDue .heatTick
    ++ (s.applying.map applicationOf).toList
    ++ dueIf s.reportEnds .reportFrameEnd

/-- The first step that is due at this tick. -/
def State.firstDue (s : State) : Option Instr := s.dueSteps.head?

/-- The bits given downstream by tick `now` in a catch-up or a replay (09, opening table; R140). -/
def Relay.advance (r : Relay) (now : Tick) : Relay :=
  match r.phase with
  | .catchUp | .replay =>
    { r with given :=
        if atOrAfter now r.start then min r.goal ((ticksFrom r.start now + 32) / bitTicks) else 0 }
  | _ => r

/-- A sequencer whose kept tick has grown older (R19). -/
def Sequencer.age (q : Sequencer) (now : Tick) : Sequencer :=
  { q with
    parkDue := false
    motion := match q.motion with
      | .settled since hold => .settled (since.age now) hold
      | .ramp last dwell want held => .ramp (last.age now) dwell want held }

/-- A channel as the tick count reaches `now`: the kept ticks age (R19). -/
def Channel.age (c : Channel) (now : Tick) : Channel :=
  let r := c.relay.advance now
  { c with
    pwgFall := c.pwgFall.age now
    laser := c.laser.age now
    relay := { r with lastOwn := r.lastOwn.age now } }

/-- A tick passes (R17). -/
def State.tick (s : State) : State :=
  let now := s.now + 1
  { s with
    now := now, heatTaken := false, a := s.a.age now, b := s.b.age now
    deferred := s.deferred.map fun d => { d with fresh := false } }

end Sys2Proof.Machine
end

