-- ==== Sys2Proof/Machine/Dispatch.lean ====
section
/-! DEFINITION. exec: one arm per command, one direct call of its meaning. -/

namespace Sys2Proof.Machine

def exec (i : Instr) (s : State) : Host.Outcome State Fault Refusal :=
  match i with
  | .powerOn rstn lcA lcB => Sys2Proof.Machine.execPowerOn rstn lcA lcB s
  | .rstnLow => Sys2Proof.Machine.execRstnLow s
  | .resetRelease lcA lcB => Sys2Proof.Machine.execResetRelease lcA lcB s
  | .writeGateRise ch => Sys2Proof.Machine.execWriteGateRise ch s
  | .writeGateFall ch => Sys2Proof.Machine.execWriteGateFall ch s
  | .symbolIntake ch wd wg sg rg => Sys2Proof.Machine.execSymbolIntake ch wd wg sg rg s
  | .symbolRelease ch => Sys2Proof.Machine.execSymbolRelease ch s
  | .release ch => Sys2Proof.Machine.execRelease ch s
  | .tailExpiry ch => Sys2Proof.Machine.execTailExpiry ch s
  | .promotion ch head => Sys2Proof.Machine.execPromotion ch head s
  | .readyTimeout ch => Sys2Proof.Machine.execReadyTimeout ch s
  | .lrdyRise ch => Sys2Proof.Machine.execLrdyRise ch s
  | .lrdyFall ch => Sys2Proof.Machine.execLrdyFall ch s
  | .pfiChange ch level => Sys2Proof.Machine.execPfiChange ch level s
  | .rampStep ch => Sys2Proof.Machine.execRampStep ch s
  | .stepGrant => Sys2Proof.Machine.execStepGrant s
  | .rampComplete ch => Sys2Proof.Machine.execRampComplete ch s
  | .heatTick => Sys2Proof.Machine.execHeatTick s
  | .parkExpiry ch => Sys2Proof.Machine.execParkExpiry ch s
  | .readGateRise ch => Sys2Proof.Machine.execReadGateRise ch s
  | .readGateFall ch => Sys2Proof.Machine.execReadGateFall ch s
  | .prgRise ch => Sys2Proof.Machine.execPrgRise ch s
  | .servoGateRise ch => Sys2Proof.Machine.execServoGateRise ch s
  | .servoGateFall ch => Sys2Proof.Machine.execServoGateFall ch s
  | .fenceTickReached ch => Sys2Proof.Machine.execFenceTickReached ch s
  | .acquisitionAbandon ch => Sys2Proof.Machine.execAcquisitionAbandon ch s
  | .wedgeMissExpiry ch => Sys2Proof.Machine.execWedgeMissExpiry ch s
  | .rateWindowComplete ch => Sys2Proof.Machine.execRateWindowComplete ch s
  | .rateWindowAbandon ch => Sys2Proof.Machine.execRateWindowAbandon ch s
  | .linkFrameStart ch => Sys2Proof.Machine.execLinkFrameStart ch s
  | .linkHeaderTaken ch header fall => Sys2Proof.Machine.execLinkHeaderTaken ch header fall s
  | .catchUpComplete ch => Sys2Proof.Machine.execCatchUpComplete ch s
  | .linkFrameEnd ch bits => Sys2Proof.Machine.execLinkFrameEnd ch bits s
  | .heldFrameReplay ch bits fall => Sys2Proof.Machine.execHeldFrameReplay ch bits fall s
  | .replayComplete ch => Sys2Proof.Machine.execReplayComplete ch s
  | .waitingFrameRelease ch => Sys2Proof.Machine.execWaitingFrameRelease ch s
  | .holdLimitExpiry ch => Sys2Proof.Machine.execHoldLimitExpiry ch s
  | .directiveFrame ch symbols => Sys2Proof.Machine.execDirectiveFrame ch symbols s
  | .waitingClearJoin ch => Sys2Proof.Machine.execWaitingClearJoin ch s
  | .headContext => Sys2Proof.Machine.execHeadContext s
  | .releaseContext => Sys2Proof.Machine.execReleaseContext s
  | .levelTable => Sys2Proof.Machine.execLevelTable s
  | .channelSetup => Sys2Proof.Machine.execChannelSetup s
  | .globalSetup => Sys2Proof.Machine.execGlobalSetup s
  | .report => Sys2Proof.Machine.execReport s
  | .clear => Sys2Proof.Machine.execClear s
  | .deferredIncidentStore ch => Sys2Proof.Machine.execDeferredIncidentStore ch s
  | .channelReset => Sys2Proof.Machine.execChannelReset s
  | .forceLevel => Sys2Proof.Machine.execForceLevel s
  | .forceEnd => Sys2Proof.Machine.execForceEnd s
  | .unknownKind => Sys2Proof.Machine.execUnknownKind s
  | .reportFrameEnd => Sys2Proof.Machine.execReportFrameEnd s

end Sys2Proof.Machine
end

