-- ==== Sys2Proof/Machine/Step.lean ====
section
/-! DEFINITION. One step: the command at the front of the queue; with no command, a step of the part that is due, or else a tick. -/

namespace Sys2Proof.Machine

/-- One step of the part. The command at the front of the queue is executed on the state with the queue's
rest. On an empty queue the part acts by itself: the first of its own steps that is due at this tick is
taken, and when none is due the tick count advances (R17; log entry 2). -/
def step (s : State) : Host.Outcome State Fault Refusal :=
  match s.pending with
  | c :: rest => exec c { s with pending := rest }
  | [] =>
    match s.firstDue with
    | some c => exec c s
    | none => .next s.tick

/-- The state with the command a word spells put at the front of the queue; no word spells one. -/
def State.withFetchWord (s : State) (nbits w : Nat) : State :=
  match decodeTableWord nbits w with
  | some c => { s with pending := c :: s.pending }
  | none => s

end Sys2Proof.Machine
end

