-- ==== Sys2Proof/Safety.lean ====
section
/-! DEFINITION. The device's laws as predicates of the state: what a safe run keeps at every step. -/

namespace Sys2Proof.Machine

/-- The deferred incidents are of class 3, at most one for each channel (R167). -/
def State.DeferredOk (s : State) : Prop :=
  (∀ d ∈ s.deferred, d.incident.kind.cls = 3) ∧ (s.deferred.map fun d => d.incident.ch).Nodup

/-- The law of the incident queue: at most 16 records, their numbers consecutive, oldest first, the newest
one before the next number (R166). -/
def State.IncidentsOk (s : State) : Prop :=
  s.incidents.length ≤ 16 ∧
    s.incidents.map (fun x => x.number)
      = (List.range s.incidents.length).map fun i =>
          s.nextIncident - BitVec.ofNat 16 (s.incidents.length - i)

/-- The law of lockout: code 0, LEN low and an empty burst queue, with nothing under way that could move
the code (R81). -/
def State.LockoutOk (s : State) (ch : Ch) : Prop :=
  s.lockedOut ch = true →
    (s.chan ch).laser.code = 0 ∧ (s.chan ch).laser.target = 0 ∧
      (s.chan ch).laser.isSettled = true ∧ s.len ch = false ∧
      (s.chan ch).queue = [] ∧ (s.chan ch).line = []

/-- The law of the delay line: at most 4096 symbols, and they are the runs of the queued records, one
behind the other in queue order (R11). -/
def Channel.LineOk (c : Channel) : Prop :=
  c.line.length ≤ 4096 ∧
    c.line.map (fun x => x.seq) = c.queue.flatMap fun r => List.replicate r.run r.seq

/-- The law of the burst queue: at most 8 records, the head record and it alone outside QUEUED, no record
but the newest with its input open, and that only while filtered WGx is high (R36, R42). -/
def Channel.QueueOk (c : Channel) : Prop :=
  c.queue.length ≤ 8 ∧ (∀ r ∈ c.queue.tail, r.state = .queued) ∧
    (∀ r ∈ c.queue.head?, r.state ≠ .queued) ∧
    (∀ r ∈ c.queue.dropLast, r.inputOpen = false) ∧
    (∀ r ∈ c.queue, r.inputOpen = true → c.wg.level = true)

/-- The counts of a record, short of saturation (R42). -/
def Rec.CountsOk (r : Rec) : Prop :=
  r.symIn < maxSymbols → r.symIn = r.symOut + r.symDropped + r.run

/-- The records of a channel carry the selected head, and a head-select write that occupies the hold slot
past its recognition meets an empty queue unless it is held (R36, R142, R145). -/
def Channel.OneHead (c : Channel) : Prop :=
  (∀ r ∈ c.queue, c.relay.selected = some r.head) ∧
    (c.relay.slot.isSome = true → c.relay.phase ≠ .hold → c.queue = []) ∧
    (c.relay.phase = .hold → c.relay.slot.isSome = true) ∧
    (c.relay.phase = .replay → c.relay.slot.isSome = true)

/-- The law of the servo gate: while filtered SGx is high the fence window is open, PWGx is low and no
record is RELEASING (R54). -/
def Channel.ServoOk (c : Channel) : Prop :=
  c.sg.level = true → c.wedge.fence = true ∧ c.pwg = false ∧ c.isReleasing = false

/-- The law of the gate pair: PRGx is low while PWGx is high, and while a RELEASING record may raise it (R7). -/
def Channel.PairOk (c : Channel) : Prop := (c.pwg || c.isReleasing) = true → c.prg = false

/-- The law of forcing: a force is present only if the bench strap was high (R84). -/
def State.ForceOk (s : State) (ch : Ch) : Prop :=
  (s.chan ch).laser.force.isSome = true → s.straps.bench = true

/-- The law of the accumulators: eight per channel, each within 0..65535 (R115). -/
def Channel.HeatOk (c : Channel) : Prop := c.heads.length = 8 ∧ ∀ h ∈ c.heads, h.accum ≤ 65535

/-- A code lies outside the ranges. -/
def clearOf (rs : List Range) (c : Code) : Prop := inRanges rs c.toNat = false

/-- The ranges of a context as loading leaves them: at most two, each within 1..62, no code shared (R126). -/
def rangesOk (rs : List Range) : Prop :=
  rs.length ≤ 2 ∧ (∀ r ∈ rs, r.ok = true) ∧ rangesApart rs = true

/-- A context as loading leaves it: at least one band, a dwell of at least 1, its ranges in order, and its bias,
read and write codes outside them (R125). -/
def Context.CodesOk (x : Context) : Prop :=
  x.bands ≠ [] ∧ 1 ≤ x.dwell ∧ rangesOk x.ranges ∧ clearOf x.ranges x.bias ∧ clearOf x.ranges x.read ∧
    ∀ b ∈ x.bands, clearOf x.ranges b.code

/-- The context of a pending copy. -/
def Pending.waits : Pending → Option Context
  | .copy x => Option.some x
  | .none => Option.none
  | .unload => Option.none

/-- Every copy of a head's context is as loading leaves it (R125, R129). -/
def Head.CodesOk (h : Head) : Prop :=
  (∀ x ∈ h.active, x.CodesOk) ∧ ∀ x ∈ h.pending.waits, x.CodesOk

/-- The law of the code and the ranges, with what it rests on: the contexts are as loading leaves them, the
records' write codes, the target and a landing waited for lie outside the ranges of the selected head's
context, and so does the code (R79). -/
def Channel.RangesOk (c : Channel) : Prop :=
  (∀ h ∈ c.heads, h.CodesOk) ∧
    (∀ r ∈ c.queue, clearOf c.ranges r.writeCode) ∧
    clearOf c.ranges c.laser.target ∧ (∀ b ∈ c.laser.want, clearOf c.ranges b) ∧
    clearOf c.ranges c.laser.code

/-- The level table does not fall from a code to a higher one. -/
def State.LevelsRise (s : State) : Prop := ∀ c d : Code, c.toNat ≤ d.toNat → s.current c ≤ s.current d

/-- The law of the supply: the used sum is within the ceiling (R104). -/
def State.SupplyOk (s : State) : Prop := s.used ≤ s.ceiling

/-! ### Conditions the statements name -/

/-- The checks of admission with the reason each refuses with, in their order: the table of R39. -/
def State.admissionChecks (s : State) (ch : Ch) : List (Bool × Reason) :=
  let c := s.chan ch
  let usable := match c.relay.selected with
    | none => false
    | some h => (c.contextOf h).isSome && (c.headAt h).pending != .unload
  let held := match c.relay.selected with
    | none => false
    | some h => (c.headAt h).hold
  let dear := match c.context.bind fun x => x.band c.rate.p with
    | none => false
    | some (_, b) => decide (s.ceiling < s.current b.code)
  [(s.lockedOut ch, .lockout), (c.sg.level, .servoActive), (c.wedge.fence, .fenced),
    (c.rg.level, .gateConflict), (c.relay.slot.isSome, .headPending), (!usable, .noContext),
    (!c.rate.valid, .noRate), (held, .thermalHold), (dear, .overCeiling),
    (decide (8 ≤ c.queue.length), .queueFull)]

/-- The first check that fails, if one does (R39). -/
def State.firstFailing (s : State) (ch : Ch) : Option Reason :=
  ((s.admissionChecks ch).find? fun x => x.1).map fun x => x.2

/-- The cases of the target, each with the target it gives, in their order: the table of R62. -/
def State.targetCases (s : State) (ch : Ch) : List (Bool × Code) :=
  let c := s.chan ch
  let forced := match c.laser.force with
    | some f => belowRanges c.ranges f
    | none => 0
  let write := match c.queue with
    | r :: _ => r.writeCode
    | [] => 0
  let read := match c.context with
    | some x => x.read
    | none => 0
  let bias := match c.context with
    | some x => x.bias
    | none => 0
  [(s.lockedOut ch, 0), (c.laser.force.isSome, forced), (!c.queue.isEmpty, write), (c.context.isNone, 0),
    (c.wedge.fence, read), (c.rg.level, read), (c.laser.park, 0), (true, bias)]

/-- The number of the first case that applies, 1 to 8 (R62). -/
def State.firstCase (s : State) (ch : Ch) : Nat := ((s.targetCases ch).findIdx fun x => x.1) + 1

/-- The target of the first case that applies (R62). -/
def State.firstTarget (s : State) (ch : Ch) : Code :=
  match (s.targetCases ch).find? fun x => x.1 with
  | some x => x.2
  | none => 0

/-- The states of the sequencer by the case that chose the target, `k`, whether the code has settled, and the state
of the head record: the table of R63. -/
def stateOfCase (k : Nat) (settled : Bool) (head : Option RecState) : List (Bool × SeqState) :=
  [(k == 1, .lockout), (k == 2, .forced), (k == 5, .fenced), (!settled, .ramp),
    (k == 4 || k == 7, .parked), (k == 8, .idle), (k == 6, .reading),
    (head == some .releasing, .writing), (head == some .tail, .tail), (true, .preheat)]

/-- The tick a motion counts from: at-write-since, or the last code change (R65, R69). -/
def Motion.since : Motion → Stamp
  | .settled since _ => since
  | .ramp last _ _ _ => last

/-- The ticks that must pass before the next step: the dwell read at the last step, or the hold at 0 (R65, R69). -/
def Motion.wait : Motion → Nat
  | .settled _ hold => hold
  | .ramp _ dwell _ _ => dwell

/-- The wait of the motion is the hold at 0 after a direct set, if there is a wait at all (R67, R69). -/
def Motion.holdsZero : Motion → Bool
  | .settled _ _ => true
  | .ramp _ _ _ held => held

/-- From `s` to `t` the target of the sequencer is a new one, the code does not stand at it, and the first step toward
it is taken at once: it is due, and it goes down, or its current difference is 0 or less, or it fits (R64 to R67,
R105). -/
def State.takesStep (s t : State) (ch : Ch) : Prop :=
  let q := (s.chan ch).laser
  let goal := (t.chan ch).laser.target
  let n := nextCode (t.chan ch).rampParams q.code goal
  let cost : Int := (s.current n : Int) - (s.current q.code : Int)
  goal ≠ q.target ∧ goal ≠ q.code ∧ q.motion.since.elapsed s.now q.motion.wait = true ∧
    (goal.toNat < q.code.toNat ∨ cost ≤ 0 ∨ (s.used : Int) + cost ≤ s.ceiling)

/-- From `s` to `t` the code has met the target it has in `t`, no re-check being due (R64 to R67). An unchanged
target leaves it as it was. A new one that the code stands at moves nothing: a settled code keeps at-write-since, a
ramp its last change and dwell, and a hold at 0 ends settled. Away from it, a step that is due is taken at once, down
or if it fits, and else waits for its grant with at-write-since absent (log entry 30); one that is not due keeps the
last change and the wait. A waiting request is cleared in every case. -/
def State.movesTo (s t : State) (ch : Ch) : Prop :=
  let q := (s.chan ch).laser
  let u := (t.chan ch).laser
  let p := (t.chan ch).rampParams
  let n := nextCode p q.code u.target
  let due : Prop := q.motion.since.elapsed s.now q.motion.wait = true
  let away : Prop := u.target ≠ q.target ∧ u.target ≠ q.code
  let stays (m : Motion) : Prop := u.code = q.code ∧ u.motion = m
  (t.chan (otherCh ch)).laser = (s.chan (otherCh ch)).laser ∧
    (u.target = q.target → stays q.motion) ∧
    (u.target ≠ q.target → u.target = q.code → stays
      (if q.motion.holdsZero = true then .settled q.motion.since q.motion.wait
       else .ramp q.motion.since q.motion.wait none false)) ∧
    (away → ¬ due → stays (.ramp q.motion.since q.motion.wait none q.motion.holdsZero)) ∧
    (s.takesStep t ch →
      u.code = n ∧ u.motion = .ramp { tick := s.now, old := false } p.dwell none false) ∧
    (away → due → ¬ s.takesStep t ch → stays (.ramp q.motion.since q.motion.wait (some n) false))

/-- The code has met its target (movesTo), and a step that was taken has stopped the ready timer, which otherwise runs
or stands as before (R65, R72). -/
def State.meetsTarget (s t : State) (ch : Ch) : Prop :=
  s.movesTo t ch ∧ (s.takesStep t ch → (t.chan ch).laser.ready = none) ∧
    (¬ s.takesStep t ch → (t.chan ch).laser.ready = (s.chan ch).laser.ready)

/-- From `s` to `t` the channel has got another head record, or an empty queue (R36, R44, R74): the code meets the
target, and the ready timer is stopped, unless the new head record is in PREPARING in READY lead mode with the code
settled at its write code: then it starts at the present tick (R72). -/
def State.headChanges (s t : State) (ch : Ch) : Prop :=
  let c := t.chan ch
  c.laser.target = t.firstTarget ch ∧ (s.recheckDue = false → s.movesTo t ch) ∧
    (∀ r, c.headRec = some r → r.state = .preparing → c.readyMode r = true → c.laser.isSettled = true →
      c.laser.code = r.writeCode → c.laser.ready = some t.now) ∧
    ((∀ r, c.headRec = some r → r.state ≠ .preparing ∨ c.readyMode r = false ∨ c.laser.isSettled = false ∨
      c.laser.code ≠ r.writeCode) → c.laser.ready = none)

/-- The code has been set directly to 0 at the present tick (R69): at-write-since is this tick, the ready timer is
stopped and no request waits. A target of 0 leaves the code settled; any other is held off for one dwell, that of the
selected head's context, or 63 ticks under a force with none. -/
def State.heldAtZero (t : State) (ch : Ch) : Prop :=
  let q := (t.chan ch).laser
  let set : Stamp := { tick := t.now, old := false }
  q.code = 0 ∧ q.ready = none ∧ q.motion.wait = (t.chan ch).rampParams.dwell ∧
    (∀ x, (t.chan ch).context = some x → q.motion.wait = x.dwell) ∧
    ((t.chan ch).context = none → q.force.isSome = true → q.motion.wait = 63) ∧
    q.motion = if q.target = 0 then .settled set q.motion.wait else .ramp set q.motion.wait none true

/-- The selected head's context, if it has one, has a band to look up (R125). -/
def Channel.bandsPresent (c : Channel) : Prop := ∀ x, c.context = some x → x.bands ≠ []

/-- The record an admitted rise makes: the fields R35 gives it at its creation, with band `b` of index `i` and
the base lead of R25. -/
def recordOf (n : Seq) (h : HeadNo) (x : Context) (i : Nat) (b : Band) : Rec :=
  { seq := n, head := h, state := .queued, inputOpen := true, symIn := 0, symOut := 0
    symDropped := 0, band := i, writeCode := b.code
    leadTicks := (max 0 (min (x.lead + b.adjust) 1023)).toNat, cold := false, allowance := none
    bridged := false, truncated := false, run := 0, tailFrom := 0 }

/-- Checks 1 to 6 of a frame at its tick of application, with the reason each refuses with, in their order: the
tables of R157. -/
def State.directiveChecks (s : State) (e : Entry) : List (Bool × RefuseReason) :=
  let k := e.kind.toNat
  let n := e.payload.length
  let lengthOk := match k with
    | 1 => decide (10 ≤ n)
    | 3 => decide (1 ≤ n)
    | 4 => n == 7
    | 5 => n == 2
    | 7 => n == 1
    | 9 => n == 1
    | _ => n == 0
  [(k == 0 || decide (9 < k), .unknownKind), (!lengthOk, .length),
    ([1, 2, 4, 8, 9].contains k && e.target == .B && !s.straps.twoChannels, .channelAbsent),
    ([1, 2].contains k && decide ((s.chan e.target).setup.headsCount ≤ e.head.toNat), .headRange),
    (k == 9 && !s.straps.bench, .notBench),
    ([3, 5].contains k && !(s.a.queue.isEmpty && s.b.queue.isEmpty), .busy)]

/-- The first of the checks that fails, if one does (R157). -/
def State.firstRefusal (s : State) (e : Entry) : Option RefuseReason :=
  ((s.directiveChecks e).find? fun x => x.1).map fun x => x.2

/-- The DIRECTIVE_REFUSED of a frame, its reason given by value (R157). -/
def refusedFrame (e : Entry) (reason : Nat) : Incident :=
  { kind := .directiveRefused, ch := e.target
    head := if e.kind = 1#6 ∨ e.kind = 2#6 then some e.head else none
    burst := none, detail := reason * 256 + e.kind.toNat }

/-- The state once an application is over: the engine has taken the oldest frame of the queue and begun its
application, or is idle (R156). -/
def State.nextFrame (s : State) : State :=
  { s with
    directives := s.directives.tail
    engine := s.directives.head?.map fun e =>
      { entry := e, endTick := s.now + BitVec.ofNat 32 (64 + 16 * e.payload.length) } }

/-- No promotion or unload of the selected head's context can be carried out now: none is pending, or a record
of the head is queued (R132). -/
def State.storeQuiet (s : State) (ch : Ch) : Bool :=
  match (s.chan ch).relay.selected with
  | some h => !s.promotionDue ch h
  | none => true

/-- No filtered edge has been recognised and left to take, and no rate window has completed or run out: a
write-clock edge meets nothing but its own steps (R2, R20, R21). -/
def State.edgesQuiet (s : State) (ch : Ch) : Bool :=
  let c := s.chan ch
  decide (c.wg.run < 3) && decide (c.sg.run < 3) && decide (c.rg.run < 3) && !s.rateComplete ch
    && !s.rateExpired ch

/-- A fence not after the present tick in a timer that predicts (R97, R98). -/
def State.fencePassed (s : State) (ch : Ch) (f : Tick) : Bool :=
  (s.chan ch).wedge.lock.predicts && atOrAfter s.now f

/-- The step is one the part takes by itself, with no operand that the outside supplies. -/
def isOwnStep : Instr → Bool
  | .release _ | .tailExpiry _ | .promotion _ _ | .readyTimeout _ | .rampStep _ | .stepGrant
  | .rampComplete _ | .heatTick | .parkExpiry _ | .prgRise _ | .fenceTickReached _
  | .acquisitionAbandon _ | .wedgeMissExpiry _ | .rateWindowComplete _ | .rateWindowAbandon _
  | .catchUpComplete _ | .replayComplete _ | .waitingFrameRelease _ | .holdLimitExpiry _
  | .waitingClearJoin _ | .headContext | .releaseContext | .levelTable | .channelSetup
  | .globalSetup | .report | .clear | .deferredIncidentStore _ | .channelReset | .forceLevel
  | .forceEnd | .unknownKind | .reportFrameEnd => true
  | .powerOn _ _ _ | .rstnLow | .resetRelease _ _ | .writeGateRise _ | .writeGateFall _
  | .symbolIntake _ _ _ _ _ | .symbolRelease _ | .lrdyRise _ | .lrdyFall _ | .pfiChange _ _
  | .readGateRise _ | .readGateFall _ | .servoGateRise _ | .servoGateFall _ | .linkFrameStart _
  | .linkHeaderTaken _ _ _ | .linkFrameEnd _ _ | .heldFrameReplay _ _ _ | .directiveFrame _ _ => false

/-- The device's law for release: the laser code equals the write code of the record and has been held for at least its
lead ticks, and in READY lead mode LRDYx is high (R47, R70). -/
def State.mayWrite (s : State) (ch : Ch) (r : Rec) : Prop :=
  let c := s.chan ch
  c.laser.code = r.writeCode ∧
    (∃ since hold, c.laser.motion = .settled since hold ∧
      (since.old = true ∨ r.leadTicks ≤ (s.now - since.tick).toNat)) ∧
    ∀ x, c.contextOf r.head = some x → x.mode = .ready → c.lrdy = true

/-- The present tick is at or after `t` (R19). -/
def State.reaches (s : State) (t : Tick) : Prop := 0 ≤ (s.now - t).toInt

/-- `d` ticks have passed from `t` to the present tick (R19). -/
def State.since (s : State) (t : Tick) (d : Nat) : Prop := d ≤ (s.now - t).toNat

/-- A filtered edge of a gate has been recognised and has still to be taken: to high if `level` is false (R2). -/
def Filter.recognised (f : Filter) (level : Bool) : Prop := 3 ≤ f.run ∧ f.level = level

/-- The application of a frame whose kind code is `k` ends at the present tick (R156). -/
def State.applies (s : State) (k : Nat → Prop) (pick : List Word → Prop) : Prop :=
  s.rstnLow = false ∧
    ∃ a ∈ s.engine, s.reaches a.endTick ∧ k a.entry.kind.toNat ∧ pick a.entry.payload

/-- When each step that the part takes by itself is due: the events of the table that have a time or a condition of
their own, each with the condition its rule gives. No other command is ever due. -/
def State.isDue (s : State) (i : Instr) : Prop :=
  let kind (n k : Nat) : Prop := k = n
  let any (_ : List Word) : Prop := True
  match i with
  -- R45
  | .release ch => s.live ch = true ∧ (s.chan ch).prg = false ∧ (s.chan ch).wedge.fence = false ∧
      ∃ r ∈ (s.chan ch).headRec, r.state = .preparing ∧ s.mayWrite ch r
  -- R51
  | .tailExpiry ch => s.live ch = true ∧
      ∃ r ∈ (s.chan ch).headRec, r.state = .tail ∧ s.since r.tailFrom ((s.chan ch).tailOf r)
  -- R72
  | .readyTimeout ch => s.live ch = true ∧ ∃ r ∈ (s.chan ch).headRec, r.state = .preparing ∧
      ∃ t ∈ (s.chan ch).laser.ready, s.since t ((s.chan ch).readyTimeoutOf r)
  -- R132
  | .promotion ch h => s.live ch = true ∧ ((s.chan ch).headAt h).pending ≠ .none ∧
      ∀ r ∈ (s.chan ch).queue, r.head ≠ h
  -- R65
  | .rampStep ch => s.live ch = true ∧ (s.chan ch).laser.isSettled = false ∧ (s.chan ch).laser.want = none ∧
      (s.chan ch).laser.code ≠ (s.chan ch).laser.target ∧
      (s.chan ch).laser.motion.since.elapsed s.now (s.chan ch).laser.motion.wait = true
  -- R68
  | .rampComplete ch => s.live ch = true ∧ (s.chan ch).laser.isSettled = false ∧
      (s.chan ch).laser.code = (s.chan ch).laser.target ∧
      (s.chan ch).laser.motion.since.elapsed s.now (s.chan ch).laser.motion.wait = true
  -- R76
  | .parkExpiry ch => s.live ch = true ∧ (s.chan ch).laser.parkDue = true ∧ s.seqState ch = .idle
  -- R107
  | .stepGrant => s.recheckDue = true
  -- R18, R115
  | .heatTick => s.now.toNat % 1024 = 0 ∧ s.heatTaken = false
  -- R7
  | .prgRise ch => s.live ch = true ∧ (s.chan ch).prg = false ∧ (s.chan ch).rg.level = true ∧
      (s.chan ch).pwg = false ∧ (∀ r ∈ (s.chan ch).headRec, r.state ≠ .releasing) ∧
      (s.chan ch).pwgFall.elapsed s.now (s.chan ch).setup.deadTime = true
  -- R97
  | .fenceTickReached ch => s.live ch = true ∧ (s.chan ch).wedge.fence = false ∧
      (s.chan ch).wedge.lock.predicts = true ∧ s.reaches (s.chan ch).wedge.fenceTick
  -- R89
  | .acquisitionAbandon ch => s.live ch = true ∧ (s.chan ch).wedge.lock = .acquiring ∧
      s.since (s.chan ch).wedge.last ((s.chan ch).wedge.nominal + (s.chan ch).wedge.tolerance)
  -- R92, R93
  | .wedgeMissExpiry ch => s.live ch = true ∧ (s.chan ch).wedge.lock.predicts = true ∧
      s.reaches ((s.chan ch).wedge.next + BitVec.ofNat 32 (s.chan ch).wedge.tolerance)
  -- R20
  | .rateWindowComplete ch => s.live ch = true ∧
      ∃ w ∈ (s.chan ch).rate.window, 1024 ≤ w.edges ∧ ¬ s.since w.start 4096
  -- R21
  | .rateWindowAbandon ch => s.live ch = true ∧ ∃ w ∈ (s.chan ch).rate.window, s.since w.start 4096
  -- R141
  | .catchUpComplete ch => s.live ch = true ∧ (s.chan ch).relay.phase = .catchUp ∧
      s.reaches (s.chan ch).relay.start ∧ s.since (s.chan ch).relay.start (64 * (s.chan ch).relay.goal)
  -- R147
  | .heldFrameReplay ch bits fall => s.live ch = true ∧ (s.chan ch).relay.phase = .hold ∧
      (s.chan ch).queue = [] ∧ (∀ x ∈ (s.chan ch).relay.slot, x.complete = true) ∧ bits = [] ∧ fall = 0
  | .replayComplete ch => s.live ch = true ∧ (s.chan ch).relay.phase = .replay ∧
      s.reaches (s.chan ch).relay.start ∧ s.since (s.chan ch).relay.start (64 * (s.chan ch).relay.goal)
  -- R146
  | .waitingFrameRelease ch => s.live ch = true ∧ (s.chan ch).relay.waiting = true ∧
      (s.chan ch).relay.slot = none ∧ (s.chan ch).relay.phase = .idle
  -- R148
  | .holdLimitExpiry ch => s.live ch = true ∧ (s.chan ch).relay.phase = .hold ∧ (s.chan ch).queue ≠ [] ∧
      ∃ t ∈ (s.chan ch).relay.holdStart, s.since t (64 * (s.chan ch).setup.holdLimit)
  -- R155
  | .waitingClearJoin ch => s.live ch = true ∧ (s.chan ch).recv.waitingClear.isSome = true ∧
      s.directives.length < 4
  -- R156, R157
  | .headContext => s.applies (kind 1) any
  | .releaseContext => s.applies (kind 2) any
  | .levelTable => s.applies (kind 3) any
  | .channelSetup => s.applies (kind 4) any
  | .globalSetup => s.applies (kind 5) any
  | .report => s.applies (kind 6) any
  | .clear => s.applies (kind 7) any
  | .channelReset => s.applies (kind 8) any
  | .forceLevel => s.applies (kind 9) fun ws => ws ≠ [0xFFFF#16]
  | .forceEnd => s.applies (kind 9) fun ws => ws = [0xFFFF#16]
  | .unknownKind => s.applies (fun k => k = 0 ∨ 9 < k) any
  -- R167
  | .deferredIncidentStore ch => (∃ d ∈ s.deferred, d.incident.ch = ch) ∧ s.incidents.length < 16
  -- R171
  | .reportFrameEnd => s.rstnLow = false ∧
      ∃ f ∈ s.sending, s.since f.start (f.bitTime * (15 + 10 * f.bytes.length))
  -- R2
  | .writeGateRise ch => s.live ch = true ∧ (s.chan ch).wg.recognised false
  | .writeGateFall ch => s.live ch = true ∧ (s.chan ch).wg.recognised true
  | .servoGateRise ch => s.live ch = true ∧ (s.chan ch).sg.recognised false
  | .servoGateFall ch => s.live ch = true ∧ (s.chan ch).sg.recognised true
  | .readGateRise ch => s.live ch = true ∧ (s.chan ch).rg.recognised false
  | .readGateFall ch => s.live ch = true ∧ (s.chan ch).rg.recognised true
  | .powerOn _ _ _ | .rstnLow | .resetRelease _ _ | .symbolIntake _ _ _ _ _ | .symbolRelease _
  | .lrdyRise _ | .lrdyFall _ | .pfiChange _ _ | .linkFrameStart _ | .linkHeaderTaken _ _ _
  | .linkFrameEnd _ _ | .directiveFrame _ _ => False

/-- From `s` to `t` F has been recomputed for the context of `t`, if the timer predicts: an F that is not after the
present tick opens the window, and nothing else of the timer changes (R96, R97). -/
def State.refences (s t : State) (ch : Ch) : Prop :=
  let w := (s.chan ch).wedge
  let f := fenceTickOf w.next w.margin (t.chan ch).context (s.chan ch).rate
  (t.chan ch).wedge =
    if w.lock.predicts = true then
      { w with fenceTick := f, fence := w.fence || decide (0 ≤ (s.now - f).toInt) }
    else w

/-- The tick at which the part begins its own downstream clocking, asked to begin `delay` ticks after `now`: then, or
once PLKSx has been high for 64 ticks behind a replay (R140). -/
def Relay.beginsAt (r : Relay) (now : Tick) (delay : Nat) : Tick :=
  if r.lastOwn.old = true ∨ 64 ≤ delay + (now - r.lastOwn.tick).toNat then now + BitVec.ofNat 32 delay
  else r.lastOwn.tick + 64

/-! ### Views for frames -/

/-- What stands in place of a sequencer in a view that leaves it out. -/
def blankSequencer : Sequencer := initialSequencer 0

/-- A channel without its laser sequencer. -/
def Channel.sansLaser (c : Channel) : Channel := { c with laser := blankSequencer }

/-- The state without its two laser sequencers and the arbiter's marks (the contest loser, a re-check that
is due): what a laser step, or a grant to the other channel, leaves as it was. -/
def State.sansLaser (s : State) : State :=
  { s with a := s.a.sansLaser, b := s.b.sansLaser, loser := none, recheckDue := false }

/-- The channel whose line, filter or timer a command is an event of (the table's per-channel rows). -/
def channelOf : Instr → Option Ch
  | .writeGateRise ch | .writeGateFall ch | .symbolIntake ch _ _ _ _ | .symbolRelease ch
  | .release ch | .tailExpiry ch | .promotion ch _ | .readyTimeout ch | .lrdyRise ch
  | .lrdyFall ch | .pfiChange ch _ | .rampStep ch | .rampComplete ch | .parkExpiry ch
  | .readGateRise ch | .readGateFall ch | .prgRise ch | .servoGateRise ch | .servoGateFall ch
  | .fenceTickReached ch | .acquisitionAbandon ch | .wedgeMissExpiry ch | .rateWindowComplete ch
  | .rateWindowAbandon ch | .linkFrameStart ch | .linkHeaderTaken ch _ _ | .catchUpComplete ch
  | .linkFrameEnd ch _ | .heldFrameReplay ch _ _ | .replayComplete ch | .waitingFrameRelease ch
  | .holdLimitExpiry ch | .directiveFrame ch _ | .waitingClearJoin ch => some ch
  | .powerOn _ _ _ | .rstnLow | .resetRelease _ _ | .stepGrant | .heatTick | .headContext
  | .releaseContext | .levelTable | .channelSetup | .globalSetup | .report | .clear
  | .deferredIncidentStore _ | .channelReset | .forceLevel | .forceEnd | .unknownKind
  | .reportFrameEnd => none

/-- The command is one of the three resets of the whole part. -/
def isReset : Instr → Bool
  | .powerOn _ _ _ | .rstnLow | .resetRelease _ _ => true
  | .writeGateRise _ | .writeGateFall _ | .symbolIntake _ _ _ _ _ | .symbolRelease _ | .release _
  | .tailExpiry _ | .promotion _ _ | .readyTimeout _ | .lrdyRise _ | .lrdyFall _ | .pfiChange _ _
  | .rampStep _ | .stepGrant | .rampComplete _ | .heatTick | .parkExpiry _ | .readGateRise _
  | .readGateFall _ | .prgRise _ | .servoGateRise _ | .servoGateFall _ | .fenceTickReached _
  | .acquisitionAbandon _ | .wedgeMissExpiry _ | .rateWindowComplete _ | .rateWindowAbandon _
  | .linkFrameStart _ | .linkHeaderTaken _ _ _ | .catchUpComplete _ | .linkFrameEnd _ _
  | .heldFrameReplay _ _ _ | .replayComplete _ | .waitingFrameRelease _ | .holdLimitExpiry _
  | .directiveFrame _ _ | .waitingClearJoin _ | .headContext | .releaseContext | .levelTable
  | .channelSetup | .globalSetup | .report | .clear | .deferredIncidentStore _ | .channelReset
  | .forceLevel | .forceEnd | .unknownKind | .reportFrameEnd => false

end Sys2Proof.Machine
end

