-- ==== Sys2Proof/WellFormed.lean ====
section
/-! DEFINITION. Well-formed commands: what a command's operands must be for the event it stands for to exist. -/

namespace Sys2Proof

open Sys2Proof.Machine (Hunt)

/-- The symbols, handed to a receiver in the phase given, end a frame with the last of them and not before
(R150 to R152). -/
def endsFrame (h : Hunt) : List Bool → Bool
  | [] => false
  | [b] => (h.take b).2 != .nothing
  | b :: c :: rest => (h.take b).2 == .nothing && endsFrame (h.take b).1 (c :: rest)

/-- The symbols of a DIRECTIVE_FRAME: a marker, a start symbol and the words up to the guard that ends the
frame, good or bad (R150 to R152). -/
def frameShaped (symbols : List Bool) : Bool := endsFrame (.hunting 0) symbols

/-- The commands whose operands fit the event they stand for. Every other operand is a line level, a lane of
a line, a channel or a head, and any value of it can occur. -/
def WellFormed : Instr → Bool
  | .directiveFrame _ symbols => frameShaped symbols
  | .heldFrameReplay _ bits _ => decide (bits.length ≤ 16)
  | .powerOn _ _ _ | .rstnLow | .resetRelease _ _ | .writeGateRise _ | .writeGateFall _
  | .symbolIntake _ _ _ _ _ | .symbolRelease _ | .release _ | .tailExpiry _ | .promotion _ _
  | .readyTimeout _ | .lrdyRise _ | .lrdyFall _ | .pfiChange _ _ | .rampStep _ | .stepGrant
  | .rampComplete _ | .heatTick | .parkExpiry _ | .readGateRise _ | .readGateFall _ | .prgRise _
  | .servoGateRise _ | .servoGateFall _ | .fenceTickReached _ | .acquisitionAbandon _
  | .wedgeMissExpiry _ | .rateWindowComplete _ | .rateWindowAbandon _ | .linkFrameStart _
  | .linkHeaderTaken _ _ _ | .catchUpComplete _ | .linkFrameEnd _ _ | .replayComplete _
  | .waitingFrameRelease _ | .holdLimitExpiry _ | .waitingClearJoin _ | .headContext
  | .releaseContext | .levelTable | .channelSetup | .globalSetup | .report | .clear
  | .deferredIncidentStore _ | .channelReset | .forceLevel | .forceEnd | .unknownKind
  | .reportFrameEnd => true

end Sys2Proof
end

