-- ==== Sys2Proof/Certificates/Slice0/Obligations.lean ====
section
/-! DEFINITION. The statements for the provers: what each command does, the frames, the encodings and the device's laws. -/

open Sys2Proof Sys2Proof.Machine

/-! ### The machine -/

/-- A command at the front of the queue is executed on the state with the queue's rest: the machine's own
statement of the queue (log entry 2). -/
def Obligations.StepTakesTheFrontCommand : Prop :=
  ∀ (c : Instr) (rest : List Instr) (s : State),
    step { s with pending := c :: rest } = exec c { s with pending := rest }

/-- With no command waiting, the first of the part's own steps that is due is taken; when none is due one
tick passes and nothing else happens: the kept ticks of long standing are marked once they are 2^31 ticks old, the
bits that the relay clocks downstream are counted at their rising edges, and the model's marks of the tick are
cleared. A step is due exactly when State.isDue says so, and one of the part's own that is not due, commanded all the
same, changes nothing (R17, R19, R28, R45, R51, R65, R97, R115, R140, R156; log entries 1, 2, 25). Its conditions are
those of the rules but for the model's choices: PRG_RISE is not due while a record is RELEASING (log entry 10),
HELD_FRAME_REPLAY is due by itself only for a frame that has arrived (log entry 11), PARK_EXPIRY by the comparison
kept from the heat tick (log entry 16), CATCH_UP_COMPLETE and REPLAY_COMPLETE at the end of the last bit's high half
(log entry 19), and RELEASE by the LRDYx that write ready reads (log entry 29). -/
def Obligations.StepWithNoCommandWaiting : Prop :=
  (∀ (s : State) (c : Instr), (c ∈ s.dueSteps ↔ s.isDue c) ∧
    (isOwnStep c = true → ¬ s.isDue c → exec c s = .next s)) ∧
  (∀ s : State, s.pending = [] →
    (∀ c, s.firstDue = some c → step s = exec c s) ∧
    (s.firstDue = none →
      let now := s.now + 1
      let aged (b : Stamp) : Stamp := { b with old := b.old || decide (2 ^ 31 ≤ (now - b.tick).toNat) }
      let motion (m : Motion) : Motion :=
        match m with
        | .settled since hold => .settled (aged since) hold
        | .ramp last dwell want held => .ramp (aged last) dwell want held
      let clocked (r : Relay) : Nat :=
        if r.phase = .catchUp ∨ r.phase = .replay then
          if 0 ≤ (now - r.start).toInt then min r.goal (((now - r.start).toNat + 32) / 64) else 0
        else r.given
      let later (c : Channel) : Channel :=
        { c with
          pwgFall := aged c.pwgFall
          laser := { c.laser with parkDue := false, motion := motion c.laser.motion }
          relay := { c.relay with given := clocked c.relay, lastOwn := aged c.relay.lastOwn } }
      step s = .next
        { s with
          now := now, heatTaken := false, a := later s.a, b := later s.b
          deferred := s.deferred.map fun d => { d with fresh := false } }))

/-- Every command answers a next state and leaves the command queue, and no command but a reset moves the
tick count, RSTN or the sampled straps (R14, R17). -/
def Obligations.ExecKeepsQueueClockAndStraps : Prop :=
  ∀ (c : Instr) (s : State), ∃ t, exec c s = .next t ∧ t.pending = s.pending ∧
    (isReset c = false → t.now = s.now ∧ t.rstnLow = s.rstnLow ∧ t.straps = s.straps)

/-- A command of one channel leaves the other channel as it was, but for one laser step of it that was waiting
for headroom and is taken whole (R66, R107), and leaves the level table, the global setup and the report frame
alone. -/
def Obligations.ChannelIsolation : Prop :=
  ∀ (c : Instr) (ch : Ch) (s t : State), channelOf c = some ch → exec c s = .next t →
    (t.chan (otherCh ch) = s.chan (otherCh ch) ∨
      ∃ b, (s.chan (otherCh ch)).laser.want = some b ∧
        t.chan (otherCh ch) =
          { s.chan (otherCh ch) with laser :=
            { (s.chan (otherCh ch)).laser with
              code := b, ready := none
              motion := .ramp { tick := s.now, old := false } (s.chan (otherCh ch)).rampParams.dwell none
                false } }) ∧
    t.levels = s.levels ∧ t.ceiling = s.ceiling ∧ t.reportDiv = s.reportDiv ∧
    t.selectReg = s.selectReg ∧ t.sending = s.sending ∧ t.reportSeq = s.reportSeq ∧
    t.reportPending = s.reportPending

/-- While RSTN is low, and in an absent channel B at any time, a channel's commands change nothing of the part
but the level of an input line (R10, R15). -/
def Obligations.DeadChannelIsInert : Prop :=
  ∀ (c : Instr) (ch : Ch) (s : State), channelOf c = some ch → s.live ch = false →
    ∃ t, exec c s = .next t ∧
      t = s.onChan ch fun x =>
        { x with lrdy := (t.chan ch).lrdy, pfi := (t.chan ch).pfi, lks := (t.chan ch).lks }

/-! ### Resets -/

/-- POWER_ON with RSTN low sets every block to its power-on state, the tick count and the accumulators to 0;
with RSTN high it is itself a reset release at that tick. RSTN_LOW resets every block, keeps the accumulators
and the tick count, releases or holds low the output lines, and joins the two ends of each link line: a line is
high when neither the controller nor the preamplifier holds it low (R14, R15, R17, R115, R124, R140, R149, R173).
The levels of the input lines stay the board's (log entry 5), the straps their last sampled value and the
head-select register number 0 until a release (log entry 4), and C, W and F are dated at this tick until then (log
entry 31). -/
def Obligations.ResetStates : Prop :=
  (∀ (s : State) (lcA lcB : BitVec 6), ∃ t, exec (.powerOn false lcA lcB) s = .next t ∧
    t = { State.reset with
      pending := s.pending, straps := s.straps, freeCount := s.freeCount
      a := initialChannel 0 .wire s.a.lrdy s.a.pfi s.a.lks (List.replicate 8 0)
      b := initialChannel 0 .wire s.b.lrdy s.b.pfi s.b.lks (List.replicate 8 0) } ∧
    exec (.powerOn true lcA lcB) s = exec (.resetRelease lcA lcB) t) ∧
  (∀ s : State, s.rstnLow = false → ∃ t, exec .rstnLow s = .next t ∧
    t = { State.reset with
      pending := s.pending, now := s.now, heatTaken := s.heatTaken, straps := s.straps
      freeCount := s.freeCount
      a := initialChannel s.now .wire s.a.lrdy s.a.pfi s.a.lks (s.a.heads.map fun h => h.accum)
      b := initialChannel s.now .wire s.b.lrdy s.b.pfi s.b.lks (s.b.heads.map fun h => h.accum) } ∧
    t.rpt = .released ∧
    ∀ ch, t.lc ch = none ∧ t.len ch = false ∧ t.wfo ch = .released ∧
      t.plks ch = (s.chan ch).lks ∧
      ∀ up down, t.lkcLevel ch up down = (up && down) ∧ t.plkcLevel ch up down = (up && down) ∧
        t.lkdLevel ch up down = (up && down) ∧ t.plkdLevel ch up down = (up && down))

/-- RESET_RELEASE samples the straps and starts every block at this tick: code 0, LENx high in a present
channel, WFOx by PFIx alone, the relay idle unless a frame is under way (R14, R15, R85, R102, R149). -/
def Obligations.ResetReleaseState : Prop :=
  ∀ (s : State) (lcA lcB : BitVec 6), s.rstnLow = true →
    ∃ t, exec (.resetRelease lcA lcB) s = .next t ∧
    t = { State.reset with
      pending := s.pending, now := s.now, heatTaken := s.heatTaken, freeCount := s.freeCount
      rstnLow := false, selectReg := lcA.setWidth 7
      straps :=
        { register := lcA, twoChannels := lcB.getLsbD 0, bench := lcB.getLsbD 1
          faultLow := lcB.getLsbD 2 }
      a := initialChannel s.now (if s.a.lks then .idle else .wire) s.a.lrdy s.a.pfi s.a.lks
        (s.a.heads.map fun h => h.accum)
      b := initialChannel s.now (if !lcB.getLsbD 0 || s.b.lks then .idle else .wire) s.b.lrdy s.b.pfi
        s.b.lks (s.b.heads.map fun h => h.accum) } ∧
    t.rpt = .driven true ∧ t.len .A = true ∧ t.len .B = lcB.getLsbD 0 ∧
    t.wfo .A = .driven (s.a.pfi != lcB.getLsbD 2) ∧
    t.wfo .B = .driven ((lcB.getLsbD 0 && s.b.pfi) != lcB.getLsbD 2) ∧
    (∀ wck, t.pwck .B wck = (lcB.getLsbD 0 && wck)) ∧
    ∀ ch, t.lc ch = some 0 ∧ t.seqState ch = .parked

/-! ### Admission and the gates -/

/-- A rise that fails a check of R39 is refused with the reason of the first that fails: it takes its number,
its interval is discarded, REFUSED is raised, and nothing else changes. -/
def Obligations.RefusedRise : Prop :=
  ∀ (s : State) (ch : Ch) (r : Reason) (ones : Nat), s.live ch = true →
    (s.chan ch).wg.level = false → (s.chan ch).recv.hunt = .hunting ones →
    s.storeQuiet ch = true → (s.chan ch).bandsPresent → s.firstFailing ch = some r →
    exec (.writeGateRise ch) s = .next
      ((s.onChan ch fun c =>
        { c with
          wg := { level := true, run := 0 }, nextSeq := c.nextSeq + 1, intake := .discarding
          recv := { c.recv with hunt := .hunting 0 } }).post
        { kind := .refused, ch := ch, head := (s.chan ch).relay.selected
          burst := some (s.chan ch).nextSeq
          detail := match r with
            | .lockout => 1
            | .servoActive => 2
            | .fenced => 3
            | .gateConflict => 4
            | .headPending => 5
            | .noContext => 6
            | .noRate => 7
            | .thermalHold => 8
            | .overCeiling => 9
            | .queueFull => 10 })

/-- A rise that fails no check of R39 is admitted with the band of the present P, and its record joins the queue:
as head record of an empty queue, cold if the code is 0; behind a head record; or behind a record in TAIL,
which retires, so that the oldest record left becomes the head record with bridged set. At the tick it becomes the head
record the ramp to its write code begins, or, with the code settled there in READY mode, the ready timer (R35, R38,
R41, R44, R64 to R66, R72, R74; log entry 30). -/
def Obligations.AdmittedRise : Prop :=
  ∀ (s : State) (ch : Ch) (ones : Nat) (h : HeadNo) (x : Context) (i : Nat) (b : Band),
    s.live ch = true → (s.chan ch).wg.level = false → (s.chan ch).recv.hunt = .hunting ones →
    s.storeQuiet ch = true → (s.chan ch).bandsPresent → s.firstFailing ch = none →
    (s.chan ch).relay.selected = some h → (s.chan ch).contextOf h = some x →
    x.band (s.chan ch).rate.p = some (i, b) →
    let r := recordOf (s.chan ch).nextSeq h x i b
    let asHead (q : Rec) (cold bridged : Bool) (lead : Nat) : Rec :=
      { q with
        state := .preparing, cold := cold, bridged := bridged
        leadTicks := q.leadTicks + (if cold then lead else 0) }
    let cold := (s.chan ch).laser.code == 0
    let joined (line : List Symbol) (queue : List Rec) :=
      (s.onChan ch fun c =>
        { c with
          wg := { level := true, run := 0 }, nextSeq := c.nextSeq + 1, intake := .storing
          recv := { c.recv with hunt := .hunting 0 }, line := line, queue := queue }).sansLaser
    ∃ t, exec (.writeGateRise ch) s = .next t ∧
      ((s.chan ch).queue = [] →
        t.sansLaser = joined (s.chan ch).line [asHead r cold false x.coldLead] ∧
        (t.chan ch).laser.park = false ∧ s.headChanges t ch ∧
        ((s.chan ch).laser.force = none → (t.chan ch).laser.target = b.code)) ∧
      (∀ q rest, (s.chan ch).queue = q :: rest → q.state ≠ .tail →
        t.sansLaser = joined (s.chan ch).line ((s.chan ch).queue ++ [r]) ∧
        (t.chan ch).laser = (s.chan ch).laser) ∧
      (∀ q next rest, (s.chan ch).queue = q :: rest → q.state = .tail → q.inputOpen = false →
        rest ++ [r] = next :: (rest ++ [r]).tail →
        t.sansLaser = joined ((s.chan ch).line.drop q.run)
          (asHead next cold true ((s.chan ch).coldLeadOf next) :: (rest ++ [r]).tail) ∧
        (t.chan ch).laser.park = false ∧ s.headChanges t ch)

/-- A rise recognised while a frame is in assembly is answered exactly as it is without the frame, beside one
DIRECTIVE_CUT with the number the rise took and the count of whole words. The incident reaches the queue before
what the answer sends there, or after it, by a free choice (R153, R166; log entry 7). -/
def Obligations.RiseCutsAFrame : Prop :=
  ∀ (s : State) (ch : Ch) (a : Assembly), s.live ch = true →
    (s.chan ch).wg.level = false → (s.chan ch).recv.hunt = .assembling a → s.storeQuiet ch = true →
    let bare :=
      { (s.onChan ch fun c => { c with recv := { c.recv with hunt := .hunting 0 } }) with
        freeCount := s.freeCount + 1 }
    let cut : Incident :=
      { kind := .directiveCut, ch := ch, head := none, burst := some (s.chan ch).nextSeq
        detail := min 65535 a.words.length }
    exec (.writeGateRise ch) s = exec (.writeGateRise ch) (bare.post cut) ∨
      ∃ u, exec (.writeGateRise ch) bare = .next u ∧ exec (.writeGateRise ch) s = .next (u.post cut)

/-- The edges of the gates that end or shut out nothing: WRITE_GATE_FALL closes the input of every record and puts
the intake in GAP; a read-gate rise clears the park condition, a read-gate fall brings PRGx down; a servo-gate
fall closes the window unless F is not after the present tick of a timer that predicts. Beside the lasers,
whose target becomes that of the first case of R62, they change nothing else: the read code while the gate is high
or the window open, and 0 or the bias code behind them, where no lockout, force or record outranks it. The code meets
a new target at that tick: a step that is due is taken or waits for its grant, a ramp turns, and a code that stands
at the target stays. PRG_RISE raises PRGx when filtered RGx is high, PWGx is low and the dead time has passed since
the last PWGx fall, and not while a RELEASING record is about to raise PWGx (R5, R7, R42, R62, R64 to R67, R75, R77,
R86, R98; log entries 10, 30). -/
def Obligations.GateEdges : Prop :=
  let idle (s : State) (ch : Ch) (x : Context) : Prop := s.lockedOut ch = false ∧
    (s.chan ch).laser.force = none ∧ (s.chan ch).queue = [] ∧ (s.chan ch).context = some x
  (∀ (s : State) (ch : Ch), s.live ch = true → (s.chan ch).wg.level = true →
    exec (.writeGateFall ch) s = .next (s.onChan ch fun c =>
      { c with
        wg := { level := false, run := 0 }, intake := .gap
        queue := c.queue.map fun r => { r with inputOpen := false } })) ∧
  (∀ (s : State) (ch : Ch), s.live ch = true → (s.chan ch).rg.level = false →
    ∃ t, exec (.readGateRise ch) s = .next t ∧
      t.sansLaser = (s.onChan ch fun c => { c with rg := { level := true, run := 0 } }).sansLaser ∧
      (t.chan ch).laser.park = false ∧ (t.chan ch).laser.target = t.firstTarget ch ∧
      (s.recheckDue = false → s.meetsTarget t ch) ∧
      ∀ x, idle s ch x → (t.chan ch).laser.target = x.read) ∧
  (∀ (s : State) (ch : Ch), s.live ch = true → (s.chan ch).rg.level = true →
    ∃ t, exec (.readGateFall ch) s = .next t ∧
      t.sansLaser =
        (s.onChan ch fun c => { c with rg := { level := false, run := 0 }, prg := false }).sansLaser ∧
      (t.chan ch).laser.park = (s.chan ch).laser.park ∧ (t.chan ch).laser.target = t.firstTarget ch ∧
      (s.recheckDue = false → s.meetsTarget t ch) ∧
      ∀ x, idle s ch x → (t.chan ch).laser.target =
        if (s.chan ch).wedge.fence = true then x.read
        else if (s.chan ch).laser.park = true then 0 else x.bias) ∧
  (∀ (s : State) (ch : Ch), s.live ch = true → (s.chan ch).sg.level = true →
    ∃ t, exec (.servoGateFall ch) s = .next t ∧
      t.sansLaser = (s.onChan ch fun c =>
        { c with
          sg := { level := false, run := 0 }
          wedge := { c.wedge with
            fence := c.wedge.fence && s.fencePassed ch c.wedge.fenceTick } }).sansLaser ∧
      ((s.chan ch).wedge.fence = true → (t.chan ch).wedge.fence = false →
        (t.chan ch).laser.target = t.firstTarget ch ∧
        (s.recheckDue = false → s.meetsTarget t ch) ∧
        ∀ x, idle s ch x → (t.chan ch).laser.target =
          if (s.chan ch).rg.level = true then x.read
          else if (s.chan ch).laser.park = true then 0 else x.bias)) ∧
  (∀ (s : State) (ch : Ch), s.live ch = true → (s.chan ch).prg = false →
    exec (.prgRise ch) s = .next
      (if (s.chan ch).rg.level = true ∧ (s.chan ch).pwg = false ∧ (s.chan ch).isReleasing = false ∧
          (s.chan ch).pwgFall.elapsed s.now (s.chan ch).setup.deadTime = true then
        s.onChan ch fun c => { c with prg := true }
      else s))

/-- A capture copies the wedge fields and acts by the lock state: it starts, advances, fails or completes an
acquisition, tracks the period, or loses lock; the window is open from the rise on, and F is recomputed with
the new W. With no record to end or cut, the one incident is the WEDGE_LOST of a loss of lock, its detail the
interval (R86 to R91, R95 to R97). -/
def Obligations.Capture : Prop :=
  ∀ (s : State) (ch : Ch), s.live ch = true → (s.chan ch).sg.level = false →
    (s.chan ch).selectedPending = none →
    let w := (s.chan ch).wedge
    let x := (s.chan ch).setup
    let i := (s.now - w.last).toInt
    let bring (e : Int) : Nat := (max 1000 (min e 1048575)).toNat
    let near (p : Nat) : Prop := (i - p).natAbs ≤ x.tolerance
    ∃ t, exec (.servoGateRise ch) s = .next t ∧ (t.chan ch).sg.level = true ∧
      let v := (t.chan ch).wedge
      ((s.chan ch).queue = [] → t.incidents =
        if w.lock.predicts = true ∧ ¬ near w.estimate then
          (s.post
            { kind := .wedgeLost, ch := ch, head := (s.chan ch).relay.selected, burst := none
              detail := min 65535 i.toNat }).incidents
        else s.incidents) ∧
      v.nominal = x.nominal ∧ v.tolerance = x.tolerance ∧ v.margin = x.margin ∧
      v.last = s.now ∧ v.fence = true ∧
      (w.lock = .unlocked → v.lock = .acquiring ∧ v.good = 0 ∧
        v.estimate = w.estimate ∧ v.next = w.next ∧ v.fenceTick = w.fenceTick) ∧
      (w.lock = .acquiring → near x.nominal → w.good = 0 →
        v.lock = .acquiring ∧ v.good = 1 ∧ v.first = some i) ∧
      (∀ j, w.lock = .acquiring → near x.nominal → w.good ≠ 0 → w.first = some j →
        v.lock = .locked ∧ v.good = 2 ∧ v.miss = 0 ∧ v.estimate = bring ((j + i) / 2) ∧
        v.next = s.now + BitVec.ofNat 32 v.estimate ∧
        v.fenceTick = fenceTickOf v.next x.margin (t.chan ch).context (t.chan ch).rate) ∧
      (w.lock = .acquiring → ¬ near x.nominal → v.lock = .acquiring ∧ v.good = 0 ∧ v.first = none) ∧
      (w.lock.predicts = true → near w.estimate →
        v.lock = .locked ∧ v.miss = 0 ∧ v.estimate = bring ((3 * w.estimate + i) / 4) ∧
        v.next = s.now + BitVec.ofNat 32 v.estimate ∧
        v.fenceTick = fenceTickOf v.next x.margin (t.chan ch).context (t.chan ch).rate) ∧
      (w.lock.predicts = true → ¬ near w.estimate →
        v.lock = .acquiring ∧ v.good = 0 ∧ v.miss = 0 ∧
        v.estimate = w.estimate ∧ v.next = w.next ∧ v.fenceTick = w.fenceTick)

/-- A servo-gate rise ends a release: PWGx falls and PWDx returns to 0 at that tick, the record and every
record queued behind it leave with their symbols, and ENCROACHMENT precedes their FENCE_CUTs; a window that is open
already cuts nothing more. A rise that finds the head record in PREPARING or in TAIL, with the window closed, opens
it: a PREPARING record is cut with every record behind it, a record in TAIL stays and the records behind it are cut,
PWGx falls at that tick, the park condition is clear and the target that of the open window. When the same rise loses
lock, the WEDGE_LOST reaches the queue before all of these or after them, by a free choice (R53, R54, R77, R80, R91,
R97, R166; log entry 7). -/
def Obligations.Encroachment : Prop :=
  (∀ (s : State) (ch : Ch) (r : Rec) (rest : List Rec), s.live ch = true →
    (s.chan ch).sg.level = false → ((s.chan ch).wedge.fence = true → rest = []) →
    (s.chan ch).selectedPending = none →
    (s.chan ch).queue = r :: rest → r.state = .releasing → (∀ q ∈ rest, q.state = .queued) →
    (s.chan ch).LineOk →
    let w := (s.chan ch).wedge
    let i := (s.now - w.last).toInt
    let loses : Prop := w.lock.predicts = true ∧ (s.chan ch).setup.tolerance < (i - w.estimate).natAbs
    let lost : Incident :=
      { kind := .wedgeLost, ch := ch, head := (s.chan ch).relay.selected, burst := none
        detail := min 65535 i.toNat }
    let ended : List Incident :=
      { kind := .encroachment, ch := ch, head := some r.head, burst := some r.seq
        detail := min 65535 r.symOut } ::
      rest.map fun q =>
        { kind := .fenceCut, ch := ch, head := some q.head, burst := some q.seq, detail := 0 }
    ∃ t, exec (.servoGateRise ch) s = .next t ∧ (t.chan ch).pwg = false ∧
      (t.chan ch).pwd = false ∧ (t.chan ch).queue = [] ∧ (t.chan ch).line = [] ∧
      (t.chan ch).wedge.fence = true ∧
      ((∃ q ∈ r :: rest, q.inputOpen = true) → (t.chan ch).intake ≠ .storing) ∧
      ((s.chan ch).pwg = true → (t.chan ch).pwgFall = { tick := s.now, old := false }) ∧
      (t.chan ch).heads = (s.chan ch).heads ∧
      (¬ loses → t.incidents = (s.postAll ended).incidents) ∧
      (loses → t.incidents = (s.postAll (lost :: ended)).incidents ∨
        t.incidents = (s.postAll (ended ++ [lost])).incidents)) ∧
  (∀ (s : State) (ch : Ch) (r : Rec) (rest : List Rec), s.live ch = true →
    (s.chan ch).sg.level = false → (s.chan ch).wedge.fence = false →
    (s.chan ch).selectedPending = none → (s.chan ch).queue = r :: rest →
    r.state = .preparing ∨ r.state = .tail → (∀ q ∈ rest, q.state = .queued) → (s.chan ch).LineOk →
    let w := (s.chan ch).wedge
    let i := (s.now - w.last).toInt
    let loses : Prop := w.lock.predicts = true ∧ (s.chan ch).setup.tolerance < (i - w.estimate).natAbs
    let lost : Incident :=
      { kind := .wedgeLost, ch := ch, head := (s.chan ch).relay.selected, burst := none
        detail := min 65535 i.toNat }
    let cut := if r.state = .tail then rest else r :: rest
    let ended : List Incident := cut.map fun q =>
      { kind := .fenceCut, ch := ch, head := some q.head, burst := some q.seq, detail := 0 }
    ∃ t, exec (.servoGateRise ch) s = .next t ∧ (t.chan ch).sg.level = true ∧
      (t.chan ch).wedge.fence = true ∧ (t.chan ch).pwg = false ∧ (t.chan ch).pwgFallDue = false ∧
      (t.chan ch).queue = (if r.state = .tail then [r] else []) ∧ (t.chan ch).LineOk ∧
      (t.chan ch).laser.park = false ∧ (t.chan ch).laser.target = t.firstTarget ch ∧
      ((∃ q ∈ cut, q.inputOpen = true) → (t.chan ch).intake ≠ .storing) ∧
      ((s.chan ch).pwg = true → (t.chan ch).pwgFall = { tick := s.now, old := false }) ∧
      (t.chan ch).heads = (s.chan ch).heads ∧
      (¬ loses → t.incidents = (s.postAll ended).incidents) ∧
      (loses → t.incidents = (s.postAll (lost :: ended)).incidents ∨
        t.incidents = (s.postAll (ended ++ [lost])).incidents))

/-! ### The preamplifier's inputs -/

/-- LRDY_RISE, PFI_CHANGE, and an LRDY_FALL that is no loss of the laser, change the input's level alone. WFOx of a
present channel is asserted while PFIx is high, while a stored incident of the channel has a class above its fault
mask, and while a class-3 incident of it is stored or deferred, and at no other time; it is driven high when asserted
with the polarity strap 0, low with it 1, and released while RSTN is low (R9, R10, R15, R71, R165, R168). That the
input levels are followed while RSTN is low and in an absent channel B too is the model's choice (log entry 5). -/
def Obligations.PreamplifierInputs : Prop :=
  ∀ (s : State) (ch : Ch),
    exec (.lrdyRise ch) s = .next (s.onChan ch fun c => { c with lrdy := true }) ∧
    (∀ level, exec (.pfiChange ch level) s = .next (s.onChan ch fun c => { c with pfi := level })) ∧
    (let severity (k : Kind) : Nat :=
        if k ∈ [.thermalTrip, .laserLost] then 3
        else if k ∈ [.refused, .fenceCut, .truncated, .encroachment, .delayOverflow, .readyTimeout,
          .headSwitchForced] then 2
        else 1
      let asserted : Prop := s.present ch = true ∧
        ((s.chan ch).pfi = true ∨
          (∃ x ∈ s.incidents, x.incident.ch = ch ∧ (s.chan ch).setup.faultMask < severity x.incident.kind) ∨
          (∃ x ∈ s.incidents, x.incident.ch = ch ∧ severity x.incident.kind = 3) ∨
          ∃ d ∈ s.deferred, d.incident.ch = ch ∧ severity d.incident.kind = 3)
      (s.rstnLow = true → s.wfo ch = .released) ∧
        (s.rstnLow = false → asserted → s.wfo ch = .driven (!s.straps.faultLow)) ∧
        (s.rstnLow = false → ¬ asserted → s.wfo ch = .driven s.straps.faultLow)) ∧
    ((∀ r, (s.chan ch).headRec = some r → r.state ≠ .releasing ∨ (s.chan ch).readyMode r = false) →
      exec (.lrdyFall ch) s = .next (s.onChan ch fun c => { c with lrdy := false }))

/-- A fall of LRDYx while the head record is RELEASING in READY lead mode locks the channel out: LASER_LOST,
then one REFUSED for each record, oldest first; code 0 by a direct set, LENx and PWGx low, no record and no symbol
left (R56, R69, R73, R81, R169; log entry 15). -/
def Obligations.LaserLost : Prop :=
  ∀ (s : State) (ch : Ch) (r : Rec) (rest : List Rec), s.live ch = true →
    (s.chan ch).lrdy = true → (s.chan ch).queue = r :: rest → r.state = .releasing →
    (s.chan ch).readyMode r = true → s.lockedOut ch = false → s.DeferredOk →
    ∃ t, exec (.lrdyFall ch) s = .next t ∧ t.lockedOut ch = true ∧ t.len ch = false ∧
      t.heldAtZero ch ∧ (t.chan ch).laser.target = 0 ∧ (t.chan ch).queue = [] ∧
      (t.chan ch).line = [] ∧ (t.chan ch).pwg = false ∧ (t.chan ch).pwd = false ∧
      t.incidents = (s.postAll
        ({ kind := .laserLost, ch := ch, head := some r.head, burst := some r.seq
           detail := min 65535 r.symOut } ::
          (r :: rest).map fun q =>
            { kind := .refused, ch := ch, head := some q.head, burst := some q.seq, detail := 1 })).incidents

/-! ### The write clock -/

/-- The release side of an edge: without a record that may send, PWDx is 0 and PWGx holds; else the oldest
symbol of the head record's run leaves on PWDx with PWGx high, and is counted; and at the edge after a last
symbol PWGx falls, PWDx is back at 0 and the fall is dated now. A record may send only while the code equals its write
code and has been held for its lead, and in READY mode LRDYx is high. A release that is due at the edge at which PWGx
falls is taken at that edge: the record is RELEASING, or cut for want of an allowance, and its first symbol leaves at
the edge after (R6, R11, R32, R33, R45 to R50, R70). The edge at which a release due with the fall is taken is the
model's choice (log entry 14), as are the LRDYx that write ready reads (log entry 29) and, where the code of a record
cut for want of an allowance moves next, the at-write-since while a first step waits for its grant (log entry 30). -/
def Obligations.SymbolRelease : Prop :=
  (∀ (s : State) (ch : Ch), s.live ch = true → (s.chan ch).releaseTaken = false →
    s.edgesQuiet ch = true → (s.chan ch).pwgFallDue = false →
    ((∀ r, (s.chan ch).headRec = some r →
        r.state ≠ .releasing ∨ r.run = 0 ∨ ¬ s.mayWrite ch r) →
      exec (.symbolRelease ch) s
        = .next (s.onChan ch fun c => { c with releaseTaken := true, pwd := false })) ∧
    ∀ r rest x line, (s.chan ch).queue = r :: rest → (s.chan ch).line = x :: line →
      r.state = .releasing → 1 ≤ r.run → s.mayWrite ch r →
      (2 ≤ r.run ∨ r.inputOpen = true) → r.allowance ≠ some (min 1048575 (r.symOut + 1)) →
      exec (.symbolRelease ch) s = .next (s.onChan ch fun c =>
        { c with
          releaseTaken := true, pwd := x.value, pwg := true, line := line
          queue := { r with symOut := min 1048575 (r.symOut + 1), run := r.run - 1 } :: rest })) ∧
  (∀ (s : State) (ch : Ch), s.live ch = true → (s.chan ch).releaseTaken = false →
    s.edgesQuiet ch = true → (s.chan ch).pwgFallDue = true → ¬ s.isDue (.release ch) →
    exec (.symbolRelease ch) s = .next (s.onChan ch fun c =>
      { c with
        releaseTaken := true, pwd := false, pwg := false, pwgFallDue := false
        pwgFall := if c.pwg then { tick := s.now, old := false } else c.pwgFall })) ∧
  (∀ (s : State) (ch : Ch) (r : Rec) (rest : List Rec), s.live ch = true →
    (s.chan ch).releaseTaken = false → s.edgesQuiet ch = true → (s.chan ch).pwgFallDue = true →
    s.isDue (.release ch) → (s.chan ch).queue = r :: rest →
    let ahead := ((s.chan ch).wedge.fenceTick - s.now).toInt
    let n := if (s.chan ch).wedge.lock.predicts = true then
        if ahead ≤ 0 then 0 else min 1048575 (ahead.toNat * 1024 / (s.chan ch).rate.p)
      else 1048575
    let fall : Stamp :=
      if (s.chan ch).pwg = true then { tick := s.now, old := false } else (s.chan ch).pwgFall
    (n ≠ 0 → exec (.symbolRelease ch) s = .next (s.onChan ch fun c =>
      { c with
        releaseTaken := true, pwd := false, pwg := false, pwgFallDue := false, pwgFall := fall
        queue := { r with state := .releasing, allowance := some n } :: rest
        laser := { c.laser with ready := none } })) ∧
    (n = 0 → (s.chan ch).selectedPending = none →
      ∃ t, exec (.symbolRelease ch) s = .next t ∧ (t.chan ch).releaseTaken = true ∧
        (t.chan ch).pwd = false ∧ (t.chan ch).pwg = false ∧ (t.chan ch).pwgFallDue = false ∧
        (t.chan ch).pwgFall = fall ∧ (t.chan ch).line = (s.chan ch).line.drop r.run ∧
        (t.chan ch).queue.length = rest.length ∧ (t.chan ch).queue.tail = rest.tail ∧
        s.headChanges t ch ∧
        t.incidents = (s.post
          { kind := .fenceCut, ch := ch, head := some r.head, burst := some r.seq, detail := 0 }).incidents))

/-- The last symbol of a record whose input is closed leaves: the record enters TAIL when it is alone; else it retires
without tail and the next becomes the head record with bridged set, the ramp to its write code beginning at that tick,
or the ready timer if the code is settled there in READY mode; PWGx is to fall at the next edge either way. The symbol
that reaches the allowance with symbols left or the input open truncates the record: its run is discarded and counted,
TRUNCATED carries sym_out, and the record enters TAIL (R44, R48 to R50, R64 to R66, R72, R74; log entries 29, 30). -/
def Obligations.LastSymbols : Prop :=
  (∀ (s : State) (ch : Ch) (r : Rec) (rest : List Rec) (x : Symbol) (line : List Symbol),
    s.live ch = true → (s.chan ch).releaseTaken = false → s.edgesQuiet ch = true →
    (s.chan ch).pwgFallDue = false → (s.chan ch).queue = r :: rest → (s.chan ch).line = x :: line →
    r.state = .releasing → r.run = 1 → r.inputOpen = false → s.mayWrite ch r →
    let sent := { r with symOut := min 1048575 (r.symOut + 1), run := 0 }
    let edge (queue : List Rec) (c : Channel) : Channel :=
      { c with
        releaseTaken := true, pwd := x.value, pwg := true, pwgFallDue := true, line := line
        queue := queue }
    (rest = [] →
      exec (.symbolRelease ch) s
        = .next (s.onChan ch (edge [{ sent with state := .tail, tailFrom := s.now }]))) ∧
    ∀ q more, rest = q :: more → ∃ t, exec (.symbolRelease ch) s = .next t ∧
      t.sansLaser = (s.onChan ch (edge
        ({ q with
            state := .preparing, bridged := true, cold := (s.chan ch).laser.code == 0
            leadTicks := q.leadTicks +
              (if (s.chan ch).laser.code == 0 then (s.chan ch).coldLeadOf q else 0) } :: more))).sansLaser ∧
      s.headChanges t ch) ∧
  (∀ (s : State) (ch : Ch) (r : Rec) (rest : List Rec) (x : Symbol) (line : List Symbol),
    s.live ch = true → (s.chan ch).releaseTaken = false → s.edgesQuiet ch = true →
    (s.chan ch).pwgFallDue = false → (s.chan ch).queue = r :: rest → (s.chan ch).line = x :: line →
    r.state = .releasing → 1 ≤ r.run → s.mayWrite ch r →
    (2 ≤ r.run ∨ r.inputOpen = true) → r.allowance = some (min 1048575 (r.symOut + 1)) →
    let out := min 1048575 (r.symOut + 1)
    exec (.symbolRelease ch) s = .next
      ((s.onChan ch fun c =>
        { c with
          releaseTaken := true, pwd := x.value, pwg := true, pwgFallDue := true
          line := line.drop (r.run - 1)
          intake := if r.inputOpen = true ∧ c.intake = .storing then .discarding else c.intake
          queue :=
            { r with
              symOut := out, symDropped := min 1048575 (r.symDropped + (r.run - 1)), run := 0
              truncated := true, state := .tail, tailFrom := s.now } :: rest }).post
        { kind := .truncated, ch := ch, head := some r.head, burst := some r.seq
          detail := min 65535 out }))

/-- The intake side of an edge, its release side taken: the oldest of three held symbols is handed to the
receiver, stored for the open record, or dropped and counted; with fewer than three symbols held none leaves. Each
gate's filter counts samples that disagree with its level in a row, and at the third its edge is recognised and the
command of that edge is due. The rate meter opens a window at the edge, or counts it in the window it has open. A
SYMBOL_INTAKE that finds the release side not yet taken takes it first, as SYMBOL_RELEASE would (R2, R4, R11, R20,
R42; log entry 12). -/
def Obligations.SymbolIntake : Prop :=
  (∀ (s : State) (ch : Ch) (wd wg sg rg : Bool), s.live ch = true →
    (s.chan ch).releaseTaken = false → s.edgesQuiet ch = true →
    ∃ t, exec (.symbolRelease ch) s = .next t ∧ (t.chan ch).releaseTaken = true ∧
      exec (.symbolIntake ch wd wg sg rg) s = exec (.symbolIntake ch wd wg sg rg) t) ∧
  (∀ (s : State) (ch : Ch) (wd wg sg rg : Bool), s.live ch = true →
    (s.chan ch).releaseTaken = true → s.edgesQuiet ch = true →
    let sampled (f : Filter) (b : Bool) : Filter := { f with run := if b = f.level then 0 else f.run + 1 }
    let counted (m : RateMeter) : RateMeter :=
      match m.window with
      | none => { m with window := some { start := s.now, edges := 0 } }
      | some w => { m with window := some { w with edges := w.edges + 1 } }
    let edge (hold : List Bool) (c : Channel) : Channel :=
      { c with
        hold := hold, releaseTaken := false, rate := counted c.rate
        wg := sampled c.wg wg, sg := sampled c.sg sg, rg := sampled c.rg rg }
    (∀ t, exec (.symbolIntake ch wd wg sg rg) s = .next t →
      ((t.chan ch).wg.run = 3 →
        (if (s.chan ch).wg.level = true then .writeGateFall ch else .writeGateRise ch) ∈ t.dueSteps) ∧
      ((t.chan ch).sg.run = 3 →
        (if (s.chan ch).sg.level = true then .servoGateFall ch else .servoGateRise ch) ∈ t.dueSteps) ∧
      ((t.chan ch).rg.run = 3 →
        (if (s.chan ch).rg.level = true then .readGateFall ch else .readGateRise ch) ∈ t.dueSteps)) ∧
    ((s.chan ch).hold.length < 3 →
      exec (.symbolIntake ch wd wg sg rg) s
        = .next (s.onChan ch fun c => edge (c.hold ++ [wd]) c)) ∧
    ∀ x y z, (s.chan ch).hold = [x, y, z] →
      ((s.chan ch).intake = .gap →
        exec (.symbolIntake ch wd wg sg rg) s
          = .next ((s.handSymbol ch x).onChan ch fun c => edge [y, z, wd] c)) ∧
      (∀ before r, (s.chan ch).queue = before ++ [r] → r.inputOpen = true →
        (s.chan ch).intake = .storing → (s.chan ch).line.length < 4096 →
        exec (.symbolIntake ch wd wg sg rg) s = .next (s.onChan ch fun c => edge [y, z, wd]
          { c with
            line := c.line ++ [{ seq := r.seq, value := x }]
            queue := before ++ [{ r with symIn := min 1048575 (r.symIn + 1), run := r.run + 1 }] })) ∧
      (∀ before r, (s.chan ch).queue = before ++ [r] → r.inputOpen = true →
        (s.chan ch).intake = .discarding →
        exec (.symbolIntake ch wd wg sg rg) s = .next (s.onChan ch fun c => edge [y, z, wd]
          { c with queue := before ++
              [{ r with
                symIn := min 1048575 (r.symIn + 1)
                symDropped := min 1048575 (r.symDropped + 1) }] })) ∧
      ((s.chan ch).openRec = none → (s.chan ch).intake = .discarding →
        exec (.symbolIntake ch wd wg sg rg) s = .next (s.onChan ch fun c => edge [y, z, wd] c)))

/-- A STORING symbol that meets a full delay line aborts the open record: its run goes, the intake discards,
DELAY_OVERFLOW carries its sym_out, and the records before it keep their runs and states (R11, R43). -/
def Obligations.DelayOverflow : Prop :=
  ∀ (s : State) (ch : Ch) (wd wg sg rg x y z : Bool) (before : List Rec) (r : Rec),
    s.live ch = true → (s.chan ch).releaseTaken = true → s.edgesQuiet ch = true →
    (s.chan ch).hold = [x, y, z] → (s.chan ch).intake = .storing →
    (s.chan ch).queue = before ++ [r] → r.inputOpen = true → (s.chan ch).line.length = 4096 →
    (s.chan ch).selectedPending = none →
    ∃ t, exec (.symbolIntake ch wd wg sg rg) s = .next t ∧ (t.chan ch).queue = before ∧
      (t.chan ch).line = (s.chan ch).line.take (4096 - r.run) ∧ (t.chan ch).intake = .discarding ∧
      (r.state = .releasing → (t.chan ch).pwg = false ∧ (t.chan ch).pwd = false) ∧
      (r.state ≠ .releasing → (t.chan ch).pwg = (s.chan ch).pwg) ∧
      t.incidents = (s.post
        { kind := .delayOverflow, ch := ch, head := some r.head, burst := some r.seq
          detail := min 65535 r.symOut }).incidents

/-- A window of 1,024 edges in fewer than 4,096 ticks gives P the ticks it took, at least 64, makes it valid,
clears RATE_SLOW and opens the next window at the same edge; a window that reaches 4,096 ticks is abandoned,
with RATE_SLOW and the P held raised only if the indicator was clear (R20, R21). -/
def Obligations.RateWindows : Prop :=
  ∀ (s : State) (ch : Ch) (w : RateWindow), s.live ch = true → (s.chan ch).rate.window = some w →
    let c := (s.now - w.start).toNat
    (1024 ≤ w.edges → c < 4096 →
      exec (.rateWindowComplete ch) s = .next (s.onChan ch fun x =>
        { x with rate :=
            { window := some { start := s.now, edges := 0 }
              p := max 64 c, valid := true, slow := false } })) ∧
    (4096 ≤ c →
      let t := s.onChan ch fun x => { x with rate := { x.rate with window := none, slow := true } }
      exec (.rateWindowAbandon ch) s = .next
        (if (s.chan ch).rate.slow = true then t
        else t.post
          { kind := .rateSlow, ch := ch, head := (s.chan ch).relay.selected, burst := none
            detail := min 65535 (if (s.chan ch).rate.valid = true then (s.chan ch).rate.p else 0) }))

/-! ### Bursts -/

/-- The head record in PREPARING is released when it is write ready (its code settled at the write code for its
lead, and LRDYx high in READY mode), PRGx is low and the window is closed; when one of these fails, RELEASE changes
nothing. Its allowance is the symbols that fit before F while the timer predicts, and 1,048,575 otherwise; a record
with an allowance of 0 is cut (R32, R33, R45, R46, R70). The model's choices in it: the tick at which RELEASE is
taken (log entry 1), the LRDYx that write ready reads (log entry 29), and, where the code of a record so cut moves
next, the at-write-since while a first step waits for its grant (log entry 30). -/
def Obligations.Release : Prop :=
  (∀ (s : State) (ch : Ch),
    (s.live ch = false ∨ (s.chan ch).prg = true ∨ (s.chan ch).wedge.fence = true ∨
      ∀ r rest, (s.chan ch).queue = r :: rest → r.state ≠ .preparing ∨ ¬ s.mayWrite ch r) →
    exec (.release ch) s = .next s) ∧
  (∀ (s : State) (ch : Ch) (r : Rec) (rest : List Rec) (since : Stamp) (hold : Nat), s.live ch = true →
    (s.chan ch).queue = r :: rest → r.state = .preparing →
    (s.chan ch).laser.code = r.writeCode → (s.chan ch).laser.motion = .settled since hold →
    since.elapsed s.now r.leadTicks = true →
    ((s.chan ch).readyMode r = true → (s.chan ch).lrdy = true) →
    (s.chan ch).prg = false → (s.chan ch).wedge.fence = false →
    let ahead := ((s.chan ch).wedge.fenceTick - s.now).toInt
    let n := if (s.chan ch).wedge.lock.predicts = true then
        if ahead ≤ 0 then 0 else min 1048575 (ahead.toNat * 1024 / (s.chan ch).rate.p)
      else 1048575
    (n ≠ 0 → exec (.release ch) s = .next (s.onChan ch fun c =>
      { c with
        queue := { r with state := .releasing, allowance := some n } :: rest
        laser := { c.laser with ready := none } })) ∧
    (n = 0 → (s.chan ch).selectedPending = none →
      ∃ t, exec (.release ch) s = .next t ∧ (t.chan ch).pwg = (s.chan ch).pwg ∧
        (t.chan ch).line = (s.chan ch).line.drop r.run ∧ (t.chan ch).queue.length = rest.length ∧
        (t.chan ch).queue.tail = rest.tail ∧
        (∀ q, rest.head? = some q → ∃ q', (t.chan ch).queue.head? = some q' ∧
          q'.seq = q.seq ∧ q'.state = .preparing ∧ q'.bridged = false ∧ q'.run = q.run) ∧
        s.headChanges t ch ∧
        (r.inputOpen = true → (t.chan ch).intake ≠ .storing) ∧
        t.incidents = (s.post
          { kind := .fenceCut, ch := ch, head := some r.head, burst := some r.seq, detail := 0 }).incidents))

/-- When the tail time has elapsed the record in TAIL retires without an incident: the next record becomes the head
record, not bridged, or the empty queue gives the sequencer its target without a record. When the ready timeout has
elapsed with the head record in PREPARING, the record is aborted: its run goes, READY_TIMEOUT is raised with detail 0,
and the next record becomes the head record. The code meets the new target at that tick, and the ready timer starts
for a head record in READY mode that finds the code settled at its write code. A retirement that empties the queue
carries out the waiting promotion or unload of the selected head at its tick: within the step, or by the PROMOTION
that is then due (R36, R44, R51, R52, R55, R64 to R66, R72, R74, R132; log entries 7, 16, 30). -/
def Obligations.HeadRecordTimers : Prop :=
  (∀ (s : State) (ch : Ch) (r : Rec) (rest : List Rec), s.live ch = true →
    (s.chan ch).queue = r :: rest → r.state = .tail → r.run = 0 →
    (r.inputOpen = false ∨ (s.chan ch).intake ≠ .storing) →
    (s.chan ch).tailOf r ≤ (s.now - r.tailFrom).toNat → (s.chan ch).selectedPending = none →
    ∃ t, exec (.tailExpiry ch) s = .next t ∧ s.headChanges t ch ∧
      t.sansLaser = (s.onChan ch fun c =>
        { c with queue :=
            match rest with
            | [] => []
            | q :: more =>
              { q with
                state := .preparing, bridged := false, cold := (s.chan ch).laser.code == 0
                leadTicks := q.leadTicks +
                  (if (s.chan ch).laser.code == 0 then (s.chan ch).coldLeadOf q else 0) } :: more }).sansLaser) ∧
  (∀ (s : State) (ch : Ch) (r : Rec) (rest : List Rec) (from_ : Tick), s.live ch = true →
    (s.chan ch).queue = r :: rest → r.state = .preparing → (s.chan ch).laser.ready = some from_ →
    (s.chan ch).readyTimeoutOf r ≤ (s.now - from_).toNat → (s.chan ch).selectedPending = none →
    ∃ t, exec (.readyTimeout ch) s = .next t ∧ (t.chan ch).pwg = (s.chan ch).pwg ∧
      (t.chan ch).line = (s.chan ch).line.drop r.run ∧ (t.chan ch).queue.tail = rest.tail ∧
      (t.chan ch).queue.length = rest.length ∧
      (∀ q, rest.head? = some q → ∃ q', (t.chan ch).queue.head? = some q' ∧
        q'.seq = q.seq ∧ q'.state = .preparing ∧ q'.run = q.run) ∧ s.headChanges t ch ∧
      (r.inputOpen = true → (t.chan ch).intake ≠ .storing) ∧
      t.incidents = (s.post
        { kind := .readyTimeout, ch := ch, head := some r.head, burst := some r.seq
          detail := 0 }).incidents) ∧
  (∀ (s : State) (ch : Ch) (r : Rec) (h : HeadNo), s.live ch = true → (s.chan ch).heads.length = 8 →
    (s.chan ch).queue = [r] → r.state = .tail →
    (s.chan ch).tailOf r ≤ (s.now - r.tailFrom).toNat → (s.chan ch).relay.selected = some h →
    let old := (s.chan ch).headAt h
    let done (new : Head) (u : State) : Prop :=
      (u.chan ch).queue = [] ∧ (u.chan ch).headAt h = new ∧
        (∀ g, g ≠ h → (u.chan ch).headAt g = (s.chan ch).headAt g)
    ∃ t u, exec (.tailExpiry ch) s = .next t ∧ exec (.promotion ch h) t = .next u ∧
      (u = t ∨ (t.chan ch).heads = (s.chan ch).heads ∧ .promotion ch h ∈ t.dueSteps) ∧
      (∀ x, old.pending = .copy x → done
        { old with
          active := some x, pending := .none
          hold := if x.holdMark ≤ old.accum then true
            else if old.accum ≤ x.releaseMark then false else old.hold } u) ∧
      (old.pending = .unload →
        done { old with active := none, pending := .none, hold := false } u ∧ (u.chan ch).laser.code = 0))

/-- A waiting promotion or unload is carried out once no record of the head is queued: the pending copy becomes
the active copy and the head is evaluated with it, or the context is unloaded and its hold flag cleared. An
unload of the selected head's context, and a copy of it with the code inside a new range, set the code directly to 0;
with any other copy of it, with no trip and no window opening, the sequencer meets the target of the new copy, and a
waiting request is cleared and asked for again by the new step, ranges and target. F is recomputed for the selected
head alone, and no other head's context changes (R69, R79, R96, R118, R121, R132; log entries 15, 30). -/
def Obligations.Promotion : Prop :=
  ∀ (s : State) (ch : Ch) (h : HeadNo), s.live ch = true → (s.chan ch).heads.length = 8 →
    (s.chan ch).hasRecordOf h = false → s.DeferredOk →
    (∀ x, ((s.chan ch).headAt h).pending = .copy x → ∃ t, exec (.promotion ch h) s = .next t ∧
      (t.chan ch).headAt h =
        { (s.chan ch).headAt h with
          active := some x, pending := .none
          hold := if x.holdMark ≤ ((s.chan ch).headAt h).accum then true
            else if ((s.chan ch).headAt h).accum ≤ x.releaseMark then false
            else ((s.chan ch).headAt h).hold } ∧
      (x.tripMark ≤ ((s.chan ch).headAt h).accum → t.lockedOut ch = true) ∧
      ((s.chan ch).relay.selected = some h → inRanges x.ranges (s.chan ch).laser.code.toNat = true →
        1 ≤ x.dwell → t.heldAtZero ch) ∧
      ((s.chan ch).relay.selected = some h → s.refences t ch) ∧
      ((s.chan ch).relay.selected ≠ some h → (t.chan ch).wedge = (s.chan ch).wedge) ∧
      ((s.chan ch).relay.selected = some h → inRanges x.ranges (s.chan ch).laser.code.toNat = false →
        1 ≤ x.dwell → ((s.chan ch).headAt h).accum < x.tripMark → s.recheckDue = false →
        (t.chan ch).wedge.fence = (s.chan ch).wedge.fence →
        let q := (s.chan ch).laser
        let u := (t.chan ch).laser
        let n := nextCode (t.chan ch).rampParams q.code u.target
        let cost : Int := (s.current n : Int) - (s.current q.code : Int)
        let stays (m : Motion) : Prop := u.code = q.code ∧ u.motion = m ∧ u.ready = q.ready
        u.target = t.firstTarget ch ∧ (q.want = none → s.meetsTarget t ch) ∧
          ∀ last dwell b held, q.motion = .ramp last dwell (some b) held →
            (u.target = q.code → u.code = q.code ∧ u.want = none) ∧
            (u.target ≠ q.code → last.elapsed s.now dwell = false → stays (.ramp last dwell none held)) ∧
            (u.target ≠ q.code → last.elapsed s.now dwell = true →
              (u.target.toNat < q.code.toNat ∨ cost ≤ 0 ∨ (s.used : Int) + cost ≤ s.ceiling →
                u.code = n ∧ u.ready = none ∧
                  u.motion = .ramp { tick := s.now, old := false } x.dwell none false) ∧
              (q.code.toNat < u.target.toNat → 0 < cost → (s.ceiling : Int) < s.used + cost →
                stays (.ramp last dwell (some n) false)))) ∧
      ∀ g, g ≠ h → (t.chan ch).headAt g = (s.chan ch).headAt g) ∧
    (((s.chan ch).headAt h).pending = .unload → ∃ t, exec (.promotion ch h) s = .next t ∧
      (t.chan ch).headAt h =
        { (s.chan ch).headAt h with active := none, pending := .none, hold := false } ∧
      ((s.chan ch).relay.selected = some h → t.heldAtZero ch ∧ s.refences t ch) ∧
      ((s.chan ch).relay.selected ≠ some h →
        (t.chan ch).laser = (s.chan ch).laser ∧ (t.chan ch).wedge = (s.chan ch).wedge) ∧
      ∀ g, g ≠ h → (t.chan ch).headAt g = (s.chan ch).headAt g)

/-! ### The laser -/

/-- What the sequencer works toward and the state it is in: the target is that of the first case of R62 that
applies, and the state follows from that case, from whether the code has settled, and from the head record, by the
table of R63. -/
def Obligations.TargetAndState : Prop :=
  ∀ (s : State) (ch : Ch), (s.targetOf ch).2 = s.firstTarget ch ∧
    ((stateOfCase (s.firstCase ch) (s.chan ch).laser.isSettled
        ((s.chan ch).queue.head?.map fun r => r.state)).find? fun x => x.1).map (fun x => x.2)
      = some (s.seqState ch)

/-- Where a step lands: an up step on the lesser of code plus step size and target, a down step on the greater of
code minus step size and target, unless that code lies in a forbidden range, and then beyond the range; past
the target never, in a range never. A forced or clamped code that lies in a range comes down below it, and
below the next range if that lies there, and no further (R26, R27, R83, R129). -/
def Obligations.StepLandings : Prop :=
  (∀ (rs : List Range) (c : Code), rangesOk rs →
    clearOf rs (belowRanges rs c) ∧ (belowRanges rs c).toNat ≤ c.toNat ∧
      ∀ m, (belowRanges rs c).toNat < m → m ≤ c.toNat → inRanges rs m = true) ∧
  ∀ (p : RampParams) (c t : Code), rangesOk p.ranges → 1 ≤ p.step → clearOf p.ranges t →
    let n := nextCode p c t
    (c.toNat < t.toNat → c.toNat < n.toNat ∧ n.toNat ≤ t.toNat ∧ clearOf p.ranges n ∧
      min (c.toNat + p.step) t.toNat ≤ n.toNat ∧
      ∀ m, min (c.toNat + p.step) t.toNat ≤ m → m < n.toNat → inRanges p.ranges m = true) ∧
    (t.toNat < c.toNat → n.toNat < c.toNat ∧ t.toNat ≤ n.toNat ∧ clearOf p.ranges n ∧
      n.toNat ≤ max (c.toNat - p.step) t.toNat ∧
      ∀ m, n.toNat < m → m ≤ max (c.toNat - p.step) t.toNat → inRanges p.ranges m = true)

/-- The heat plan. The band for a period is the first whose bound is at or above it, else the last, numbered from 1.
A ramp time is the number of steps from a code to a code, each step as StepLandings states it, times the dwell. The
fence tick is W less the margin, the tail and the ramp-down time, which is the ramp time from the write code of the
present band, or of the last band while P has not been valid, to the read code; with no context it is W less the
margin (R24, R26, R27, R29 to R31). -/
def Obligations.HeatPlan : Prop :=
  (∀ (x : Context) (p i : Nat) (b : Band), x.band p = some (i, b) ↔
    1 ≤ i ∧ x.bands[i - 1]? = some b ∧
      (∀ j e, j < i - 1 → x.bands[j]? = some e → e.bound < p) ∧
      (p ≤ b.bound ∨ i = x.bands.length)) ∧
  (∀ (p : RampParams) (c t : Code), rangesOk p.ranges → 1 ≤ p.step → clearOf p.ranges t →
    ∃ path : List Code, path.head? = some c ∧ path.getLast? = some t ∧ t ∉ path.dropLast ∧
      path.length ≤ 64 ∧ (∀ k x y, path[k]? = some x → path[k + 1]? = some y → y = nextCode p x t) ∧
      rampTime p c t = (path.length - 1) * p.dwell) ∧
  (∀ (w : Tick) (margin : Nat) (x : Context) (r : RateMeter) (b : Band),
    (r.valid = true → ∃ i, x.band r.p = some (i, b)) → (r.valid = false → x.bands.getLast? = some b) →
    fenceTickOf w margin (some x) r = w - BitVec.ofNat 32 (margin + x.tail +
      rampTime { step := x.step, dwell := x.dwell, ranges := x.ranges } b.code x.read)) ∧
  ∀ (w : Tick) (margin : Nat) (r : RateMeter), fenceTickOf w margin none r = w - BitVec.ofNat 32 margin

/-- A ramp step that falls due: a down step is taken; an up step is taken if its current difference is 0 or less
or fits under the ceiling, and otherwise becomes the channel's waiting request; the other channel's waiting
request does not enter. A step that lowers the sum calls for a re-check of a request the other channel waits
with (R65, R66, R104, R105, R107). -/
def Obligations.RampStep : Prop :=
  ∀ (s : State) (ch : Ch) (last : Stamp) (dwell : Nat) (held : Bool), s.live ch = true →
    s.recheckDue = false → (s.chan ch).laser.motion = .ramp last dwell none held →
    last.elapsed s.now dwell = true → (s.chan ch).laser.code ≠ (s.chan ch).laser.target →
    let c := (s.chan ch).laser.code
    let n := nextCode (s.chan ch).rampParams c (s.chan ch).laser.target
    let cost : Int := s.current n - s.current c
    let up := c.toNat < (s.chan ch).laser.target.toNat
    (¬ up ∨ cost ≤ 0 ∨ s.used + cost ≤ s.ceiling →
      ∃ t, exec (.rampStep ch) s = .next t ∧ t.sansLaser = s.sansLaser ∧
        (t.chan ch).laser =
          { (s.chan ch).laser with
            code := n, ready := none
            motion := .ramp { tick := s.now, old := false } (s.chan ch).rampParams.dwell none false } ∧
        (t.chan (otherCh ch)).laser = (s.chan (otherCh ch)).laser ∧ t.loser = s.loser ∧
        t.recheckDue = ((decide (n.toNat < c.toNat) || decide (cost < 0)) &&
          (s.chan (otherCh ch)).laser.want.isSome)) ∧
    (up → 0 < cost → s.ceiling < s.used + cost →
      exec (.rampStep ch) s = .next (s.onChan ch fun c =>
        { c with laser := { c.laser with motion := .ramp last dwell (some n) false } }))

/-- One dwell after the last code change with the code at the target the ramp completes: at-write-since is this
tick, and the ready timer starts for a PREPARING head record in READY mode at its write code (R68, R72). -/
def Obligations.RampComplete : Prop :=
  ∀ (s : State) (ch : Ch) (last : Stamp) (dwell : Nat) (want : Option Code) (held : Bool),
    s.live ch = true → (s.chan ch).laser.motion = .ramp last dwell want held →
    last.elapsed s.now dwell = true → (s.chan ch).laser.code = (s.chan ch).laser.target →
    ∃ t, exec (.rampComplete ch) s = .next t ∧ t.sansLaser = s.sansLaser ∧
      (t.chan ch).laser.code = (s.chan ch).laser.code ∧
      (t.chan ch).laser.target = (s.chan ch).laser.target ∧
      (t.chan ch).laser.motion = .settled { tick := s.now, old := false } 0 ∧
      (∀ r rest, (s.chan ch).queue = r :: rest → r.state = .preparing → (s.chan ch).readyMode r = true →
        (s.chan ch).laser.code = r.writeCode → (t.chan ch).laser.ready = some s.now) ∧
      ((s.chan ch).queue = [] → (t.chan ch).laser.ready = (s.chan ch).laser.ready)

/-- A re-check with one request waiting grants it, and its step is taken, exactly if it fits; with both
waiting, the channel of higher draw priority is taken first, at equal priority the contest loser, and with
none channel A, each against the sum as it then stands, and the one granted alone leaves the other the loser
(R107, R108). Over a level table that falls, a grant inside the contest calls for a re-check; that this re-check comes
after the loser is updated is the model's choice (log entry 40). -/
def Obligations.StepGrant : Prop :=
  ∀ s : State, s.recheckDue = true →
    (∀ ch b, (s.chan ch).laser.want = some b → (s.chan (otherCh ch)).laser.want = none →
      ∃ t, exec .stepGrant s = .next t ∧ t.sansLaser = s.sansLaser ∧ t.loser = s.loser ∧
        (t.chan (otherCh ch)).laser = (s.chan (otherCh ch)).laser ∧
        (s.fits ch b = true → (t.chan ch).laser.code = b ∧ (t.chan ch).laser.want = none) ∧
        (s.fits ch b = false → t = { s with recheckDue := false })) ∧
    (∀ first b1 b2, (s.chan first).laser.want = some b1 →
      (s.chan (otherCh first)).laser.want = some b2 →
      ((s.chan (otherCh first)).setup.priority < (s.chan first).setup.priority ∨
        ((s.chan (otherCh first)).setup.priority = (s.chan first).setup.priority ∧
          (s.loser = some first ∨ (s.loser = none ∧ first = .A)))) →
      ∃ t, exec .stepGrant s = .next t ∧ t.sansLaser = s.sansLaser ∧
        let mid := if s.fits first b1 = true then s.stepTo first b1 else s
        ((t.chan first).laser.code = if s.fits first b1 = true then b1 else (s.chan first).laser.code) ∧
        ((t.chan (otherCh first)).laser.code =
          if mid.fits (otherCh first) b2 = true then b2 else (s.chan (otherCh first)).laser.code) ∧
        t.loser =
          if s.fits first b1 = true ∧ mid.fits (otherCh first) b2 = false then some (otherCh first)
          else if s.fits first b1 = false ∧ mid.fits (otherCh first) b2 = true then some first
          else s.loser)

/-- A heat tick updates all sixteen accumulators: the weight of the channel's code for the selected head alone,
less the leak of the head's own shift, or of 8 when it is unloaded, and never above 65,535; then it evaluates
the loaded heads' hold flags, and a head at its trip watermark finds its channel in LOCKOUT. The trips raised are
at most one for a channel, for its first head at its watermark, of a channel not in LOCKOUT, with the head record's
number and the new value. In IDLE the park count advances and is compared with the park delay; PARK_EXPIRY then sets
the park condition, and the ramp down to 0 begins. While RSTN is low the heat tick updates nothing (R64, R65, R76,
R77, R115 to R119). The model's choices in it: the comparison is kept in parkDue until PARK_EXPIRY takes it (log entry
16), the at-write-since where the code moves and a first step waits for its grant (log entry 30), the order of the two
channels' trips (log entry 32), and the thermal update before the park counts (log entry 41). -/
def Obligations.HeatTick : Prop :=
  (∀ s : State, s.now.toNat % 1024 = 0 → s.heatTaken = false → s.rstnLow = false →
    s.a.heads.length = 8 → s.b.heads.length = 8 → s.DeferredOk →
    ∃ t new, exec .heatTick s = .next t ∧ t.heatTaken = true ∧
      (∀ (ch : Ch) (h : HeadNo),
        let x := (s.chan ch).headAt h
        let y := (t.chan ch).headAt h
        let w := if (s.chan ch).relay.selected = some h then s.weight (s.chan ch).laser.code else 0
        let k := match x.active with
          | some c => c.leak
          | none => 8
        y.accum = min 65535 (x.accum + w - x.accum / 2 ^ k) ∧ y.active = x.active ∧
          y.pending = x.pending ∧
          (x.active = none → y.hold = x.hold) ∧
          (∀ c, x.active = some c →
            y.hold = (if c.holdMark ≤ y.accum then true
              else if y.accum ≤ c.releaseMark then false else x.hold) ∧
            (c.tripMark ≤ y.accum → t.lockedOut ch = true))) ∧
      t.incidents = s.incidents ++ new ∧
      (∀ ch : Ch,
        let hot (h : HeadNo) : Prop := ∃ c, (t.chan ch).contextOf h = some c ∧
          c.tripMark ≤ ((t.chan ch).headAt h).accum
        let trips := new.filter fun n => n.incident.kind == .thermalTrip && n.incident.ch == ch
        trips.length ≤ 1 ∧
        (∀ n ∈ trips, s.lockedOut ch = false ∧ ∃ h, hot h ∧ (∀ g, g.toNat < h.toNat → ¬ hot g) ∧
          n.incident = { kind := .thermalTrip, ch := ch, head := some h
                         burst := (s.chan ch).queue.head?.map fun r => r.seq
                         detail := ((t.chan ch).headAt h).accum }) ∧
        (s.incidents.length + s.a.queue.length + s.b.queue.length + 2 ≤ 16 → s.lockedOut ch = false →
          (∃ h, hot h) → trips.length = 1) ∧
        (s.seqState ch = .idle → t.lockedOut ch = false →
          let count := min 65535 ((s.chan ch).laser.parkCount + 1)
          (t.chan ch).laser = { (s.chan ch).laser with
            parkCount := count
            parkDue := decide ((s.chan ch).setup.parkDelay ≠ 0 ∧ (s.chan ch).setup.parkDelay ≤ count) }))) ∧
  (∀ (s : State) (ch : Ch), s.live ch = true → (s.chan ch).laser.parkDue = true → s.seqState ch = .idle →
    ∃ t, exec (.parkExpiry ch) s = .next t ∧ t.sansLaser = s.sansLaser ∧
      (t.chan ch).laser.park = true ∧ (t.chan ch).laser.target = 0 ∧ (t.chan ch).laser.parkCount = 0 ∧
      (s.recheckDue = false → s.meetsTarget t ch)) ∧
  (∀ s : State, s.rstnLow = true → ∃ t, exec .heatTick s = .next t ∧
    t = { s with heatTaken := t.heatTaken })

/-! ### The wedge timer's own steps -/

/-- When the present tick is at or after F in a timer that predicts, the window opens: the park condition is
cleared, every record that has not been released is cut, oldest first, and a released head record stays (R53,
R80, R97). -/
def Obligations.FenceTickReached : Prop :=
  ∀ (s : State) (ch : Ch), s.live ch = true → (s.chan ch).wedge.fence = false →
    (s.chan ch).wedge.lock.predicts = true → 0 ≤ (s.now - (s.chan ch).wedge.fenceTick).toInt →
    (s.chan ch).selectedPending = none → (s.chan ch).QueueOk → (s.chan ch).LineOk →
    let kept := (s.chan ch).queue.filter fun r => r.state == .releasing || r.state == .tail
    let cut := (s.chan ch).queue.filter fun r => !(r.state == .releasing || r.state == .tail)
    ∃ t, exec (.fenceTickReached ch) s = .next t ∧ (t.chan ch).wedge.fence = true ∧
      (t.chan ch).queue = kept ∧ (t.chan ch).LineOk ∧ (t.chan ch).laser.park = false ∧
      (t.chan ch).laser.target = t.firstTarget ch ∧ (t.chan ch).pwg = (s.chan ch).pwg ∧
      (t.chan ch).heads = (s.chan ch).heads ∧
      ((∃ r ∈ cut, r.inputOpen = true) → (t.chan ch).intake ≠ .storing) ∧
      t.incidents = (s.postAll (cut.map fun r =>
        { kind := .fenceCut, ch := ch, head := some r.head, burst := some r.seq, detail := 0 })).incidents

/-- An acquisition with no capture for N plus the tolerance is abandoned: the timer is UNLOCKED with no good
interval, and nothing is raised (R89). -/
def Obligations.AcquisitionAbandon : Prop :=
  ∀ (s : State) (ch : Ch), s.live ch = true → (s.chan ch).wedge.lock = .acquiring →
    (s.chan ch).wedge.nominal + (s.chan ch).wedge.tolerance ≤ (s.now - (s.chan ch).wedge.last).toNat →
    exec (.acquisitionAbandon ch) s = .next (s.onChan ch fun c =>
      { c with wedge := { c.wedge with lock := .unlocked, good := 0, first := none } })

/-- A first miss coasts: C becomes W, W one E later, F is computed for it and E stays; the window closes, or
opens at once, by the new F; with no record to cut nothing is raised and nothing else changes beside the
lasers. A second miss in a row unlocks: one WEDGE_LOST with detail 0, and the window closes unless filtered SGx
is high; C, E, W and F keep their values (R92, R93, R95, R97, R98). -/
def Obligations.WedgeMisses : Prop :=
  (∀ (s : State) (ch : Ch), s.live ch = true → (s.chan ch).wedge.lock.predicts = true →
    0 ≤ (s.now - ((s.chan ch).wedge.next + BitVec.ofNat 32 (s.chan ch).wedge.tolerance)).toInt →
    (s.chan ch).wedge.miss = 0 →
    let w := (s.chan ch).wedge
    let next := w.next + BitVec.ofNat 32 w.estimate
    let f := fenceTickOf next w.margin (s.chan ch).context (s.chan ch).rate
    let reached := 0 ≤ (s.now - f).toInt
    ((s.chan ch).queue = [] ∨ w.fence = true ∨ ¬ reached) →
    ∃ t, exec (.wedgeMissExpiry ch) s = .next t ∧
      t.sansLaser = (s.onChan ch fun c =>
        { c with wedge := { c.wedge with
            miss := 1, last := w.next, next := next, lock := .coasting, fenceTick := f
            fence := decide reached || (w.fence && (s.chan ch).sg.level) } }).sansLaser) ∧
  (∀ (s : State) (ch : Ch), s.live ch = true → (s.chan ch).wedge.lock.predicts = true →
    0 ≤ (s.now - ((s.chan ch).wedge.next + BitVec.ofNat 32 (s.chan ch).wedge.tolerance)).toInt →
    (s.chan ch).wedge.miss ≠ 0 →
    ∃ t, exec (.wedgeMissExpiry ch) s = .next t ∧
      t.sansLaser = ((s.onChan ch fun c =>
        { c with wedge := { c.wedge with
            miss := 0, lock := .unlocked, fence := c.wedge.fence && c.sg.level } }).post
        { kind := .wedgeLost, ch := ch, head := (s.chan ch).relay.selected, burst := none
          detail := 0 }).sansLaser)

/-! ### The link relay -/

/-- LKSx falls: from IDLE with the slot empty a frame begins with PLKSx still high; behind an occupied slot, or
while the frame before is still being finished, it waits with LKCx held low; in WIRE it passes. When the bits
to catch up have been clocked out, at 64 ticks each, a frame is relayed cut-through; one whose upstream frame
has ended is over downstream. While the part clocks, in CATCH-UP and REPLAY, PLKSx is low, PLKCx low for 32 ticks and
then high for 32, and PLKDx the bit taken; in CATCH-UP it holds LKCx low from its next fall to the frame's end. In
THROUGH PLKSx is low, PLKCx follows LKCx, and the data pass down in a write and up in a read. In IDLE, HEADER and HOLD
PLKSx is high and the lines of the preamplifier are left alone. In WIRE, after the release too, PLKSx follows LKSx and
the clock and data lines are joined (R140, R141, R146, R147, R149). The wait behind a frame in CATCH-UP
is the model's (log entry 18), and so are the counts of bits between frames (log entry 11), the tick at which the
last bit of the part's own clocking ends (log entry 19), and that PLKCx and PLKDx are left alone while nothing is sent
downstream (log entry 38). -/
def Obligations.LinkFrames : Prop :=
  (∀ (s : State) (ch : Ch), s.live ch = true → (s.chan ch).lks = true →
    ((s.chan ch).relay.phase = .idle → (s.chan ch).relay.slot = none →
      ∃ t, exec (.linkFrameStart ch) s = .next t ∧
        t = (s.onChan ch fun c =>
          { c with
            lks := false, relay := { c.relay with phase := .header, taken := [], given := 0 } }) ∧
        t.plks ch = true) ∧
    ((s.chan ch).relay.slot.isSome = true ∨ (s.chan ch).relay.phase = .catchUp →
      ∃ t, exec (.linkFrameStart ch) s = .next t ∧
        t = (s.onChan ch fun c => { c with lks := false, relay := { c.relay with waiting := true } }) ∧
        t.lkcHeld ch = true) ∧
    ((s.chan ch).relay.phase = .wire → (s.chan ch).relay.slot = none →
      exec (.linkFrameStart ch) s = .next (s.onChan ch fun c => { c with lks := false }))) ∧
  (∀ (s : State) (ch : Ch), s.live ch = true → (s.chan ch).relay.phase = .catchUp →
    0 ≤ (s.now - (s.chan ch).relay.start).toInt →
    64 * (s.chan ch).relay.goal ≤ (s.now - (s.chan ch).relay.start).toNat →
    ((s.chan ch).relay.ending = false → exec (.catchUpComplete ch) s
      = .next (s.onChan ch fun c =>
        { c with relay := { c.relay with phase := .through, given := c.relay.goal } })) ∧
    ((s.chan ch).relay.ending = true → (s.chan ch).relay.slot = none →
      exec (.catchUpComplete ch) s = .next (s.onChan ch fun c =>
        { c with relay :=
          { c.relay with phase := .idle, given := c.relay.goal, goal := 0, ending := false } }))) ∧
  (∀ (s : State) (ch : Ch) (up down : Bool), s.live ch = true →
    let r := (s.chan ch).relay
    let begun : Prop := 0 ≤ (s.now - r.start).toInt
    let k := (s.now - r.start).toNat
    (r.waiting = true → s.lkcLevel ch up down = false) ∧
    (r.phase = .catchUp ∨ r.phase = .replay → s.lkdLevel ch up down = up ∧
      (begun → s.plks ch = false ∧ s.plkcLevel ch up down = (down && decide (32 ≤ k % 64)) ∧
        ∀ bit, r.taken[k / 64]? = some bit → s.plkdLevel ch up down = (down && bit)) ∧
      (¬ begun → s.plks ch = true ∧ s.plkcLevel ch up down = down)) ∧
    (r.phase = .catchUp → r.waiting = false →
      s.lkcLevel ch up down = (up && (r.ending || decide ((s.now - r.stretch).toInt < 0)))) ∧
    (r.phase = .replay → r.waiting = false → s.lkcLevel ch up down = up) ∧
    (r.phase = .through → r.waiting = false → s.plks ch = false ∧ s.lkcLevel ch up down = up ∧
      s.plkcLevel ch up down = (up && down) ∧
      (r.taken.head? = some true → s.lkdLevel ch up down = (up && down) ∧ s.plkdLevel ch up down = down) ∧
      (r.taken.head? = some false → s.lkdLevel ch up down = up ∧ s.plkdLevel ch up down = (up && down))) ∧
    (r.phase = .idle ∨ r.phase = .header ∨ r.phase = .hold → s.plks ch = true ∧
      (r.waiting = false → s.lkcLevel ch up down = up) ∧ s.plkcLevel ch up down = down ∧
      s.lkdLevel ch up down = up ∧ s.plkdLevel ch up down = down) ∧
    (r.phase = .wire → s.plks ch = (s.chan ch).lks ∧ s.lkdLevel ch up down = (up && down) ∧
      s.plkdLevel ch up down = (up && down) ∧
      (r.waiting = false → s.lkcLevel ch up down = (up && down) ∧ s.plkcLevel ch up down = (up && down))))

/-- The 8th bit: a head-select write occupies the hold slot, and is held if a record is queued; every other
frame, and a head-select write into an empty queue, goes on to CATCH-UP: LKCx is held from its next fall on, and
the part begins to clock at that fall, or once 64 ticks have passed since the end of a replay (R140 to R142, R145; log
entries 19, 33). -/
def Obligations.LinkHeaderTaken : Prop :=
  ∀ (s : State) (ch : Ch) (header : BitVec 8) (fall : BitVec 31), s.live ch = true →
    (s.chan ch).relay.phase = .header →
    let bits := [header.getLsbD 7, header.getLsbD 6, header.getLsbD 5, header.getLsbD 4,
      header.getLsbD 3, header.getLsbD 2, header.getLsbD 1, header.getLsbD 0]
    let selects := header.getLsbD 7 = false ∧ header.toNat % 128 = s.selectReg.toNat
    let slot : Option Slot := some { bits := bits, complete := false }
    let catchUp (r : Relay) : Relay :=
      { r with
        taken := bits, phase := .catchUp, start := r.beginsAt s.now fall.toNat
        stretch := s.now + BitVec.ofNat 32 fall.toNat, goal := 8, given := 0, ending := false }
    (¬ selects → exec (.linkHeaderTaken ch header fall) s
      = .next (s.onChan ch fun c => { c with relay := catchUp c.relay })) ∧
    (selects → (s.chan ch).queue = [] → exec (.linkHeaderTaken ch header fall) s
      = .next (s.onChan ch fun c => { c with relay := { catchUp c.relay with slot := slot } })) ∧
    (selects → (s.chan ch).queue ≠ [] → exec (.linkHeaderTaken ch header fall) s
      = .next (s.onChan ch fun c =>
        { c with relay :=
          { c.relay with taken := bits, slot := slot, phase := .hold, holdStart := some s.now } }))

/-- A complete head-select write that ends downstream, relayed, replayed, or sent out whole in CATCH-UP behind its
upstream end, empties the slot and switches the head: to the low three bits of its value when they are below the heads
count, else to none with HEAD_INVALID; the code is set directly to 0, held there for one dwell of the new head if the
target is another, and the park condition is clear. F is recomputed for the new head if the timer predicts. Only a
replay is followed by a quiet time (R69, R78, R96, R140, R144, R147; log entries 15, 17, 37). -/
def Obligations.HeadSwitch : Prop :=
  ∀ (s : State) (ch : Ch) (all : List Bool), s.live ch = true → (s.chan ch).queue = [] →
    (∀ (g : HeadNo) (x : Context), (s.chan ch).contextOf g = some x → 1 ≤ x.dwell) →
    all.length = 24 →
    let place (i : Nat) (v : Nat) : Nat := if all[i]? = some true then v else 0
    let h : HeadNo := BitVec.ofNat 3 (place 21 4 + place 22 2 + place 23 1)
    let n := (s.chan ch).setup.headsCount
    let switched (t : State) : Prop :=
      (t.chan ch).relay.slot = none ∧ (t.chan ch).relay.phase = .idle ∧
      (t.chan ch).relay.waiting = (s.chan ch).relay.waiting ∧ t.heldAtZero ch ∧ s.refences t ch ∧
      (t.chan ch).laser.park = false ∧ (t.chan ch).laser.target = t.firstTarget ch ∧
      (t.chan ch).heads = (s.chan ch).heads ∧ (t.chan ch).queue = [] ∧
      (h.toNat < n → (t.chan ch).relay.selected = some h ∧ t.incidents = s.incidents) ∧
      (n ≤ h.toNat → (t.chan ch).relay.selected = none ∧
        t.incidents = (s.post
          { kind := .headInvalid, ch := ch, head := some h, burst := none
            detail := min 65535 n }).incidents)
    (∀ bits, (s.chan ch).relay.phase = .through → (s.chan ch).relay.slot.isSome = true →
      (s.chan ch).lks = false → (s.chan ch).relay.waiting = false →
      (s.chan ch).relay.taken ++ bits = all →
      ∃ t, exec (.linkFrameEnd ch bits) s = .next t ∧ switched t) ∧
    ((s.chan ch).relay.phase = .replay → (s.chan ch).relay.goal = 24 →
      (s.chan ch).relay.slot = some { bits := all, complete := true } →
      0 ≤ (s.now - (s.chan ch).relay.start).toInt → 1536 ≤ (s.now - (s.chan ch).relay.start).toNat →
      ∃ t, exec (.replayComplete ch) s = .next t ∧ switched t ∧
        (t.chan ch).relay.lastOwn = { tick := s.now, old := false }) ∧
    ((s.chan ch).relay.phase = .catchUp → (s.chan ch).relay.ending = true →
      (s.chan ch).relay.slot.isSome = true → (s.chan ch).relay.taken = all →
      s.reaches (s.chan ch).relay.start → s.since (s.chan ch).relay.start (64 * (s.chan ch).relay.goal) →
      ∃ t, exec (.catchUpComplete ch) s = .next t ∧ switched t ∧
        (t.chan ch).relay.lastOwn = (s.chan ch).relay.lastOwn)

/-- The other ends of an upstream frame: an ordinary frame, or one that ends in its header, returns the relay to IDLE;
a short head-select write empties the slot and selects nothing; a held one of 24 bits is complete; a waiting frame is
dropped. A frame that ends in CATCH-UP with no bit begun is over, and leaves the slot; one with bits begun finishes
those alone, with the stretch released, and leaves the slot unless all 24 have begun (log entry 17). A held one of 24
bits that ends before LKCx has fallen is replayed, 64 ticks behind an earlier replay (log entries 19, 34). The bits
taken, and those given in THROUGH, are counted to the end (R140, R141, R143, R145, R146, R149; log entry 11). -/
def Obligations.LinkFrameEnd : Prop :=
  ∀ (s : State) (ch : Ch) (bits : List Bool), s.live ch = true → (s.chan ch).lks = false →
    let r := (s.chan ch).relay
    let all := (r.taken ++ bits).take 24
    let ended (f : Relay → Relay) :=
      exec (.linkFrameEnd ch bits) s
        = .next (s.onChan ch fun c => { c with lks := true, relay := f c.relay })
    let idle (x : Relay) : Relay := { x with phase := .idle, goal := 0, ending := false }
    let gone (x : Relay) : Relay := { x with slot := none, holdStart := none }
    let begun := if 0 ≤ (s.now - r.start).toInt then min r.goal ((s.now - r.start).toNat / 64 + 1) else 0
    let whole : Prop := r.slot.isSome = true ∧ 24 ≤ r.taken.length ∧ (s.now - r.stretch).toInt < 0
    (r.waiting = true → ended fun x => { x with waiting := false }) ∧
    (r.waiting = false →
      (r.phase = .wire → ended idle) ∧
      (r.phase = .header → ended fun x => { idle x with taken := all }) ∧
      (r.phase = .through → r.slot = none →
        ended fun x => { idle x with taken := all, given := all.length }) ∧
      (r.phase = .through → r.slot.isSome = true → all.length < 24 →
        ended fun x => { idle (gone x) with taken := all, given := all.length }) ∧
      (r.phase = .hold → all.length < 24 → ended fun x => { idle (gone x) with taken := all }) ∧
      (r.phase = .hold → all.length = 24 →
        ended fun x => { x with taken := all, slot := some { bits := all, complete := true } }) ∧
      (r.phase = .catchUp → ¬ whole → begun = 0 → ended fun x => idle (gone x)) ∧
      (r.phase = .catchUp → ¬ whole → 0 < begun → begun ≠ 24 →
        ended fun x => { gone x with goal := begun, ending := true }) ∧
      (r.phase = .catchUp → ¬ whole → begun = 24 → ended fun x => { x with goal := 24, ending := true }) ∧
      (r.phase = .catchUp → whole → ended fun x =>
        { x with
          phase := .replay, holdStart := none, start := x.beginsAt s.now 0, goal := 24, given := 0
          slot := some { bits := r.taken, complete := true } }))

/-- The hold stops when the queue is empty: a complete frame is replayed whole, an incomplete one is caught up
from the bits taken so far, from the next fall of LKCx on; either begins to clock only once 64 ticks have passed since
the end of a replay. A waiting frame is taken from its first bit once the slot is empty (R140, R146, R147; log entries
11, 19, 33). -/
def Obligations.HeldFrames : Prop :=
  ∀ (s : State) (ch : Ch), s.live ch = true →
    (∀ bits fall x, (s.chan ch).relay.phase = .hold → (s.chan ch).queue = [] →
      (s.chan ch).relay.slot = some x → x.complete = true →
      exec (.heldFrameReplay ch bits fall) s = .next (s.onChan ch fun c =>
        { c with relay :=
          { c.relay with
            phase := .replay, holdStart := none, start := c.relay.beginsAt s.now 0, goal := 24
            given := 0 } })) ∧
    (∀ bits (fall : BitVec 31) x, (s.chan ch).relay.phase = .hold → (s.chan ch).queue = [] →
      (s.chan ch).relay.slot = some x → x.complete = false →
      ((s.chan ch).relay.taken ++ bits).length ≤ 24 →
      let all := (s.chan ch).relay.taken ++ bits
      exec (.heldFrameReplay ch bits fall) s = .next (s.onChan ch fun c =>
        { c with relay :=
          { c.relay with
            phase := .catchUp, holdStart := none, taken := all, given := 0, goal := all.length
            ending := false, slot := some { bits := all, complete := false }
            start := c.relay.beginsAt s.now fall.toNat
            stretch := s.now + BitVec.ofNat 32 fall.toNat } })) ∧
    ((s.chan ch).relay.phase = .idle → (s.chan ch).relay.slot = none →
      (s.chan ch).relay.waiting = true →
      exec (.waitingFrameRelease ch) s = .next (s.onChan ch fun c =>
        { c with relay :=
          { c.relay with waiting := false, phase := .header, taken := [], given := 0 } }))

/-- At the hold limit, counted in units of 64 ticks from the hold start, every record is removed with one
HEAD_SWITCH_FORCED, PWGx falls and the delay line is empty; the relay is left to replay the held frame (R57,
R148). -/
def Obligations.HoldLimitExpiry : Prop :=
  ∀ (s : State) (ch : Ch) (r : Rec) (rest : List Rec) (from_ : Tick), s.live ch = true →
    (s.chan ch).relay.phase = .hold → (s.chan ch).queue = r :: rest →
    (s.chan ch).relay.holdStart = some from_ →
    (s.chan ch).setup.holdLimit * 64 ≤ (s.now - from_).toNat → (s.chan ch).selectedPending = none →
    ∃ t, exec (.holdLimitExpiry ch) s = .next t ∧ (t.chan ch).queue = [] ∧ (t.chan ch).line = [] ∧
      (t.chan ch).pwg = false ∧ (t.chan ch).pwd = false ∧ (t.chan ch).intake ≠ .storing ∧
      (t.chan ch).relay = (s.chan ch).relay ∧ t.replayDue ch = true ∧
      (t.chan ch).laser.target = t.firstTarget ch ∧
      t.incidents = (s.post
        { kind := .headSwitchForced, ch := ch, head := some r.head, burst := some r.seq
          detail := min 65535 r.symOut }).incidents

/-! ### Directive frames and the directive queue -/

/-- A frame as the controller sends it is taken back whole: behind a marker of any length from 32 ones, the
header, the payload and the check word give the entry they were made from, which joins the queue, is taken at
once by an idle engine for 64 ticks and 16 a payload word, or finds the queue full and begins OVERRUN (R150 to
R152, R154, R156, R164). That DIRECTIVE_FRAME leaves the intake hold and the rate meter as they were is the model's
choice (log entry 13). -/
def Obligations.FrameRoundTrip : Prop :=
  ∀ (s : State) (ch : Ch) (ones marker : Nat) (kind : BitVec 6) (target : Ch) (head : HeadNo)
    (payload : List Word), s.live ch = true → (s.chan ch).intake = .gap →
    (s.chan ch).recv.hunt = .hunting ones → s.overrun = false → 32 ≤ marker → payload.length ≤ 31 →
    let e : Entry :=
      { kind := kind, target := target, head := head, payload := payload, source := ch }
    let heard := s.onChan ch fun c => { c with recv := { c.recv with hunt := .hunting 0 } }
    let answer := exec (.directiveFrame ch (frameSymbols marker kind target head payload)) s
    WellFormed (.directiveFrame ch (frameSymbols marker kind target head payload)) = true ∧
    (s.engine = none → s.directives = [] → answer = .next { heard with
      engine := some
        { entry := e, endTick := s.now + BitVec.ofNat 32 (64 + 16 * payload.length) } }) ∧
    (s.engine.isSome = true → s.directives.length < 4 →
      answer = .next { heard with directives := s.directives ++ [e] }) ∧
    (4 ≤ s.directives.length → answer = .next ({ heard with overrun := true }.post
      { kind := .directiveOverrun, ch := ch, head := none, burst := none, detail := kind.toNat }))

/-- A bad frame is discarded whole with one DIRECTIVE_BAD: for a guard symbol of 0, high byte 1 and the index of
the word it followed; for a check word that does not match, high byte 2 and n + 1 (R151, R152). That DIRECTIVE_FRAME
leaves the intake hold and the rate meter as they were is the model's choice (log entry 13). -/
def Obligations.BadFrames : Prop :=
  ∀ (s : State) (ch : Ch) (ones marker : Nat) (kind : BitVec 6) (target : Ch) (head : HeadNo)
    (payload : List Word), s.live ch = true → (s.chan ch).intake = .gap →
    (s.chan ch).recv.hunt = .hunting ones → 32 ≤ marker → payload.length ≤ 31 →
    let ws := headerWord kind target head payload.length :: payload
    let opening := List.replicate marker true ++ [false]
    let heard := s.onChan ch fun c => { c with recv := { c.recv with hunt := .hunting 0 } }
    let bad (detail : Nat) : Incident :=
      { kind := .directiveBad, ch := ch, head := none, burst := none, detail := detail }
    (∀ check, check ≠ crcWords ws →
      exec (.directiveFrame ch (opening ++ ws.flatMap guarded ++ guarded check)) s
        = .next (heard.post (bad (512 + (payload.length + 1))))) ∧
    (∀ before v after, ws = before ++ v :: after →
      exec (.directiveFrame ch (opening ++ before.flatMap guarded ++ wordSymbols v ++ [false])) s
        = .next (heard.post (bad (256 + before.length)))) ∧
    ∀ check, exec (.directiveFrame ch (opening ++ ws.flatMap guarded ++ wordSymbols check ++ [false])) s
        = .next (heard.post (bad (256 + (payload.length + 1))))

/-- Under OVERRUN a good frame that is no CLEAR is discarded without an incident, a CLEAR that finds the queue
full is kept as its receiver's waiting CLEAR, one that finds a waiting CLEAR there is discarded without an incident,
and the waiting one joins once a place frees (R155). That DIRECTIVE_FRAME
leaves the intake hold and the rate meter as they were is the model's choice (log entry 13). -/
def Obligations.OverrunFilter : Prop :=
  ∀ (s : State) (ch : Ch) (ones : Nat) (kind : BitVec 6) (target : Ch) (head : HeadNo)
    (payload : List Word), s.live ch = true → payload.length ≤ 31 →
    let e : Entry :=
      { kind := kind, target := target, head := head, payload := payload, source := ch }
    let heard := s.onChan ch fun c => { c with recv := { c.recv with hunt := .hunting 0 } }
    let answer := exec (.directiveFrame ch (frameSymbols 32 kind target head payload)) s
    ((s.chan ch).intake = .gap → (s.chan ch).recv.hunt = .hunting ones → s.overrun = true →
      (kind ≠ 7 → answer = .next heard) ∧
      (kind = 7 → 4 ≤ s.directives.length → (s.chan ch).recv.waitingClear = none →
        answer = .next (s.onChan ch fun c =>
          { c with recv := { hunt := .hunting 0, waitingClear := some e } })) ∧
      (kind = 7 → (s.chan ch).recv.waitingClear.isSome = true → answer = .next heard) ∧
      (kind = 7 → s.directives.length < 4 → (s.chan ch).recv.waitingClear = none →
        s.engine.isSome = true → answer = .next { heard with directives := s.directives ++ [e] })) ∧
    ((s.chan ch).recv.waitingClear = some e → s.directives.length < 4 → s.engine.isSome = true →
      exec (.waitingClearJoin ch) s = .next
        { (s.onChan ch fun c => { c with recv := { c.recv with waitingClear := none } }) with
          directives := s.directives ++ [e] })

/-- The words in which the controller carries a context, and a channel setup, are read back as they were
written, for every value their fields can carry (R164). -/
def Obligations.PayloadRoundTrip : Prop :=
  (∀ (x : Context) (kind : BitVec 6) (target source : Ch) (head : HeadNo),
    x.step ≤ 31 → x.dwell ≤ 63 → x.lead ≤ 1023 → x.readyTimeout ≤ 4095 → x.tail ≤ 255 →
    x.coldLead ≤ 4095 → x.leak ≤ 15 → x.releaseMark ≤ 65535 → x.holdMark ≤ 65535 →
    x.tripMark ≤ 65535 → x.ranges.length ≤ 2 → x.bands.length ≤ 7 →
    (∀ r ∈ x.ranges, r.lo ≤ 63 ∧ r.hi ≤ 63) →
    (∀ b ∈ x.bands, b.bound ≤ 4095 ∧ -128 ≤ b.adjust ∧ b.adjust ≤ 127) →
    let e : Entry :=
      { kind := kind, target := target, head := head, payload := x.words, source := source }
    contextOfPayload e = x ∧ countsMatch e = true) ∧
  (∀ (x : Setup) (kind : BitVec 6) (target source : Ch) (head : HeadNo),
    x.nominal ≤ 1048575 → x.tolerance ≤ 4095 → x.margin ≤ 4095 → x.parkDelay ≤ 65535 →
    x.faultMask ≤ 3 → x.priority ≤ 3 → x.headsCount ≤ 15 → x.deadTime ≤ 255 →
    x.holdLimit ≤ 65535 →
    setupOfPayload
      { kind := kind, target := target, head := head, payload := x.words, source := source } = x)

/-! ### The directive engine -/

/-- At the tick of application, the first of checks 1 to 6 that fails refuses the frame: every piece of state
stays as it was but for one DIRECTIVE_REFUSED with the reason, and the engine goes on to the next frame.
UNKNOWN_KIND always ends so (R156, R157). -/
def Obligations.DirectiveRefused : Prop :=
  ∀ (s : State) (e : Entry) (r : RefuseReason), s.applying = some e → s.firstRefusal e = some r →
    let reason := match r with
      | .unknownKind => 1
      | .length => 2
      | .channelAbsent => 3
      | .headRange => 4
      | .notBench => 5
      | .busy => 6
      | .payload => 7
      | .ceiling => 8
    exec (applicationOf e) s = .next (s.post (refusedFrame e reason)).nextFrame

/-- HEAD CONTEXT: refused as a whole for a length that does not fit its counts or a payload that R126 to R128
reject, and with either reason by a free choice when both hold (log entry 8); else clamped, with one
DIRECTIVE_CLAMPED if that changed a field, and written as the pending copy, which becomes the active copy at once,
and is evaluated, when no record of the head is queued. RELEASE CONTEXT: nothing for an unloaded context; else a
pending unload, carried out at once when no record of the head is queued (R118, R121, R126 to R132, R158). -/
def Obligations.Contexts : Prop :=
  ∀ (s : State) (e : Entry), s.applying = some e → s.firstRefusal e = none →
    (s.chan e.target).heads.length = 8 →
    let ch := e.target
    let old := (s.chan ch).headAt e.head
    let put (p : Pending) (t : State) : State := t.onChan ch fun c => c.setHead e.head { old with pending := p }
    (e.kind = 1 →
      let x := contextOfPayload e
      let n := (e.word 10).toNat / 256 % 4
      let m := (e.word 10).toNat % 8
      let fits : Prop := e.payload.length = 10 + n + 2 * m
      let sound : Prop := n ≤ 2 ∧ 1 ≤ m ∧ m ≤ 6 ∧ (∀ r ∈ x.ranges, 1 ≤ r.lo ∧ r.lo ≤ r.hi ∧ r.hi ≤ 62) ∧
        x.ranges.Pairwise (fun r q => r.hi < q.lo ∨ q.hi < r.lo) ∧
        (0 :: x.bands.map fun b => b.bound).Pairwise (fun a b => a < b) ∧
        (∀ b ∈ x.bands, b.code ≠ 0 ∧ belowRanges x.ranges b.code ≠ 0) ∧
        x.releaseMark < x.holdMark ∧ x.holdMark ≤ x.tripMark
      let y : Context :=
        { x with
          step := max 1 (min x.step 16), dwell := max 1 x.dwell, readyTimeout := max 1 x.readyTimeout
          leak := max 4 (min x.leak 12), bias := belowRanges x.ranges x.bias
          read := belowRanges x.ranges x.read
          bands := x.bands.map fun b => { b with code := belowRanges x.ranges b.code } }
      let told := if y = x then s else s.post
        { kind := .directiveClamped, ch := ch, head := some e.head, burst := none, detail := 1 }
      (fits → ¬ sound → exec .headContext s = .next (s.post (refusedFrame e 7)).nextFrame) ∧
      (¬ fits → sound → exec .headContext s = .next (s.post (refusedFrame e 2)).nextFrame) ∧
      (¬ fits → ¬ sound → ∃ t reason, (reason = 2 ∨ reason = 7) ∧ exec .headContext s = .next t ∧
        t = { (s.post (refusedFrame e reason)).nextFrame with freeCount := t.freeCount }) ∧
      (fits → sound → (s.chan ch).hasRecordOf e.head = true →
        exec .headContext s = .next (put (.copy y) told).nextFrame) ∧
      (fits → sound → (s.chan ch).hasRecordOf e.head = false → ∃ t, exec .headContext s = .next t ∧
        (t.chan ch).headAt e.head =
          { old with
            active := some y, pending := .none
            hold := if y.holdMark ≤ old.accum then true
              else if old.accum ≤ y.releaseMark then false else old.hold } ∧
        (∀ g, g ≠ e.head → (t.chan ch).headAt g = (s.chan ch).headAt g) ∧
        t.directives = s.directives.tail ∧
        ((s.chan ch).relay.selected ≠ some e.head → old.accum < y.tripMark →
          t = ((told.onChan ch fun c => { c with heads := (t.chan ch).heads }).nextFrame)))) ∧
    (e.kind = 2 →
      (old.active = none → exec .releaseContext s = .next s.nextFrame) ∧
      (old.active ≠ none → (s.chan ch).hasRecordOf e.head = true →
        exec .releaseContext s = .next (put .unload s).nextFrame) ∧
      (old.active ≠ none → (s.chan ch).hasRecordOf e.head = false →
        ∃ t, exec .releaseContext s = .next t ∧
          (t.chan ch).headAt e.head = { old with active := none, pending := .none, hold := false } ∧
          (∀ g, g ≠ e.head → (t.chan ch).headAt g = (s.chan ch).headAt g) ∧
          ((s.chan ch).relay.selected = some e.head → (t.chan ch).laser.code = 0)))

/-- The quiet directives, past their general checks and with no re-check due. LEVEL TABLE writes its entries to
consecutive codes from its first code on, GLOBAL SETUP its three fields, all at once; each is refused for its
payload, and by the arbiter when the used sum would stand above the ceiling; a sum or a landing that falls, or
a higher ceiling, calls for a re-check of a waiting request (R107, R112, R134, R137, R159). -/
def Obligations.QuietDirectives : Prop :=
  ∀ (s : State) (e : Entry), s.applying = some e → s.firstRefusal e = none → s.recheckDue = false →
    s.levels.length = 64 →
    let waiting := s.a.laser.want.isSome || s.b.laser.want.isSome
    (e.kind = 3 →
      let first := (e.word 1).toNat % 64
      let n := e.payload.length - 1
      let table := (List.range 64).map fun c =>
        if first ≤ c ∧ c < first + n then
          { current := (e.word (c - first + 2)).toNat / 256, weight := (e.word (c - first + 2)).toNat % 256 }
        else s.levels.getD c { current := 0, weight := 0 }
      let t := { s with levels := table }
      let cheaper := decide (t.used < s.used) ||
        [Ch.A, Ch.B].any fun ch => match (s.chan ch).laser.want with
          | some b => decide (t.current b < s.current b)
          | none => false
      (first = 0 ∨ 64 < first + n → exec .levelTable s = .next (s.post (refusedFrame e 7)).nextFrame) ∧
      (first ≠ 0 → first + n ≤ 64 → s.ceiling < t.used →
        exec .levelTable s = .next (s.post (refusedFrame e 8)).nextFrame) ∧
      (first ≠ 0 → first + n ≤ 64 → t.used ≤ s.ceiling →
        exec .levelTable s = .next { t with recheckDue := cheaper && waiting }.nextFrame)) ∧
    (e.kind = 5 →
      let c := (e.word 1).toNat % 1024
      (c = 0 → exec .globalSetup s = .next (s.post (refusedFrame e 7)).nextFrame) ∧
      (c ≠ 0 → c < s.used → exec .globalSetup s = .next (s.post (refusedFrame e 8)).nextFrame) ∧
      (c ≠ 0 → s.used ≤ c → exec .globalSetup s = .next
        { s with
          ceiling := c, reportDiv := BitVec.ofNat 8 ((e.word 2).toNat / 256)
          selectReg := BitVec.ofNat 7 ((e.word 2).toNat % 128)
          recheckDue := decide (s.ceiling < c) && waiting }.nextFrame))

/-- CHANNEL SETUP: refused with PAYLOAD for a field out of range, with BUSY for a heads count that would take the
selected head from queued records, with either by a free choice for both (log entry 8); else every field is written, a
park delay of 0 clears the park condition, and a selected head outside the new heads count gives way to none with the
code at 0 and HEAD_INVALID (R76, R78, R135, R136, R158). That a park delay of 0 also clears parkDue, the mark of a
comparison this heat tick has made, is the model's choice (log entry 16). -/
def Obligations.ChannelSetup : Prop :=
  ∀ (s : State) (e : Entry), s.applying = some e → s.firstRefusal e = none → e.kind = 4 →
    let ch := e.target
    let x := setupOfPayload e
    let sound : Prop := 1000 ≤ x.nominal ∧ x.nominal ≤ 1048575 ∧ 1 ≤ x.tolerance ∧ x.faultMask ≤ 2 ∧
      1 ≤ x.headsCount ∧ x.headsCount ≤ 8 ∧ 1 ≤ x.holdLimit
    let lost (h : HeadNo) : Prop := (s.chan ch).relay.selected = some h ∧ x.headsCount ≤ h.toNat
    let written := s.onChan ch fun c => { c with setup := x }
    (¬ sound → ((∀ h, ¬ lost h) ∨ (s.chan ch).queue = []) →
      exec .channelSetup s = .next (s.post (refusedFrame e 7)).nextFrame) ∧
    (¬ sound → (∃ h, lost h) → (s.chan ch).queue ≠ [] → ∃ reason, (reason = 6 ∨ reason = 7) ∧
      exec .channelSetup s = .next
        { (s.post (refusedFrame e reason)).nextFrame with freeCount := s.freeCount + 1 }) ∧
    (sound → (∃ h, lost h) → (s.chan ch).queue ≠ [] →
      exec .channelSetup s = .next (s.post (refusedFrame e 6)).nextFrame) ∧
    (sound → (∀ h, ¬ lost h) → x.parkDelay ≠ 0 → exec .channelSetup s = .next written.nextFrame) ∧
    (sound → (∀ h, ¬ lost h) → x.parkDelay = 0 → ∃ t, exec .channelSetup s = .next t ∧
      t.sansLaser = written.nextFrame.sansLaser ∧ (t.chan ch).laser.park = false ∧
      (t.chan ch).laser.parkDue = false ∧
      ((s.chan ch).laser.park = true → (t.chan ch).laser.target = t.firstTarget ch)) ∧
    ∀ h, sound → lost h → (s.chan ch).queue = [] → ∃ t, exec .channelSetup s = .next t ∧
      (t.chan ch).setup = x ∧ (t.chan ch).relay = { (s.chan ch).relay with selected := none } ∧
      (t.chan ch).laser.code = 0 ∧ (t.chan ch).laser.park = false ∧
      (t.chan ch).laser.target = t.firstTarget ch ∧ (t.chan ch).heads = (s.chan ch).heads ∧
      (t.chan ch).queue = [] ∧
      t.incidents = (s.post
        { kind := .headInvalid, ch := ch, head := some h, burst := none, detail := x.headsCount }).incidents

/-- A snapshot begins its frame at once when the transmitter is idle and when a frame ends with a report pending;
a REPORT during a frame sets the pending flag. A frame has 30 bytes and 8 for each incident, opens with 0xC3, the
sequence number and the flags, carries the twelve status bytes of each channel, counts its incidents, gives each in
eight bytes with the code and class of its kind, oldest first, and its check leaves the register at 0; no two
incidents share their eight bytes. On RPT a frame is 13 bit times low and 2 high,
then its bytes, each a start bit, eight data bits from the least significant on, and a stop bit; RPT is high when
idle and released while RSTN is low (R63, R101, R160, R164, R171, R172). -/
def Obligations.Reports : Prop :=
  (∀ (s : State) (e : Entry), s.applying = some e → s.firstRefusal e = none → e.kind = 6 →
    (s.sending = none → exec .report s = .next { s with
      sending := some
        { bytes := s.reportBytes, start := s.now, bitTime := 16 * (s.reportDiv.toNat + 1) }
      reportSeq := s.reportSeq + 1 }.nextFrame) ∧
    (s.sending.isSome = true → exec .report s = .next { s with reportPending := true }.nextFrame)) ∧
  (∀ (s : State) (f : Transmission), s.rstnLow = false → s.sending = some f →
    f.bitTime * (15 + 10 * f.bytes.length) ≤ (s.now - f.start).toNat →
    (s.reportPending = false → exec .reportFrameEnd s = .next { s with sending := none }) ∧
    (s.reportPending = true → exec .reportFrameEnd s = .next { s with
      reportPending := false
      sending := some
        { bytes := s.reportBytes, start := s.now, bitTime := 16 * (s.reportDiv.toNat + 1) }
      reportSeq := s.reportSeq + 1 })) ∧
  (∀ s : State,
    s.reportBytes.length = 30 + 8 * s.incidents.length ∧ s.reportBytes.getD 0 0 = 0xC3#8 ∧
      s.reportBytes.getD 1 0 = s.reportSeq ∧
      s.reportBytes.getD 2 0 = BitVec.ofNat 8 ((if s.overflow then 1 else 0) + (if s.overrun then 2 else 0)
        + (if s.straps.bench then 4 else 0) + (if s.straps.twoChannels then 8 else 0)) ∧
      s.reportBytes.getD 27 0 = BitVec.ofNat 8 s.incidents.length ∧
      crcSymbols 0xFFFF#16 ((s.reportBytes.drop 1).flatMap fun b =>
        [b.getLsbD 7, b.getLsbD 6, b.getLsbD 5, b.getLsbD 4, b.getLsbD 3, b.getLsbD 2, b.getLsbD 1,
          b.getLsbD 0]) = 0) ∧
  (∀ s : State,
    let big (n : Nat) : List Byte := [BitVec.ofNat 8 (n / 256), BitVec.ofNat 8 n]
    let bit (b : Bool) (v : Nat) : Nat := if b then v else 0
    let kind (k : Kind) : Nat × Nat :=
      match k with
      | .directiveBad => (1, 1)
      | .directiveCut => (1, 2)
      | .directiveOverrun => (1, 3)
      | .directiveRefused => (1, 4)
      | .directiveClamped => (1, 5)
      | .rateSlow => (1, 6)
      | .wedgeLost => (1, 7)
      | .headInvalid => (1, 8)
      | .refused => (2, 16)
      | .fenceCut => (2, 17)
      | .truncated => (2, 18)
      | .encroachment => (2, 19)
      | .delayOverflow => (2, 20)
      | .readyTimeout => (2, 21)
      | .headSwitchForced => (2, 22)
      | .thermalTrip => (3, 32)
      | .laserLost => (3, 33)
    let record (x : Stored) : List Byte :=
      let i := x.incident
      big x.number.toNat ++ [BitVec.ofNat 8 (kind i.kind).2,
        BitVec.ofNat 8 (64 * (kind i.kind).1 + bit i.burst.isSome 32 + bit (i.ch == .B) 16
          + bit i.head.isSome 8 + (match i.head with | some h => h.toNat | none => 0))]
      ++ big (match i.burst with | some n => n.toNat | none => 0) ++ big i.detail
    (s.reportBytes.drop 28).take (8 * s.incidents.length) = s.incidents.flatMap record) ∧
  (∀ x y : Stored, x.incident.detail ≤ 65535 → y.incident.detail ≤ 65535 → x.bytes = y.bytes → x = y) ∧
  (∀ (s : State) (ch : Ch),
    let c := s.chan ch
    let status := (s.reportBytes.drop (if ch = .A then 3 else 15)).take 12
    let big (n : Nat) : List Byte := [BitVec.ofNat 8 (n / 256), BitVec.ofNat 8 n]
    let bit (b : Bool) (v : Nat) : Nat := if b then v else 0
    let sel := c.relay.selected.map c.headAt
    let head := c.queue.head?
    (s.present ch = false → status = [0, 0, 0xFF, 0, 0, 0, 0, 0, 0, 0, 0, 0]) ∧
    (s.present ch = true → status =
      [((match s.seqState ch with
          | .parked => 0 | .idle => 1 | .reading => 2 | .ramp => 3 | .preheat => 4 | .writing => 5
          | .tail => 6 | .fenced => 7 | .forced => 8 | .lockout => 9) : Byte),
        (match c.wedge.lock with | .unlocked => 0 | .acquiring => 1 | .locked => 2 | .coasting => 3),
        (match c.relay.selected with | some h => BitVec.ofNat 8 h.toNat | none => 0xFF)]
      ++ big (if c.rate.valid = true then c.rate.p else 0) ++ [BitVec.ofNat 8 c.queue.length]
      ++ big c.line.length
      ++ big (bit c.rate.valid 1 + bit c.rate.slow 2 + bit c.wedge.fence 4 + bit c.laser.want.isSome 8
          + bit (sel.any fun h => h.hold) 16 + bit c.relay.slot.isSome 32 + bit (s.lockedOut ch) 64
          + bit c.laser.force.isSome 128
          + (match head.map fun r => r.state with
              | none => 0 | some .releasing => 512 | some .tail => 768 | some _ => 256)
          + bit (head.any fun r => r.bridged) 2048 + bit (head.any fun r => r.truncated) 4096 + 8192)
      ++ big (match sel with | some h => h.accum | none => 0))) ∧
  (∀ s : State, s.rstnLow = true → s.rpt = .released) ∧
  (∀ s : State, s.rstnLow = false → s.sending = none → s.rpt = .driven true) ∧
  ∀ (s : State) (f : Transmission), s.rstnLow = false → s.sending = some f →
    let k := (s.now - f.start).toNat / f.bitTime
    (k < 13 → s.rpt = .driven false) ∧
    (13 ≤ k → k < 15 → s.rpt = .driven true) ∧
    (∀ j b i, f.bytes[j]? = some b → i < 10 → k = 15 + 10 * j + i →
      s.rpt = .driven (if i = 0 then false else if i = 9 then true else b.getLsbD (i - 1))) ∧
    (15 + 10 * f.bytes.length ≤ k → s.rpt = .driven true)

/-- A CLEAR removes its count of the oldest incidents, stores a deferred one in a place it has freed, ends OVERRUN
and clears the overflow indicator of an emptied queue. A channel left with no class-3 incident leaves LOCKOUT
with LENx high and the park condition set, unless one of its heads is still at its trip watermark: then a fresh
THERMAL_TRIP keeps it there. DEFERRED_INCIDENT_STORE stores a channel's deferred incident where a place is free
(R82, R120, R155, R160, R166, R167, R170). -/
def Obligations.Clear : Prop :=
  (∀ (s : State) (e : Entry), s.applying = some e → s.firstRefusal e = none → e.kind = 7 →
    let rest := s.incidents.drop (e.word 1).toNat
    let removed := { s with incidents := rest, overrun := false, overflow := s.overflow && !rest.isEmpty }
    let stored (i : Incident) : State :=
      { s with
        incidents := rest ++ [{ number := s.nextIncident, incident := i }]
        nextIncident := s.nextIncident + 1, deferred := [], overrun := false }
    let freed (ch : Ch) : Prop := s.lockedOut ch = true ∧
      (∀ x ∈ rest, ¬ (x.incident.ch = ch ∧ x.incident.kind.cls = 3)) ∧
      ∀ d ∈ s.deferred, ¬ (d.incident.ch = ch ∧ d.incident.kind.cls = 3)
    (s.deferred = [] → (∀ ch, ¬ freed ch) → exec .clear s = .next removed.nextFrame) ∧
    (∀ d, s.deferred = [d] → rest.length < 16 → (∀ ch, ¬ freed ch) →
      exec .clear s = .next (stored d.incident).nextFrame) ∧
    (∀ ch, freed ch → s.live ch = true →
      (∀ (h : HeadNo) (x : Context), (s.chan ch).contextOf h = some x →
        ((s.chan ch).headAt h).accum < x.tripMark) →
      ∃ t, exec .clear s = .next t ∧ t.overrun = false ∧ t.lockedOut ch = false ∧ t.len ch = true ∧
        (t.chan ch).laser.park = true ∧ (t.chan ch).laser.target = t.firstTarget ch ∧
        (t.chan ch).sansLaser = (s.chan ch).sansLaser) ∧
    ∀ ch (h : HeadNo) x, freed ch → s.recheckDue = false → s.DeferredOk →
      (s.chan ch).contextOf h = some x → x.tripMark ≤ ((s.chan ch).headAt h).accum →
      ∃ t, exec .clear s = .next t ∧ t.overrun = false ∧ t.lockedOut ch = true ∧ t.chan ch = s.chan ch ∧
        (rest = [] → s.deferred = [] → ∃ k, ({ number := k, incident :=
          { kind := .thermalTrip, ch := ch, head := some h, burst := none
            detail := min 65535 ((s.chan ch).headAt h).accum } } : Stored) ∈ t.incidents)) ∧
  ∀ (s : State) (ch : Ch) (d : Deferred) (before after : List Deferred),
    s.deferred = before ++ d :: after → d.incident.ch = ch → (∀ x ∈ before, x.incident.ch ≠ ch) →
    s.incidents.length < 16 →
    exec (.deferredIncidentStore ch) s = .next
      { s with
        incidents := s.incidents ++ [{ number := s.nextIncident, incident := d.incident }]
        nextIncident := s.nextIncident + 1, deferred := before ++ after }

/-- CHANNEL RESET, with no promotion of the selected head waiting: every record and symbol of the channel is gone
with no incident, PWGx falls, the code is set directly to 0, and held there for one dwell if the target is another,
with no force and the park condition set, the wedge timer is UNLOCKED, and all else stays, the fence window by
filtered SGx alone (R13, R16, R58, R69, R85, R98, R103, R161; log entry 15). -/
def Obligations.ChannelReset : Prop :=
  ∀ (s : State) (e : Entry), s.applying = some e → s.firstRefusal e = none → e.kind = 8 →
    (s.chan e.target).selectedPending = none →
    (∀ x, (s.chan e.target).context = some x → 1 ≤ x.dwell) →
    ∃ t, exec .channelReset s = .next t ∧
      t.sansLaser = ((s.onChan e.target fun c =>
        { c with
          pwg := false, pwd := false, pwgFallDue := false
          pwgFall := if c.pwg then { tick := s.now, old := false } else c.pwgFall
          line := [], queue := [], intake := if c.intake = .storing then .discarding else c.intake
          wedge := { c.wedge with
            lock := .unlocked, good := 0, miss := 0, first := none
            fence := c.wedge.fence && c.sg.level } }).nextFrame).sansLaser ∧
      t.heldAtZero e.target ∧ (t.chan e.target).laser.force = none ∧
      (t.chan e.target).laser.park = true ∧ (t.chan e.target).laser.parkCount = 0 ∧
      (t.chan e.target).laser.target = t.firstTarget e.target

/-- FORCE LEVEL on a bench part: a code 0..63 is forced and clears the park condition, 0xFFFF ends the force, and
any other value is refused; the target is recomputed and the code meets it, and beside the lasers nothing else
changes (R64 to R67, R83, R84, R162; log entry 30). -/
def Obligations.Forcing : Prop :=
  ∀ (s : State) (e : Entry), s.applying = some e → s.firstRefusal e = none → e.kind = 9 →
    let ch := e.target
    let w := (e.word 1).toNat
    (w ≤ 63 → ∃ t, exec .forceLevel s = .next t ∧ t.sansLaser = s.nextFrame.sansLaser ∧
      (t.chan ch).laser.force = some (BitVec.ofNat 6 w) ∧ (t.chan ch).laser.park = false ∧
      (t.chan ch).laser.target = t.firstTarget ch ∧ (s.recheckDue = false → s.meetsTarget t ch) ∧
      (t.lockedOut ch = false →
        (t.chan ch).laser.target = belowRanges (t.chan ch).ranges (BitVec.ofNat 6 w))) ∧
    (64 ≤ w → w ≤ 65534 → exec .forceLevel s = .next (s.post (refusedFrame e 7)).nextFrame) ∧
    (w = 65535 → ∃ t, exec .forceEnd s = .next t ∧ t.sansLaser = s.nextFrame.sansLaser ∧
      (t.chan ch).laser.force = none ∧ (t.chan ch).laser.park = (s.chan ch).laser.park ∧
      (t.chan ch).laser.target = t.firstTarget ch ∧ (s.recheckDue = false → s.meetsTarget t ch))

/-! ### The device's laws -/

/-- The law of the incident queue: never more than 16 records, their sequence numbers consecutive, oldest first;
and the deferred incidents stay of class 3, at most one for each channel (R166, R167). -/
def Obligations.IncidentLaw : Prop :=
  ∀ s t : State, s.IncidentsOk → s.DeferredOk → step s = .next t → t.IncidentsOk ∧ t.DeferredOk

/-- The law of lockout: while a channel is in LOCKOUT its laser code is 0, LEN is low and its burst queue is
empty (R81). -/
def Obligations.LockoutLaw : Prop :=
  ∀ s t : State, (∀ ch, s.LockoutOk ch) → step s = .next t → ∀ ch, t.LockoutOk ch

/-- The delay line holds at most 4,096 symbols, the runs of the queued records in queue order, and the counts of
each record add up; the queue holds at most 8 records of the selected head, the head record and it alone outside
QUEUED, no input open but the newest (R11, R36, R42). -/
def Obligations.BurstQueueLaw : Prop :=
  ∀ s t : State,
    (∀ ch, (s.chan ch).LineOk ∧ (∀ r ∈ (s.chan ch).queue, r.CountsOk) ∧ (s.chan ch).QueueOk ∧
      (s.chan ch).OneHead) →
    step s = .next t →
    ∀ ch, (t.chan ch).LineOk ∧ (∀ r ∈ (t.chan ch).queue, r.CountsOk) ∧ (t.chan ch).QueueOk ∧
      (t.chan ch).OneHead

/-- PRGx is never high with PWGx, and no write reaches the preamplifier while filtered SGx is high: the window is
open and PWGx low. The premise on the queue is the BurstQueueLaw's (R7, R54). That PRGx stays low while a record is
RELEASING before its first symbol is the model's reading (log entry 10). -/
def Obligations.GateLaw : Prop :=
  ∀ s t : State,
    (∀ ch, (s.chan ch).QueueOk ∧ (s.chan ch).ServoOk ∧ (s.chan ch).PairOk) → step s = .next t →
    ∀ ch, (t.chan ch).ServoOk ∧ (t.chan ch).PairOk

/-- The law of forcing: a force is present only if the bench strap was high at the most recent reset release. The
law of the accumulators: eight of each channel within 0..65,535, which only a heat tick and power-on change (R84,
R115, R124). -/
def Obligations.ForceAndHeatLaw : Prop :=
  (∀ s t : State, (∀ ch, s.ForceOk ch ∧ (s.chan ch).HeatOk) → step s = .next t →
    ∀ ch, t.ForceOk ch ∧ (t.chan ch).HeatOk) ∧
  ∀ (c : Instr) (s t : State) (ch : Ch), c ≠ .heatTick → (∀ r x y, c ≠ .powerOn r x y) →
    exec c s = .next t →
    ((t.chan ch).heads.map fun h => h.accum) = (s.chan ch).heads.map fun h => h.accum

/-- The law of the code and the ranges: the present code never lies inside a forbidden range of the selected
head's context, nor do the target and the landing of a waiting request. The premise on the queue is the
BurstQueueLaw's (R79). -/
def Obligations.RangesLaw : Prop :=
  ∀ s t : State, (∀ ch, (s.chan ch).OneHead ∧ (s.chan ch).RangesOk) → step s = .next t →
    ∀ ch, (t.chan ch).RangesOk

/-- The law of the supply: the used sum stays within the ceiling, for a level table that does not fall from a code
to a higher one. The manual states the law for every table, and lets a down step be taken without a test; a
table that falls breaks the first by the second (R27, R104; log entry 20). -/
def Obligations.SupplyLaw : Prop :=
  ∀ s t : State, s.LevelsRise → s.SupplyOk → step s = .next t → t.SupplyOk

/-- The law of the contexts: the active copy of a head's context never changes while a record of that head is in
its channel's queue (R132). -/
def Obligations.ContextLaw : Prop :=
  ∀ (s t : State) (ch : Ch) (h : HeadNo), step s = .next t → (s.chan ch).hasRecordOf h = true →
    (t.chan ch).hasRecordOf h = true → (t.chan ch).contextOf h = (s.chan ch).contextOf h

/-- The state after power-on meets every law (R15, R60, R85, R104, R124, R138, R173). -/
def Obligations.ResetMeetsTheLaws : Prop :=
  let s := State.reset
  s.IncidentsOk ∧ s.DeferredOk ∧ s.LevelsRise ∧ s.SupplyOk ∧
    ∀ ch, s.LockoutOk ch ∧ (s.chan ch).LineOk ∧ (∀ r ∈ (s.chan ch).queue, r.CountsOk) ∧
      (s.chan ch).QueueOk ∧ (s.chan ch).OneHead ∧ (s.chan ch).ServoOk ∧ (s.chan ch).PairOk ∧
      s.ForceOk ch ∧ (s.chan ch).HeatOk ∧ (s.chan ch).RangesOk
end

