-- ==== Sys2Proof/Laws/State.lean ====
section
/-! SUPPORT. Field lemmas of State: what replacing a channel, or a shared field, leaves as it was. -/

namespace Sys2Proof.Machine

/-! ### Replacing a channel -/

@[simp] theorem chan_setChan (s : State) (ch : Ch) (c : Channel) : (s.setChan ch c).chan ch = c := by
  cases ch <;> rfl

@[simp] theorem chan_setChan_other (s : State) (ch : Ch) (c : Channel) :
    (s.setChan ch c).chan (otherCh ch) = s.chan (otherCh ch) := by
  cases ch <;> rfl

@[simp] theorem chan_onChan (s : State) (ch : Ch) (f : Channel → Channel) :
    (s.onChan ch f).chan ch = f (s.chan ch) := by
  cases ch <;> rfl

@[simp] theorem chan_onChan_other (s : State) (ch : Ch) (f : Channel → Channel) :
    (s.onChan ch f).chan (otherCh ch) = s.chan (otherCh ch) := by
  cases ch <;> rfl

@[simp] theorem setChan_chan (s : State) (ch : Ch) : s.setChan ch (s.chan ch) = s := by
  cases ch <;> rfl

@[simp] theorem onChan_onChan (s : State) (ch : Ch) (f g : Channel → Channel) :
    (s.onChan ch f).onChan ch g = s.onChan ch fun c => g (f c) := by
  cases ch <;> rfl

theorem onChan_congr (s : State) (ch : Ch) {f g : Channel → Channel} (h : f (s.chan ch) = g (s.chan ch)) :
    s.onChan ch f = s.onChan ch g := by
  simp [State.onChan, h]

@[simp] theorem otherCh_otherCh (ch : Ch) : otherCh (otherCh ch) = ch := by
  cases ch <;> rfl

/-- Every channel is the one named or the other. -/
theorem ch_cases (ch x : Ch) : x = ch ∨ x = otherCh ch := by
  cases ch <;> cases x <;> decide

@[simp] theorem setChan_pending (s : State) (ch : Ch) (c : Channel) : (s.setChan ch c).pending = s.pending := by
  cases ch <;> rfl

@[simp] theorem onChan_pending (s : State) (ch : Ch) (f : Channel → Channel) : (s.onChan ch f).pending = s.pending := by
  cases ch <;> rfl

@[simp] theorem setChan_now (s : State) (ch : Ch) (c : Channel) : (s.setChan ch c).now = s.now := by
  cases ch <;> rfl

@[simp] theorem onChan_now (s : State) (ch : Ch) (f : Channel → Channel) : (s.onChan ch f).now = s.now := by
  cases ch <;> rfl

@[simp] theorem setChan_heatTaken (s : State) (ch : Ch) (c : Channel) : (s.setChan ch c).heatTaken = s.heatTaken := by
  cases ch <;> rfl

@[simp] theorem onChan_heatTaken (s : State) (ch : Ch) (f : Channel → Channel) : (s.onChan ch f).heatTaken = s.heatTaken := by
  cases ch <;> rfl

@[simp] theorem setChan_rstnLow (s : State) (ch : Ch) (c : Channel) : (s.setChan ch c).rstnLow = s.rstnLow := by
  cases ch <;> rfl

@[simp] theorem onChan_rstnLow (s : State) (ch : Ch) (f : Channel → Channel) : (s.onChan ch f).rstnLow = s.rstnLow := by
  cases ch <;> rfl

@[simp] theorem setChan_straps (s : State) (ch : Ch) (c : Channel) : (s.setChan ch c).straps = s.straps := by
  cases ch <;> rfl

@[simp] theorem onChan_straps (s : State) (ch : Ch) (f : Channel → Channel) : (s.onChan ch f).straps = s.straps := by
  cases ch <;> rfl

@[simp] theorem setChan_levels (s : State) (ch : Ch) (c : Channel) : (s.setChan ch c).levels = s.levels := by
  cases ch <;> rfl

@[simp] theorem onChan_levels (s : State) (ch : Ch) (f : Channel → Channel) : (s.onChan ch f).levels = s.levels := by
  cases ch <;> rfl

@[simp] theorem setChan_ceiling (s : State) (ch : Ch) (c : Channel) : (s.setChan ch c).ceiling = s.ceiling := by
  cases ch <;> rfl

@[simp] theorem onChan_ceiling (s : State) (ch : Ch) (f : Channel → Channel) : (s.onChan ch f).ceiling = s.ceiling := by
  cases ch <;> rfl

@[simp] theorem setChan_reportDiv (s : State) (ch : Ch) (c : Channel) : (s.setChan ch c).reportDiv = s.reportDiv := by
  cases ch <;> rfl

@[simp] theorem onChan_reportDiv (s : State) (ch : Ch) (f : Channel → Channel) : (s.onChan ch f).reportDiv = s.reportDiv := by
  cases ch <;> rfl

@[simp] theorem setChan_selectReg (s : State) (ch : Ch) (c : Channel) : (s.setChan ch c).selectReg = s.selectReg := by
  cases ch <;> rfl

@[simp] theorem onChan_selectReg (s : State) (ch : Ch) (f : Channel → Channel) : (s.onChan ch f).selectReg = s.selectReg := by
  cases ch <;> rfl

@[simp] theorem setChan_loser (s : State) (ch : Ch) (c : Channel) : (s.setChan ch c).loser = s.loser := by
  cases ch <;> rfl

@[simp] theorem onChan_loser (s : State) (ch : Ch) (f : Channel → Channel) : (s.onChan ch f).loser = s.loser := by
  cases ch <;> rfl

@[simp] theorem setChan_recheckDue (s : State) (ch : Ch) (c : Channel) : (s.setChan ch c).recheckDue = s.recheckDue := by
  cases ch <;> rfl

@[simp] theorem onChan_recheckDue (s : State) (ch : Ch) (f : Channel → Channel) : (s.onChan ch f).recheckDue = s.recheckDue := by
  cases ch <;> rfl

@[simp] theorem setChan_directives (s : State) (ch : Ch) (c : Channel) : (s.setChan ch c).directives = s.directives := by
  cases ch <;> rfl

@[simp] theorem onChan_directives (s : State) (ch : Ch) (f : Channel → Channel) : (s.onChan ch f).directives = s.directives := by
  cases ch <;> rfl

@[simp] theorem setChan_overrun (s : State) (ch : Ch) (c : Channel) : (s.setChan ch c).overrun = s.overrun := by
  cases ch <;> rfl

@[simp] theorem onChan_overrun (s : State) (ch : Ch) (f : Channel → Channel) : (s.onChan ch f).overrun = s.overrun := by
  cases ch <;> rfl

@[simp] theorem setChan_engine (s : State) (ch : Ch) (c : Channel) : (s.setChan ch c).engine = s.engine := by
  cases ch <;> rfl

@[simp] theorem onChan_engine (s : State) (ch : Ch) (f : Channel → Channel) : (s.onChan ch f).engine = s.engine := by
  cases ch <;> rfl

@[simp] theorem setChan_incidents (s : State) (ch : Ch) (c : Channel) : (s.setChan ch c).incidents = s.incidents := by
  cases ch <;> rfl

@[simp] theorem onChan_incidents (s : State) (ch : Ch) (f : Channel → Channel) : (s.onChan ch f).incidents = s.incidents := by
  cases ch <;> rfl

@[simp] theorem setChan_nextIncident (s : State) (ch : Ch) (c : Channel) : (s.setChan ch c).nextIncident = s.nextIncident := by
  cases ch <;> rfl

@[simp] theorem onChan_nextIncident (s : State) (ch : Ch) (f : Channel → Channel) : (s.onChan ch f).nextIncident = s.nextIncident := by
  cases ch <;> rfl

@[simp] theorem setChan_overflow (s : State) (ch : Ch) (c : Channel) : (s.setChan ch c).overflow = s.overflow := by
  cases ch <;> rfl

@[simp] theorem onChan_overflow (s : State) (ch : Ch) (f : Channel → Channel) : (s.onChan ch f).overflow = s.overflow := by
  cases ch <;> rfl

@[simp] theorem setChan_deferred (s : State) (ch : Ch) (c : Channel) : (s.setChan ch c).deferred = s.deferred := by
  cases ch <;> rfl

@[simp] theorem onChan_deferred (s : State) (ch : Ch) (f : Channel → Channel) : (s.onChan ch f).deferred = s.deferred := by
  cases ch <;> rfl

@[simp] theorem setChan_reportSeq (s : State) (ch : Ch) (c : Channel) : (s.setChan ch c).reportSeq = s.reportSeq := by
  cases ch <;> rfl

@[simp] theorem onChan_reportSeq (s : State) (ch : Ch) (f : Channel → Channel) : (s.onChan ch f).reportSeq = s.reportSeq := by
  cases ch <;> rfl

@[simp] theorem setChan_sending (s : State) (ch : Ch) (c : Channel) : (s.setChan ch c).sending = s.sending := by
  cases ch <;> rfl

@[simp] theorem onChan_sending (s : State) (ch : Ch) (f : Channel → Channel) : (s.onChan ch f).sending = s.sending := by
  cases ch <;> rfl

@[simp] theorem setChan_reportPending (s : State) (ch : Ch) (c : Channel) : (s.setChan ch c).reportPending = s.reportPending := by
  cases ch <;> rfl

@[simp] theorem onChan_reportPending (s : State) (ch : Ch) (f : Channel → Channel) : (s.onChan ch f).reportPending = s.reportPending := by
  cases ch <;> rfl

@[simp] theorem setChan_freeCount (s : State) (ch : Ch) (c : Channel) : (s.setChan ch c).freeCount = s.freeCount := by
  cases ch <;> rfl

@[simp] theorem onChan_freeCount (s : State) (ch : Ch) (f : Channel → Channel) : (s.onChan ch f).freeCount = s.freeCount := by
  cases ch <;> rfl

/-! ### Changing a shared field leaves the channels -/

theorem chan_congr {s t : State} (ha : t.a = s.a) (hb : t.b = s.b) (ch : Ch) : t.chan ch = s.chan ch := by
  cases ch
  · exact ha
  · exact hb

@[simp] theorem chan_with_pending (s : State) (v) (ch : Ch) : ({ s with pending := v } : State).chan ch = s.chan ch := by
  cases ch <;> rfl

@[simp] theorem chan_with_now (s : State) (v) (ch : Ch) : ({ s with now := v } : State).chan ch = s.chan ch := by
  cases ch <;> rfl

@[simp] theorem chan_with_heatTaken (s : State) (v) (ch : Ch) : ({ s with heatTaken := v } : State).chan ch = s.chan ch := by
  cases ch <;> rfl

@[simp] theorem chan_with_rstnLow (s : State) (v) (ch : Ch) : ({ s with rstnLow := v } : State).chan ch = s.chan ch := by
  cases ch <;> rfl

@[simp] theorem chan_with_straps (s : State) (v) (ch : Ch) : ({ s with straps := v } : State).chan ch = s.chan ch := by
  cases ch <;> rfl

@[simp] theorem chan_with_levels (s : State) (v) (ch : Ch) : ({ s with levels := v } : State).chan ch = s.chan ch := by
  cases ch <;> rfl

@[simp] theorem chan_with_ceiling (s : State) (v) (ch : Ch) : ({ s with ceiling := v } : State).chan ch = s.chan ch := by
  cases ch <;> rfl

@[simp] theorem chan_with_reportDiv (s : State) (v) (ch : Ch) : ({ s with reportDiv := v } : State).chan ch = s.chan ch := by
  cases ch <;> rfl

@[simp] theorem chan_with_selectReg (s : State) (v) (ch : Ch) : ({ s with selectReg := v } : State).chan ch = s.chan ch := by
  cases ch <;> rfl

@[simp] theorem chan_with_loser (s : State) (v) (ch : Ch) : ({ s with loser := v } : State).chan ch = s.chan ch := by
  cases ch <;> rfl

@[simp] theorem chan_with_recheckDue (s : State) (v) (ch : Ch) : ({ s with recheckDue := v } : State).chan ch = s.chan ch := by
  cases ch <;> rfl

@[simp] theorem chan_with_directives (s : State) (v) (ch : Ch) : ({ s with directives := v } : State).chan ch = s.chan ch := by
  cases ch <;> rfl

@[simp] theorem chan_with_overrun (s : State) (v) (ch : Ch) : ({ s with overrun := v } : State).chan ch = s.chan ch := by
  cases ch <;> rfl

@[simp] theorem chan_with_engine (s : State) (v) (ch : Ch) : ({ s with engine := v } : State).chan ch = s.chan ch := by
  cases ch <;> rfl

@[simp] theorem chan_with_incidents (s : State) (v) (ch : Ch) : ({ s with incidents := v } : State).chan ch = s.chan ch := by
  cases ch <;> rfl

@[simp] theorem chan_with_nextIncident (s : State) (v) (ch : Ch) : ({ s with nextIncident := v } : State).chan ch = s.chan ch := by
  cases ch <;> rfl

@[simp] theorem chan_with_overflow (s : State) (v) (ch : Ch) : ({ s with overflow := v } : State).chan ch = s.chan ch := by
  cases ch <;> rfl

@[simp] theorem chan_with_deferred (s : State) (v) (ch : Ch) : ({ s with deferred := v } : State).chan ch = s.chan ch := by
  cases ch <;> rfl

@[simp] theorem chan_with_reportSeq (s : State) (v) (ch : Ch) : ({ s with reportSeq := v } : State).chan ch = s.chan ch := by
  cases ch <;> rfl

@[simp] theorem chan_with_sending (s : State) (v) (ch : Ch) : ({ s with sending := v } : State).chan ch = s.chan ch := by
  cases ch <;> rfl

@[simp] theorem chan_with_reportPending (s : State) (v) (ch : Ch) : ({ s with reportPending := v } : State).chan ch = s.chan ch := by
  cases ch <;> rfl

@[simp] theorem chan_with_freeCount (s : State) (v) (ch : Ch) : ({ s with freeCount := v } : State).chan ch = s.chan ch := by
  cases ch <;> rfl

@[simp] theorem chan_freed (s : State) (ch : Ch) : s.freed.chan ch = s.chan ch := by
  cases ch <;> rfl

@[simp] theorem chan_chosen (s : State) (ch : Ch) : s.chosen.chan ch = s.chan ch := by
  cases ch <;> rfl

/-! ### The view without the lasers -/

/-- Two states with the same view agree outside the lasers: the channels' other fields. -/
theorem sansLaser_chan {s t : State} (h : t.sansLaser = s.sansLaser) (ch : Ch) :
    (t.chan ch).sansLaser = (s.chan ch).sansLaser := by
  cases ch
  · exact congrArg State.a h
  · exact congrArg State.b h

@[simp] theorem sansLaser_sansLaser (s : State) : s.sansLaser.sansLaser = s.sansLaser := rfl

/-- A change of a laser leaves the view. -/
theorem onChan_laser_sansLaser (s : State) (ch : Ch) (f : Channel → Channel)
    (h : ∀ c, (f c).sansLaser = c.sansLaser) : (s.onChan ch f).sansLaser = s.sansLaser := by
  cases ch <;> simp only [State.onChan, State.setChan, State.chan, State.sansLaser, h]

theorem freed_sansLaser (s : State) : s.freed.sansLaser = s.sansLaser := rfl

/-! ### What two states with the same view share -/

theorem sansLaser_pending {s t : State} (h : t.sansLaser = s.sansLaser) : t.pending = s.pending :=
  (congrArg State.pending h :)

theorem sansLaser_now {s t : State} (h : t.sansLaser = s.sansLaser) : t.now = s.now :=
  (congrArg State.now h :)

theorem sansLaser_heatTaken {s t : State} (h : t.sansLaser = s.sansLaser) : t.heatTaken = s.heatTaken :=
  (congrArg State.heatTaken h :)

theorem sansLaser_rstnLow {s t : State} (h : t.sansLaser = s.sansLaser) : t.rstnLow = s.rstnLow :=
  (congrArg State.rstnLow h :)

theorem sansLaser_straps {s t : State} (h : t.sansLaser = s.sansLaser) : t.straps = s.straps :=
  (congrArg State.straps h :)

theorem sansLaser_levels {s t : State} (h : t.sansLaser = s.sansLaser) : t.levels = s.levels :=
  (congrArg State.levels h :)

theorem sansLaser_ceiling {s t : State} (h : t.sansLaser = s.sansLaser) : t.ceiling = s.ceiling :=
  (congrArg State.ceiling h :)

theorem sansLaser_reportDiv {s t : State} (h : t.sansLaser = s.sansLaser) : t.reportDiv = s.reportDiv :=
  (congrArg State.reportDiv h :)

theorem sansLaser_selectReg {s t : State} (h : t.sansLaser = s.sansLaser) : t.selectReg = s.selectReg :=
  (congrArg State.selectReg h :)

theorem sansLaser_directives {s t : State} (h : t.sansLaser = s.sansLaser) : t.directives = s.directives :=
  (congrArg State.directives h :)

theorem sansLaser_overrun {s t : State} (h : t.sansLaser = s.sansLaser) : t.overrun = s.overrun :=
  (congrArg State.overrun h :)

theorem sansLaser_engine {s t : State} (h : t.sansLaser = s.sansLaser) : t.engine = s.engine :=
  (congrArg State.engine h :)

theorem sansLaser_incidents {s t : State} (h : t.sansLaser = s.sansLaser) : t.incidents = s.incidents :=
  (congrArg State.incidents h :)

theorem sansLaser_nextIncident {s t : State} (h : t.sansLaser = s.sansLaser) : t.nextIncident = s.nextIncident :=
  (congrArg State.nextIncident h :)

theorem sansLaser_overflow {s t : State} (h : t.sansLaser = s.sansLaser) : t.overflow = s.overflow :=
  (congrArg State.overflow h :)

theorem sansLaser_deferred {s t : State} (h : t.sansLaser = s.sansLaser) : t.deferred = s.deferred :=
  (congrArg State.deferred h :)

theorem sansLaser_reportSeq {s t : State} (h : t.sansLaser = s.sansLaser) : t.reportSeq = s.reportSeq :=
  (congrArg State.reportSeq h :)

theorem sansLaser_sending {s t : State} (h : t.sansLaser = s.sansLaser) : t.sending = s.sending :=
  (congrArg State.sending h :)

theorem sansLaser_reportPending {s t : State} (h : t.sansLaser = s.sansLaser) : t.reportPending = s.reportPending :=
  (congrArg State.reportPending h :)

theorem sansLaser_freeCount {s t : State} (h : t.sansLaser = s.sansLaser) : t.freeCount = s.freeCount :=
  (congrArg State.freeCount h :)

theorem sansLaser_chan_lrdy {s t : State} (h : t.sansLaser = s.sansLaser) (ch : Ch) :
    (t.chan ch).lrdy = (s.chan ch).lrdy :=
  (congrArg Channel.lrdy (sansLaser_chan h ch) :)

theorem sansLaser_chan_pfi {s t : State} (h : t.sansLaser = s.sansLaser) (ch : Ch) :
    (t.chan ch).pfi = (s.chan ch).pfi :=
  (congrArg Channel.pfi (sansLaser_chan h ch) :)

theorem sansLaser_chan_lks {s t : State} (h : t.sansLaser = s.sansLaser) (ch : Ch) :
    (t.chan ch).lks = (s.chan ch).lks :=
  (congrArg Channel.lks (sansLaser_chan h ch) :)

theorem sansLaser_chan_wg {s t : State} (h : t.sansLaser = s.sansLaser) (ch : Ch) :
    (t.chan ch).wg = (s.chan ch).wg :=
  (congrArg Channel.wg (sansLaser_chan h ch) :)

theorem sansLaser_chan_sg {s t : State} (h : t.sansLaser = s.sansLaser) (ch : Ch) :
    (t.chan ch).sg = (s.chan ch).sg :=
  (congrArg Channel.sg (sansLaser_chan h ch) :)

theorem sansLaser_chan_rg {s t : State} (h : t.sansLaser = s.sansLaser) (ch : Ch) :
    (t.chan ch).rg = (s.chan ch).rg :=
  (congrArg Channel.rg (sansLaser_chan h ch) :)

theorem sansLaser_chan_hold {s t : State} (h : t.sansLaser = s.sansLaser) (ch : Ch) :
    (t.chan ch).hold = (s.chan ch).hold :=
  (congrArg Channel.hold (sansLaser_chan h ch) :)

theorem sansLaser_chan_intake {s t : State} (h : t.sansLaser = s.sansLaser) (ch : Ch) :
    (t.chan ch).intake = (s.chan ch).intake :=
  (congrArg Channel.intake (sansLaser_chan h ch) :)

theorem sansLaser_chan_releaseTaken {s t : State} (h : t.sansLaser = s.sansLaser) (ch : Ch) :
    (t.chan ch).releaseTaken = (s.chan ch).releaseTaken :=
  (congrArg Channel.releaseTaken (sansLaser_chan h ch) :)

theorem sansLaser_chan_pwd {s t : State} (h : t.sansLaser = s.sansLaser) (ch : Ch) :
    (t.chan ch).pwd = (s.chan ch).pwd :=
  (congrArg Channel.pwd (sansLaser_chan h ch) :)

theorem sansLaser_chan_pwg {s t : State} (h : t.sansLaser = s.sansLaser) (ch : Ch) :
    (t.chan ch).pwg = (s.chan ch).pwg :=
  (congrArg Channel.pwg (sansLaser_chan h ch) :)

theorem sansLaser_chan_pwgFallDue {s t : State} (h : t.sansLaser = s.sansLaser) (ch : Ch) :
    (t.chan ch).pwgFallDue = (s.chan ch).pwgFallDue :=
  (congrArg Channel.pwgFallDue (sansLaser_chan h ch) :)

theorem sansLaser_chan_prg {s t : State} (h : t.sansLaser = s.sansLaser) (ch : Ch) :
    (t.chan ch).prg = (s.chan ch).prg :=
  (congrArg Channel.prg (sansLaser_chan h ch) :)

theorem sansLaser_chan_pwgFall {s t : State} (h : t.sansLaser = s.sansLaser) (ch : Ch) :
    (t.chan ch).pwgFall = (s.chan ch).pwgFall :=
  (congrArg Channel.pwgFall (sansLaser_chan h ch) :)

theorem sansLaser_chan_line {s t : State} (h : t.sansLaser = s.sansLaser) (ch : Ch) :
    (t.chan ch).line = (s.chan ch).line :=
  (congrArg Channel.line (sansLaser_chan h ch) :)

theorem sansLaser_chan_rate {s t : State} (h : t.sansLaser = s.sansLaser) (ch : Ch) :
    (t.chan ch).rate = (s.chan ch).rate :=
  (congrArg Channel.rate (sansLaser_chan h ch) :)

theorem sansLaser_chan_queue {s t : State} (h : t.sansLaser = s.sansLaser) (ch : Ch) :
    (t.chan ch).queue = (s.chan ch).queue :=
  (congrArg Channel.queue (sansLaser_chan h ch) :)

theorem sansLaser_chan_nextSeq {s t : State} (h : t.sansLaser = s.sansLaser) (ch : Ch) :
    (t.chan ch).nextSeq = (s.chan ch).nextSeq :=
  (congrArg Channel.nextSeq (sansLaser_chan h ch) :)

theorem sansLaser_chan_wedge {s t : State} (h : t.sansLaser = s.sansLaser) (ch : Ch) :
    (t.chan ch).wedge = (s.chan ch).wedge :=
  (congrArg Channel.wedge (sansLaser_chan h ch) :)

theorem sansLaser_chan_relay {s t : State} (h : t.sansLaser = s.sansLaser) (ch : Ch) :
    (t.chan ch).relay = (s.chan ch).relay :=
  (congrArg Channel.relay (sansLaser_chan h ch) :)

theorem sansLaser_chan_recv {s t : State} (h : t.sansLaser = s.sansLaser) (ch : Ch) :
    (t.chan ch).recv = (s.chan ch).recv :=
  (congrArg Channel.recv (sansLaser_chan h ch) :)

theorem sansLaser_chan_setup {s t : State} (h : t.sansLaser = s.sansLaser) (ch : Ch) :
    (t.chan ch).setup = (s.chan ch).setup :=
  (congrArg Channel.setup (sansLaser_chan h ch) :)

theorem sansLaser_chan_heads {s t : State} (h : t.sansLaser = s.sansLaser) (ch : Ch) :
    (t.chan ch).heads = (s.chan ch).heads :=
  (congrArg Channel.heads (sansLaser_chan h ch) :)

end Sys2Proof.Machine
end

