-- ==== Sys2Proof/Laws/Ops.lean ====
section
/-! SUPPORT. What each shared operation of Machine/Ops.lean can do, said once. -/

namespace Sys2Proof.Machine

/-! ### Incidents (R166, R167) -/

/-- What the arrival of an incident can do: it is stored and numbered, deferred, or lost (R166, R167). -/
theorem post_cases (s : State) (i : Incident) :
    (s.incidents.length < 16 ∧
      s.post i = { s with
        incidents := s.incidents ++ [{ number := s.nextIncident, incident := i }]
        nextIncident := s.nextIncident + 1 }) ∨
    (16 ≤ s.incidents.length ∧ i.kind.cls = 3 ∧
      (s.deferred.any fun d => d.incident.ch == i.ch) = false ∧
      s.post i = { s with
        overflow := true
        deferred := s.deferred ++
          [{ incident := i, fresh := true, tied := s.deferred.any fun d => d.fresh }] }) ∨
    (16 ≤ s.incidents.length ∧
      (i.kind.cls = 3 → (s.deferred.any fun d => d.incident.ch == i.ch) = true) ∧
      s.post i = { s with overflow := true }) := by
  by_cases h : s.incidents.length < 16
  · exact .inl ⟨h, by simp [State.post, h]⟩
  · refine .inr ?_
    by_cases h3 : i.kind.cls = 3
    · cases hd : (s.deferred.any fun d => d.incident.ch == i.ch)
      · exact .inl ⟨by omega, h3, rfl, by simp [State.post, h, h3, hd]⟩
      · exact .inr ⟨by omega, fun _ => rfl, by simp [State.post, h, h3, hd]⟩
    · exact .inr ⟨by omega, fun x => absurd x h3, by simp [State.post, h, h3]⟩

@[simp] theorem chan_post (s : State) (i : Incident) (ch : Ch) : (s.post i).chan ch = s.chan ch := by
  apply chan_congr <;> rcases post_cases s i with ⟨-, h⟩ | ⟨-, -, -, h⟩ | ⟨-, -, h⟩ <;> rw [h]

@[simp] theorem chan_postAll (is : List Incident) (s : State) (ch : Ch) :
    (s.postAll is).chan ch = s.chan ch := by
  unfold State.postAll
  induction is generalizing s with
  | nil => rfl
  | cons i is ih => simp [List.foldl_cons, ih]

/-- The queue of incidents never grows past 16 (R166). -/
theorem post_length (s : State) (i : Incident) (h : s.incidents.length ≤ 16) :
    (s.post i).incidents.length ≤ 16 := by
  rcases post_cases s i with ⟨h', e⟩ | ⟨-, -, -, e⟩ | ⟨-, -, e⟩ <;> simp [e] <;> omega

/-! ### Headroom (R105 to R109) -/

theorem stepTo_sansLaser (s : State) (ch : Ch) (b : Code) : (s.stepTo ch b).sansLaser = s.sansLaser := by
  have h : (s.onChan ch fun c => c.stepTo s.now b).sansLaser = s.sansLaser :=
    onChan_laser_sansLaser _ _ _ fun _ => rfl
  unfold State.stepTo
  dsimp only
  split
  · rw [freed_sansLaser, h]
  · exact h

/-- A step sets the channel's code and puts its ramp in progress, dated now (R65, R66). -/
theorem chan_stepTo (s : State) (ch : Ch) (b : Code) :
    (s.stepTo ch b).chan ch = (s.chan ch).stepTo s.now b := by
  unfold State.stepTo
  dsimp only
  split <;> simp

/-- A step leaves the other channel. -/
theorem chan_stepTo_other (s : State) (ch : Ch) (b : Code) :
    (s.stepTo ch b).chan (otherCh ch) = s.chan (otherCh ch) := by
  unfold State.stepTo
  dsimp only
  split <;> simp

/-- What a re-check does to one waiting request: it is granted and its step taken, if it fits; else
nothing moves (R107). -/
theorem grant_cases (s : State) (ch : Ch) :
    (∃ b, (s.chan ch).laser.want = some b ∧ s.fits ch b = true ∧ s.grant ch = (s.stepTo ch b, true)) ∨
    (s.grant ch = (s, false) ∧ ∀ b, (s.chan ch).laser.want = some b → s.fits ch b = false) := by
  unfold State.grant
  cases hw : (s.chan ch).laser.want with
  | none => exact .inr ⟨rfl, fun b h => by cases h⟩
  | some b =>
    cases hf : s.fits ch b
    · exact .inr ⟨by simp [hf], fun b' h => by cases h; exact hf⟩
    · exact .inl ⟨b, rfl, hf, by simp [hf]⟩

theorem grant_sansLaser (s : State) (ch : Ch) : (s.grant ch).1.sansLaser = s.sansLaser := by
  rcases grant_cases s ch with ⟨b, -, -, h⟩ | ⟨h, -⟩ <;> simp [h, stepTo_sansLaser]

theorem contest_sansLaser (s : State) : s.contest.sansLaser = s.sansLaser := by
  have h : ∀ (t : State) (x : Option Ch), ({ t with loser := x } : State).sansLaser = t.sansLaser :=
    fun _ _ => rfl
  unfold State.contest
  dsimp only
  rw [h, grant_sansLaser, grant_sansLaser]

/-- A re-check touches the sequencers and the arbiter alone (R107, R108). -/
theorem recheck_sansLaser (s : State) : s.recheck.sansLaser = s.sansLaser := by
  have h : ({ s with recheckDue := false } : State).sansLaser = s.sansLaser := rfl
  unfold State.recheck
  dsimp only
  split
  · exact h
  · rw [grant_sansLaser, h]
  · rw [grant_sansLaser, h]
  · rw [contest_sansLaser, h]

theorem settleRecheck_sansLaser (s : State) : s.settleRecheck.sansLaser = s.sansLaser := by
  unfold State.settleRecheck
  split
  · exact recheck_sansLaser s
  · rfl

/-! ### The laser code (R61 to R69) -/

/-- A step of a ramp touches the sequencers and the arbiter alone (R65, R66). -/
theorem takeStep_sansLaser (s : State) (ch : Ch) : (s.takeStep ch).sansLaser = s.sansLaser := by
  have h := settleRecheck_sansLaser s
  unfold State.takeStep
  dsimp only
  split
  · exact h
  · split
    · rw [stepTo_sansLaser, h]
    · refine (onChan_laser_sansLaser _ _ _ ?_).trans h
      exact fun _ => rfl

theorem turn_sansLaser (s : State) (ch : Ch) : (s.turn ch).sansLaser = s.sansLaser := by
  unfold State.turn
  dsimp only
  split
  · exact (takeStep_sansLaser _ _).trans (onChan_laser_sansLaser _ _ _ fun _ => rfl)
  · exact onChan_laser_sansLaser _ _ _ fun _ => rfl

theorem leaveIdle_sansLaser (s : State) (ch : Ch) : (s.leaveIdle ch).sansLaser = s.sansLaser := by
  unfold State.leaveIdle
  split
  · rfl
  · exact onChan_laser_sansLaser _ _ _ fun _ => rfl

/-- A recomputation of the target touches the sequencers and the arbiter alone (R64). -/
theorem retarget_sansLaser (s : State) (ch : Ch) : (s.retarget ch).sansLaser = s.sansLaser := by
  unfold State.retarget
  dsimp only
  rw [leaveIdle_sansLaser]
  split
  · rfl
  · exact (turn_sansLaser _ _).trans (onChan_laser_sansLaser _ _ _ fun _ => rfl)

/-- A direct set to 0 touches the sequencers and the arbiter alone (R69). -/
theorem directZero_sansLaser (s : State) (ch : Ch) : (s.directZero ch).sansLaser = s.sansLaser := by
  unfold State.directZero
  dsimp only
  rw [freed_sansLaser]
  refine (onChan_laser_sansLaser _ _ _ ?_).trans (settleRecheck_sansLaser s)
  exact fun _ => rfl

/-- A direct set to 0 shows code 0 at once, settled, with the ready timer stopped (R69). -/
theorem directZero_laser (s : State) (ch : Ch) :
    ((s.directZero ch).chan ch).laser.code = 0 ∧ ((s.directZero ch).chan ch).laser.isSettled = true ∧
      ((s.directZero ch).chan ch).laser.ready = none := by
  simp [State.directZero, Sequencer.isSettled]

theorem startReady_sansLaser (s : State) (ch : Ch) : (s.startReady ch).sansLaser = s.sansLaser := by
  unfold State.startReady
  dsimp only
  split
  · split
    · exact onChan_laser_sansLaser _ _ _ fun _ => rfl
    · rfl
  · rfl

/-! ### The target after a recomputation (R62, R64) -/

/-- The case of R62 reads nothing of a sequencer but its force and its park condition. -/
theorem targetOf_congr {s t : State} (h : t.sansLaser = s.sansLaser) (ch : Ch)
    (hf : (t.chan ch).laser.force = (s.chan ch).laser.force)
    (hp : (t.chan ch).laser.park = (s.chan ch).laser.park) : t.targetOf ch = s.targetOf ch := by
  have hl : t.lockedOut ch = s.lockedOut ch := by
    simp only [State.lockedOut, sansLaser_incidents h, sansLaser_deferred h]
  have hc : (t.chan ch).context = (s.chan ch).context := by
    have hh : (t.chan ch).contextOf = (s.chan ch).contextOf := by
      funext x
      simp only [Channel.contextOf, Channel.headAt, sansLaser_chan_heads h]
    simp only [Channel.context, sansLaser_chan_relay h, hh]
  simp only [State.targetOf, hl, hf, hp, hc, Channel.ranges, Channel.headRec,
    sansLaser_chan_queue h, sansLaser_chan_wedge h, sansLaser_chan_rg h]

theorem grant_marks (s : State) (ch x : Ch) :
    ((s.grant ch).1.chan x).laser.force = (s.chan x).laser.force ∧
      ((s.grant ch).1.chan x).laser.park = (s.chan x).laser.park ∧
      ((s.grant ch).1.chan x).laser.target = (s.chan x).laser.target := by
  rcases grant_cases s ch with ⟨b, -, -, h⟩ | ⟨h, -⟩
  · rcases ch_cases ch x with rfl | rfl
    · simp [h, chan_stepTo, Channel.stepTo]
    · simp [h, chan_stepTo_other]
  · simp [h]

/-- A re-check changes no force, no park condition and no target (R107). -/
theorem settleRecheck_marks (s : State) (x : Ch) :
    (s.settleRecheck.chan x).laser.force = (s.chan x).laser.force ∧
      (s.settleRecheck.chan x).laser.park = (s.chan x).laser.park ∧
      (s.settleRecheck.chan x).laser.target = (s.chan x).laser.target := by
  unfold State.settleRecheck
  split
  · have e : ∀ y, ({ s with recheckDue := false } : State).chan y = s.chan y := fun y => by cases y <;> rfl
    unfold State.recheck
    dsimp only
    split
    · simp
    · simp [grant_marks]
    · simp [grant_marks]
    · unfold State.contest
      simp [grant_marks]
  · simp

theorem takeStep_marks (s : State) (ch x : Ch) :
    ((s.takeStep ch).chan x).laser.force = (s.chan x).laser.force ∧
      ((s.takeStep ch).chan x).laser.park = (s.chan x).laser.park ∧
      ((s.takeStep ch).chan x).laser.target = (s.chan x).laser.target := by
  have h := settleRecheck_marks s x
  unfold State.takeStep
  dsimp only
  split
  · exact h
  · split
    · rcases ch_cases ch x with rfl | rfl
      · simpa [chan_stepTo, Channel.stepTo] using h
      · simpa [chan_stepTo_other] using h
    · rcases ch_cases ch x with rfl | rfl
      · simpa using h
      · simpa using h

theorem turn_marks (s : State) (ch x : Ch) :
    ((s.turn ch).chan x).laser.force = (s.chan x).laser.force ∧
      ((s.turn ch).chan x).laser.park = (s.chan x).laser.park ∧
      ((s.turn ch).chan x).laser.target = (s.chan x).laser.target := by
  unfold State.turn
  dsimp only
  split
  · simp only [takeStep_marks]
    rcases ch_cases ch x with rfl | rfl <;> simp
  · rcases ch_cases ch x with rfl | rfl <;> simp

theorem leaveIdle_marks (s : State) (ch x : Ch) :
    ((s.leaveIdle ch).chan x).laser.force = (s.chan x).laser.force ∧
      ((s.leaveIdle ch).chan x).laser.park = (s.chan x).laser.park ∧
      ((s.leaveIdle ch).chan x).laser.target = (s.chan x).laser.target := by
  unfold State.leaveIdle
  split
  · simp
  · rcases ch_cases ch x with rfl | rfl <;> simp

/-- After a recomputation the target is the one the first case of R62 gives, and the force and the park
condition stay (R62, R64). -/
theorem retarget_target (s : State) (ch : Ch) :
    ((s.retarget ch).chan ch).laser.target = ((s.retarget ch).targetOf ch).2 ∧
      ((s.retarget ch).chan ch).laser.force = (s.chan ch).laser.force ∧
      ((s.retarget ch).chan ch).laser.park = (s.chan ch).laser.park := by
  have hm : ((s.retarget ch).chan ch).laser.force = (s.chan ch).laser.force ∧
      ((s.retarget ch).chan ch).laser.park = (s.chan ch).laser.park ∧
      ((s.retarget ch).chan ch).laser.target = (s.targetOf ch).2 := by
    unfold State.retarget
    dsimp only
    simp only [leaveIdle_marks]
    split
    · simp_all
    · simp only [turn_marks]
      simp
  exact ⟨by rw [hm.2.2, targetOf_congr (retarget_sansLaser s ch) ch hm.1 hm.2.1], hm.1, hm.2.1⟩

end Sys2Proof.Machine
end

