-- ==== Sys2Proof/Laws/Bursts.lean ====
section
/-! SUPPORT. What the shared operations on the burst queue, the fence window and the contexts can do, said once. -/

namespace Sys2Proof.Machine

/-! ### The gate and the queue (R6, R56 to R58) -/

@[simp] theorem dropGate_pwg (c : Channel) (t : Tick) : (c.dropGate t).pwg = false := rfl
@[simp] theorem dropGate_pwd (c : Channel) (t : Tick) : (c.dropGate t).pwd = false := rfl
@[simp] theorem dropGate_queue (c : Channel) (t : Tick) : (c.dropGate t).queue = c.queue := rfl
@[simp] theorem dropGate_line (c : Channel) (t : Tick) : (c.dropGate t).line = c.line := rfl
@[simp] theorem dropGate_laser (c : Channel) (t : Tick) : (c.dropGate t).laser = c.laser := rfl
@[simp] theorem removeAll_queue (c : Channel) (t : Tick) : (c.removeAll t).queue = [] := rfl
@[simp] theorem removeAll_line (c : Channel) (t : Tick) : (c.removeAll t).line = [] := rfl
@[simp] theorem removeAll_pwg (c : Channel) (t : Tick) : (c.removeAll t).pwg = false := rfl
@[simp] theorem removeAll_heads (c : Channel) (t : Tick) : (c.removeAll t).heads = c.heads := rfl
@[simp] theorem removeAll_wedge (c : Channel) (t : Tick) : (c.removeAll t).wedge = c.wedge := rfl
@[simp] theorem removeAll_relay (c : Channel) (t : Tick) : (c.removeAll t).relay = c.relay := rfl
@[simp] theorem setHead_queue (c : Channel) (h : HeadNo) (x : Head) : (c.setHead h x).queue = c.queue := rfl
@[simp] theorem setHead_line (c : Channel) (h : HeadNo) (x : Head) : (c.setHead h x).line = c.line := rfl
@[simp] theorem setHead_laser (c : Channel) (h : HeadNo) (x : Head) : (c.setHead h x).laser = c.laser := rfl
@[simp] theorem setHead_wedge (c : Channel) (h : HeadNo) (x : Head) : (c.setHead h x).wedge = c.wedge := rfl
@[simp] theorem setHead_relay (c : Channel) (h : HeadNo) (x : Head) : (c.setHead h x).relay = c.relay := rfl
@[simp] theorem dropHead_nil (c : Channel) (h : c.queue = []) : c.dropHead = c := by
  simp [Channel.dropHead, h]

/-- The head record leaves with its run, and every other record stays in its place (R36, R52). -/
theorem dropHead_queue (c : Channel) : c.dropHead.queue = c.queue.tail := by
  unfold Channel.dropHead
  split <;> simp_all

/-- A fence beginning leaves at most the released head record (R53). -/
theorem keptAtFence_length (q : List Rec) : (keptAtFence q).length ≤ 1 := by
  unfold keptAtFence
  split
  · simp
  · split <;> simp

/-- The records kept and cut at a fence beginning are the queue's (R53). -/
theorem keptAtFence_append_cut (q : List Rec) : keptAtFence q ++ cutAtFence q = q := by
  unfold cutAtFence keptAtFence
  split
  · rfl
  · split <;> simp

/-! ### Lockout (R56, R81, R169) -/

/-- A lockout entry empties the queue and the delay line, drops PWGx and cancels the motion of the laser;
the incidents it raises touch no channel (R56, R81). -/
theorem enterLockout_sansLaser (s : State) (ch : Ch) :
    ((s.enterLockout ch).chan ch).sansLaser = ((s.chan ch).removeAll s.now).sansLaser := by
  unfold State.enterLockout
  dsimp only
  rw [chan_postAll]
  have h := (retarget_sansLaser ((s.onChan ch fun c => c.removeAll s.now).directZero ch) ch).trans
    (directZero_sansLaser (s.onChan ch fun c => c.removeAll s.now) ch)
  simpa using sansLaser_chan h ch

theorem enterLockout_queue (s : State) (ch : Ch) : ((s.enterLockout ch).chan ch).queue = [] :=
  (congrArg Channel.queue (enterLockout_sansLaser s ch) :)

/-! ### The fence window (R96 to R98) -/

/-- A closing event closes the window unless filtered SGx is high or F is not after the present tick, and
then the target is recomputed (R98). -/
theorem closeFence_cases (s : State) (ch : Ch) :
    ((s.chan ch).wedge.fence = true ∧ (s.chan ch).sg.level = false ∧ s.fenceReached ch = false ∧
      s.closeFence ch =
        (s.onChan ch fun c => { c with wedge := { c.wedge with fence := false } }).retarget ch) ∨
    (((s.chan ch).wedge.fence = false ∨ (s.chan ch).sg.level = true ∨ s.fenceReached ch = true) ∧
      s.closeFence ch = s) := by
  unfold State.closeFence
  dsimp only
  cases hf : (s.chan ch).wedge.fence <;> cases hg : (s.chan ch).sg.level <;>
    cases hr : s.fenceReached ch <;> simp

/-- An opening event finds the window open, or opens it and is announced (R97). -/
theorem openFenceAfter_cases (s : State) (ch : Ch) (had : Bool) :
    ((s.chan ch).wedge.fence = true ∧ s.openFenceAfter ch had = s) ∨
    ((s.chan ch).wedge.fence = false ∧
      (s.openFenceAfter ch had = (s.beginFence ch).announceEmpty ch ∨
        s.openFenceAfter ch had = (s.beginFence ch).retarget ch)) := by
  unfold State.openFenceAfter
  dsimp only
  cases hf : (s.chan ch).wedge.fence
  · right
    refine ⟨rfl, ?_⟩
    rw [if_neg (by simp)]
    split
    · exact .inl rfl
    · exact .inr rfl
  · simp

/-- A recomputation of F happens only while the timer predicts, and opens the window when F is not after the
present tick (R96, R97). -/
theorem refence_cases (s : State) (ch : Ch) :
    ((s.chan ch).wedge.lock.predicts = false ∧ s.refence ch = s) ∨
    ((s.chan ch).wedge.lock.predicts = true ∧
      (((s.computeFence ch).fenceReached ch = true ∧ s.refence ch = (s.computeFence ch).openFence ch) ∨
        ((s.computeFence ch).fenceReached ch = false ∧ s.refence ch = s.computeFence ch))) := by
  unfold State.refence
  dsimp only
  cases hp : (s.chan ch).wedge.lock.predicts
  · simp
  · cases hr : (s.computeFence ch).fenceReached ch <;> simp

/-! ### Thermal evaluation (R118, R119) -/

/-- What an evaluation can do: nothing for an unloaded head; else the hold flag is set, and a head at its
trip watermark in a channel not in LOCKOUT raises a THERMAL_TRIP (R115, R118, R119). -/
theorem evaluate_cases (s : State) (ch : Ch) (h : HeadNo) :
    (((s.chan ch).headAt h).active = none ∧ s.evaluate ch h = s) ∨
    ∃ x, ((s.chan ch).headAt h).active = some x ∧
      let t := s.onChan ch fun c =>
        c.setHead h { (s.chan ch).headAt h with
          hold := holdAfter x ((s.chan ch).headAt h).accum ((s.chan ch).headAt h).hold }
      ((x.tripMark ≤ ((s.chan ch).headAt h).accum ∧ s.lockedOut ch = false ∧
          s.evaluate ch h = t.raiseFault (t.tripIncident ch h)) ∨
        ((((s.chan ch).headAt h).accum < x.tripMark ∨ s.lockedOut ch = true) ∧ s.evaluate ch h = t)) := by
  unfold State.evaluate
  dsimp only
  cases ha : ((s.chan ch).headAt h).active with
  | none => simp
  | some x =>
    refine .inr ⟨x, rfl, ?_⟩
    by_cases ht : x.tripMark ≤ ((s.chan ch).headAt h).accum
    · cases hl : s.lockedOut ch <;> simp [ht]
    · right
      refine ⟨.inl (by omega), ?_⟩
      simp [ht]

/-! ### Departures (R36, R44, R52) -/

/-- When the head record leaves, the next becomes the head record, or the empty queue is announced (R36). -/
theorem departHead_cases (s : State) (ch : Ch) (bridged : Bool) (is : List Incident) :
    (((s.chan ch).queue.tail = [] ∧
        s.departHead ch bridged is = ((s.onChan ch Channel.dropHead).postAll is).announceEmpty ch)) ∨
    ((s.chan ch).queue.tail ≠ [] ∧
      s.departHead ch bridged is
        = ((s.onChan ch Channel.dropHead).postAll is).becomeHead ch bridged) := by
  unfold State.departHead State.afterDeparture
  rw [chan_postAll, chan_onChan, dropHead_queue]
  cases h : (s.chan ch).queue.tail <;> simp

/-- A record that becomes the head record changes its own fields, the park condition and the ready timer,
and then the laser alone (R44, R77). -/
theorem becomeHead_sansLaser (s : State) (ch : Ch) (bridged : Bool) (r : Rec) (rest : List Rec)
    (h : (s.chan ch).queue = r :: rest) :
    (s.becomeHead ch bridged).sansLaser =
      (s.onChan ch fun c =>
        { c with queue :=
            r.asHead (s.chan ch).laser.code ((s.chan ch).coldLeadOf r) bridged :: rest }).sansLaser := by
  unfold State.becomeHead
  dsimp only
  split
  · simp_all
  · rename_i r' rest' h'
    obtain ⟨rfl, rfl⟩ : r = r' ∧ rest = rest' := by simpa using h.symm.trans h'
    rw [startReady_sansLaser, retarget_sansLaser]
    cases ch <;> rfl

/-! ### Contexts (R132) -/

/-- The emptying of a queue is announced: the sequencer takes its target, and the selected head's context
is promoted at once or is left due at this tick (R36, R132). -/
theorem announceEmpty_cases (s : State) (ch : Ch) :
    ((s.chan ch).selectedPending = none ∧ s.announceEmpty ch = s.retarget ch) ∨
    ∃ h, (s.chan ch).selectedPending = some h ∧
      (s.announceEmpty ch = (s.chosen.promote ch h).retarget ch ∨
        s.announceEmpty ch = s.chosen.retarget ch) := by
  unfold State.announceEmpty
  cases hp : (s.chan ch).selectedPending with
  | none => simp
  | some h =>
    refine .inr ⟨h, rfl, ?_⟩
    cases s.choose <;> simp

/-- A head switch selects the head and touches F, the fence window and the laser beside it (R78, R96, R144). -/
theorem switchHead_eq (s : State) (ch : Ch) (h : Option HeadNo) :
    s.switchHead ch h =
      (((s.onChan ch fun c =>
          { c with relay := { c.relay with selected := h }
                   laser := { c.laser with park := false } }).directZero ch).retarget ch).refence ch := rfl

/-- Write ready is the device's law for release, for a record that is PREPARING or RELEASING (R47, R70). -/
theorem State.writeReady_iff (s : State) (ch : Ch) (r : Rec) :
    s.writeReady ch r = true ↔ (r.state = .preparing ∨ r.state = .releasing) ∧ s.mayWrite ch r := by
  have mode : ((!(s.chan ch).readyMode r || (s.chan ch).lrdy) = true) ↔
      ∀ x, (s.chan ch).contextOf r.head = some x → x.mode = .ready → (s.chan ch).lrdy = true := by
    unfold Channel.readyMode
    cases (s.chan ch).contextOf r.head with
    | none => simp
    | some x => cases h : x.mode <;> simp [h]
  unfold State.writeReady State.mayWrite
  simp only [Bool.and_eq_true, mode, Bool.or_eq_true, beq_iff_eq]
  cases (s.chan ch).laser.motion with
  | settled since hold =>
    have age : s.elapsed since r.leadTicks = true ↔
        since.old = true ∨ r.leadTicks ≤ (s.now - since.tick).toNat :=
      Bool.or_eq_true_iff.trans (or_congr_right decide_eq_true_iff)
    simp [age, and_assoc, -BitVec.toNat_sub]
  | ramp last dwell want held => simp

end Sys2Proof.Machine
end

