-- ==== Sys2Proof/Laws/Link.lean ====
section
/-! SUPPORT. What the link relay's operations and the link lines can do, said once; the same for the lockout checks of a CLEAR and the bands of a payload. -/

namespace Sys2Proof.Machine

/-! ### The link lines (R140, R149) -/

/-- An open-drain line that the part alone acts on stands at the level it wants (R140). -/
@[simp] theorem openDrain_high (b : Bool) : (openDrain b).high = b := by cases b <;> rfl

/-- The part never drives an open-drain line high (R140). -/
theorem openDrain_never_high (b : Bool) : openDrain b ≠ .driven true := by cases b <;> decide

/-- In WIRE every link line is joined: it is high when neither end holds it low (R149). -/
theorem wired_levels (s : State) (ch : Ch) (h : s.wired ch = true) (hold : s.lkcHeld ch = false) (up down : Bool) :
    s.lkcLevel ch up down = (up && down) ∧ s.plkcLevel ch up down = (up && down) ∧
      s.lkdLevel ch up down = (up && down) ∧ s.plkdLevel ch up down = (up && down) := by
  obtain ⟨hp, hw⟩ : (s.rstnLow || s.present ch) = true ∧ (s.chan ch).relay.phase = .wire := by
    simpa [State.wired] using h
  have absent : (!s.rstnLow && !s.present ch) = false := by
    cases hr : s.rstnLow <;> simp_all
  have hf : s.lkdFollows ch = true := by simp [State.lkdFollows, hp, hw]
  cases up <;> cases down <;>
    simp [State.lkcLevel, State.plkcLevel, State.lkdLevel, State.plkdLevel, State.plkc, State.plkd, h, hold, hf, hw,
      absent]

/-! ### The relay (R141 to R147) -/

@[simp] theorem toIdle_phase (r : Relay) : r.toIdle.phase = .idle := rfl
@[simp] theorem toIdle_slot (r : Relay) : r.toIdle.slot = r.slot := rfl
@[simp] theorem toIdle_taken (r : Relay) : r.toIdle.taken = r.taken := rfl
@[simp] theorem toIdle_given (r : Relay) : r.toIdle.given = r.given := rfl
@[simp] theorem toIdle_waiting (r : Relay) : r.toIdle.waiting = r.waiting := rfl
@[simp] theorem toIdle_selected (r : Relay) : r.toIdle.selected = r.selected := rfl
@[simp] theorem dropSlot_phase (r : Relay) : r.dropSlot.phase = .idle := rfl
@[simp] theorem dropSlot_slot (r : Relay) : r.dropSlot.slot = none := rfl
@[simp] theorem dropSlot_waiting (r : Relay) : r.dropSlot.waiting = r.waiting := rfl
@[simp] theorem dropSlot_selected (r : Relay) : r.dropSlot.selected = r.selected := rfl
@[simp] theorem replayFrom_phase (r : Relay) (t : Tick) : (r.replayFrom t).phase = .replay := rfl
@[simp] theorem replayFrom_slot (r : Relay) (t : Tick) : (r.replayFrom t).slot = r.slot := rfl
@[simp] theorem replayFrom_selected (r : Relay) (t : Tick) : (r.replayFrom t).selected = r.selected := rfl

/-- With no replay in the last 64 ticks the part's own clocking begins after its delay (R140). -/
theorem ownStart_quiet (r : Relay) (now : Tick) (delay : Nat)
    (h : r.lastOwn.old = true ∨ 64 ≤ ticksFrom r.lastOwn.tick now) :
    r.ownStart now delay = now + BitVec.ofNat 32 delay := by
  unfold Relay.ownStart bitTicks
  rcases h with h | h
  · simp [h]
  · cases r.lastOwn.old <;> simp [h]

/-- What the end of a frame in CATCH-UP can do: a whole held frame is replayed; the frame is over with nothing sent;
or the bits begun are finished, the slot staying only with all 24 (R141, R143, R145, R147). -/
theorem endInCatchUp_cases (r : Relay) (now : Tick) :
    (r.slot.isSome = true ∧ 24 ≤ r.taken.length ∧ (r.endInCatchUp now).phase = .replay ∧
      (r.endInCatchUp now).slot = some { bits := r.taken, complete := true }) ∨
    r.endInCatchUp now = r.dropSlot ∨
    (∃ n, 0 < n ∧ n ≠ 24 ∧
      r.endInCatchUp now = { r with slot := none, holdStart := none, goal := n, ending := true }) ∨
    r.endInCatchUp now = { r with goal := 24, ending := true } := by
  unfold Relay.endInCatchUp
  generalize (if atOrAfter now r.start then min r.goal (ticksFrom r.start now / bitTicks + 1) else 0) = n
  dsimp only
  split
  · rename_i h
    simp only [Bool.and_eq_true, decide_eq_true_eq] at h
    exact .inl ⟨h.1.1, h.1.2, rfl, rfl⟩
  · split
    · exact .inr (.inl rfl)
    · rename_i h0
      split
      · rename_i h24
        have : n = 24 := by simpa using h24
        exact .inr (.inr (.inr (by rw [this])))
      · rename_i h24
        exact .inr (.inr (.inl ⟨n, by simp at h0; omega, by simpa using h24, rfl⟩))

/-- The relay's part of a frame's end leaves the selected head and the waiting frame (R141, R143). -/
theorem endInCatchUp_keeps (r : Relay) (now : Tick) :
    (r.endInCatchUp now).selected = r.selected ∧ (r.endInCatchUp now).waiting = r.waiting := by
  unfold Relay.endInCatchUp
  generalize (if atOrAfter now r.start then min r.goal (ticksFrom r.start now / bitTicks + 1) else 0) = n
  dsimp only
  split
  · exact ⟨rfl, rfl⟩
  · split
    · exact ⟨rfl, rfl⟩
    · split <;> exact ⟨rfl, rfl⟩

/-! ### The lockout checks of a CLEAR (R120, R170) -/

/-- The lockout checks take the channels in one order or the other, and beside that consume one free choice at the
most. -/
theorem checkLockouts_cases (s s0 : State) :
    (∃ first t, (t = s ∨ t = s.chosen) ∧
      s.checkLockouts s0 = (t.checkLockout first (s0.lockedOut first)).checkLockout (otherCh first)
        (s0.lockedOut (otherCh first))) := by
  unfold State.checkLockouts State.eitherOrder
  dsimp only
  split
  · split
    · exact ⟨.A, s.chosen, .inr rfl, rfl⟩
    · exact ⟨.B, s.chosen, .inr rfl, rfl⟩
  · exact ⟨.A, s, .inl rfl, rfl⟩

/-! ### The bands of a payload (R164) -/

/-- No more bands than the count says are read, whatever the payload holds. -/
theorem bandsOfWords_length (n : Nat) (ws : List Word) : (bandsOfWords n ws).length ≤ n := by
  induction n, ws using bandsOfWords.induct with
  | case1 n w1 w2 rest ih => simpa [bandsOfWords] using ih
  | case2 n ws h => simp [bandsOfWords]

/-- A payload that holds the words of all its bands gives as many bands as the count says. -/
theorem bandsOfWords_full (n : Nat) (ws : List Word) (h : 2 * n ≤ ws.length) : (bandsOfWords n ws).length = n := by
  induction n generalizing ws with
  | zero => rfl
  | succ n ih =>
    match ws, h with
    | w1 :: w2 :: rest, h =>
      have hr : 2 * n ≤ rest.length := by simp only [List.length_cons] at h; omega
      simp [bandsOfWords, ih rest hr]

end Sys2Proof.Machine
end

