-- ==== Sys2Proof/Tests/Slice0.lean ====
section
/-! SUPPORT. Tests: ill-formed commands are refused, worked values of the spec, one step of each command on a small state, and for each statement a state that meets its hypotheses. -/

namespace Sys2Proof.Tests

open Sys2Proof Sys2Proof.Machine

/-! ### The small states -/

/-- The part after a release with two channels and the bench strap high. -/
def board : State := State.reset.leaveReset 9 3

/-- A context with the range [30, 33] and two bands. -/
def ctx : Context :=
  { bias := 10, read := 20, step := 4, dwell := 8, mode := .timed, lead := 64, readyTimeout := 100
    tail := 16, coldLead := 32, leak := 8, releaseMark := 100, holdMark := 200, tripMark := 300
    ranges := [{ lo := 30, hi := 33 }]
    bands := [{ bound := 300, code := 40, adjust := 5 }, { bound := 4095, code := 45, adjust := -3 }] }

/-- A head with that context. -/
def hot : Head := { active := some ctx, pending := .none, accum := 50, hold := false }

/-- Channel A with head 2 selected and loaded, and P valid at 410. -/
def ready : State :=
  board.onChan .A fun c =>
    { c with
      heads := c.heads.set 2 hot, relay := { c.relay with selected := some 2 }
      rate := { window := none, p := 410, valid := true, slow := false } }

/-- Channel A of that part, changed. -/
def on (f : Channel → Channel) : State := ready.onChan .A f

/-- A record of head 2 with one symbol stored. -/
def aRec (st : RecState) : Rec :=
  { seq := 7, head := 2, state := st, inputOpen := false, symIn := 1, symOut := 0, symDropped := 0
    band := 2, writeCode := 45, leadTicks := 61, cold := false, allowance := some 1048575
    bridged := false, truncated := false, run := 1, tailFrom := 0 }

/-- A record with no symbol stored. -/
def bare (st : RecState) : Rec := { aRec st with symIn := 0, run := 0 }

/-- Its symbol. -/
def aSym : Symbol := { seq := 7, value := true }

/-- Channel A with the record alone, its symbol in the line, and the laser settled at its write code. -/
def burst (r : Rec) : State := on fun c =>
  { c with
    queue := [r], line := [aSym]
    laser := { c.laser with
      code := 45, target := 45, motion := .settled { tick := 0, old := true } 0, park := false } }

/-- The state a command leads to. -/
def after (o : Result) : State :=
  match o with
  | .next t => t
  | .fault _ => State.reset
  | .refused _ => State.reset

/-- A frame at its tick of application. -/
def atEnd (s : State) (e : Entry) : State := { s with engine := some { entry := e, endTick := s.now } }

/-- A frame of a kind with a payload, for head 2 of channel A. -/
def frame (kind : BitVec 6) (payload : List Word) : Entry :=
  { kind := kind, target := .A, head := 2, payload := payload, source := .A }

/-! ### Ill-formed commands (R150 to R152, R147) -/

/-- A DIRECTIVE_FRAME with no symbol, one without its marker, and one that goes on past its last guard are
refused. -/
theorem test_illFormed_frames :
    WellFormed (.directiveFrame .A []) = false ∧
      WellFormed (.directiveFrame .A (List.replicate 20 true)) = false ∧
      WellFormed (.directiveFrame .A
        (List.replicate 32 true ++ [false] ++ List.replicate 16 false ++ [false, true])) = false := by decide +kernel

/-- A frame ended by the guard of its header is well formed. -/
theorem test_wellFormed_frame :
    WellFormed (.directiveFrame .A
      (List.replicate 32 true ++ [false] ++ List.replicate 16 false ++ [false])) = true := by decide +kernel

/-- A HELD_FRAME_REPLAY hands over at most the sixteen bits that follow a header. -/
theorem test_illFormed_replay :
    WellFormed (.heldFrameReplay .A (List.replicate 17 true) 0) = false ∧
      WellFormed (.heldFrameReplay .A (List.replicate 16 true) 0) = true := by decide

/-! ### Worked values of the spec -/

/-- A REFUSED of burst 52 on head 2 of channel A with reason 5 (09, "A Head Switch While a Burst Drains"), as the
first incident: its eight bytes (R164). -/
theorem test_incident_bytes :
    ({ number := 0, incident := { kind := .refused, ch := .A, head := some 2, burst := some 52, detail := 5 } } :
      Stored).bytes = [0, 0, 16, 170, 0, 52, 0, 5] := by decide

/-- The header of the spec's REPORT frame is 0x1800 (10, "A REPORT Frame"). -/
theorem test_report_header : headerWord 6 .A 0 0 = 0x1800#16 := by decide

/-- The check register after each byte of that header (10, "A REPORT Frame"). -/
theorem test_report_check :
    crcSymbols 0xFFFF#16 [false, false, false, true, true, false, false, false] = 0x72C9#16 ∧
      crcSymbols 0x72C9#16 (List.replicate 8 false) = 0x97D5#16 := by decide

/-- The header's layout, place by place: kind 1, channel B, head 5, length 18 (R164). -/
theorem test_header_layout : headerWord 1 .B 5 18 = 0b0000011101010010#16 := by decide

/-- The defaults of the level table (R134): code 41 draws 82 with weight 41, code 63 draws 126. -/
theorem test_level_defaults :
    board.current 41 = 82 ∧ board.weight 41 = 41 ∧ board.current 63 = 126 ∧ board.current 0 = 0 := by decide

/-- A frame of n incidents has 30 + 8n bytes, and at N = 15 a bit time is 256 ticks: 80,640 ticks with none
(R172). -/
theorem test_report_length :
    (after (execReport (atEnd board (frame 6 [])))).sending.map Transmission.ticks = some 80640 := by decide

/-! ### One step of each command -/

theorem test_powerOn :
    (after (exec (.powerOn true 9 3) board)).selectReg = 9 ∧
      (after (exec (.powerOn true 9 3) board)).straps.bench = true := by decide

theorem test_rstnLow : (after (exec .rstnLow board)).lc .A = none := by decide

theorem test_resetRelease : (after (exec (.resetRelease 9 1) State.reset)).len .B = true := by decide

/-- The first rise takes number 0, the band of P = 410 is the second, and its lead is 64 − 3, cold by 32 more
(R24, R25, R38). -/
theorem test_writeGateRise :
    ((after (exec (.writeGateRise .A) ready)).a.queue.map fun r => (r.seq, r.band, r.writeCode, r.leadTicks))
      = [(0, 2, 45, 93)] := by decide

theorem test_writeGateRise_noRate :
    ((after (exec (.writeGateRise .A) (on fun c => { c with rate := initialRate }))).incidents.map
      fun x => (x.incident.kind, x.incident.detail)) = [(.refused, 7)] := by decide

theorem test_writeGateFall :
    let s := on fun c =>
      { c with wg := filterAt true, intake := .storing, queue := [{ aRec .preparing with inputOpen := true }] }
    (after (exec (.writeGateFall .A) s)).a.queue = [aRec .preparing] ∧
      (after (exec (.writeGateFall .A) s)).a.intake = .gap := by decide

theorem test_symbolIntake_stores :
    let s := on fun c =>
      { c with
        wg := filterAt true, intake := .storing, releaseTaken := true, hold := [true, false, false]
        queue := [{ bare .preparing with inputOpen := true }] }
    (after (exec (.symbolIntake .A true true false false) s)).a.line = [aSym] ∧
      (after (exec (.symbolIntake .A true true false false) s)).a.hold = [false, false, true] := by decide

/-- Two disagreeing samples are not an edge, the third is (R2). -/
theorem test_symbolIntake_filter :
    let s := on fun c => { c with releaseTaken := true, wg := { level := false, run := 2 } }
    (after (exec (.symbolIntake .A true true false false) s)).a.wg = { level := false, run := 3 } ∧
      (after (exec (.symbolIntake .A true false false false) s)).a.wg = { level := false, run := 0 } := by
  decide

theorem test_symbolRelease :
    let t := after (exec (.symbolRelease .A) (burst { aRec .releasing with inputOpen := true }))
    t.a.pwd = true ∧ t.a.pwg = true ∧ t.a.line = [] ∧ (t.a.queue.map fun r => r.symOut) = [1] := by decide

/-- Ahead of F by 2,097 ticks at P = 410 the allowance is 5,237 symbols (R32). -/
theorem test_release :
    let s := (burst (aRec .preparing)).onChan .A fun c =>
      { c with wedge := { c.wedge with lock := .locked, fenceTick := 2097 } }
    ((after (exec (.release .A) s)).a.queue.map fun r => (r.state, r.allowance))
      = [(.releasing, some 5237)] := by decide

theorem test_tailExpiry :
    let s := { burst { bare .tail with tailFrom := 0 } with now := 16 }
    (after (exec (.tailExpiry .A) s)).a.queue = [] ∧ (after (exec (.tailExpiry .A) s)).a.laser.target = 10 := by
  decide

theorem test_promotion :
    let s := ready.onChan .A fun c => c.setHead 3 { initialHead 250 with pending := .copy ctx }
    ((after (exec (.promotion .A 3) s)).a.headAt 3).hold = true := by decide

theorem test_readyTimeout :
    let s := { (burst (aRec .preparing)).onChan .A fun c =>
      { c with laser := { c.laser with ready := some 0 } } with now := 100 }
    ((after (exec (.readyTimeout .A) s)).incidents.map fun x => x.incident.kind) = [.readyTimeout] := by decide

theorem test_lrdyRise : (after (exec (.lrdyRise .A) board)).a.lrdy = true := by decide

theorem test_lrdyFall :
    let s := (burst (aRec .releasing)).onChan .A fun c =>
      { c with lrdy := true, heads := c.heads.set 2 { hot with active := some { ctx with mode := .ready } } }
    let t := after (exec (.lrdyFall .A) s)
    (t.incidents.map fun x => (x.incident.kind, x.incident.detail)) = [(.laserLost, 0), (.refused, 1)] ∧
      t.len .A = false := by decide

theorem test_pfiChange :
    (after (exec (.pfiChange .A true) board)).wfo .A = .driven true ∧
      (after (exec (.pfiChange .A true) board)).wfo .B = .driven false := by decide

/-- An up step that would land at 32, inside [30, 33], lands at 34 (R26). -/
theorem test_rampStep :
    let s := on fun c =>
      { c with laser := { c.laser with
        code := 28, target := 45, motion := .ramp { tick := 0, old := true } 8 none false } }
    (after (exec (.rampStep .A) s)).a.laser.code = 34 := by decide

theorem test_stepGrant :
    let s := { (on fun c => { c with laser := { c.laser with
      code := 28, target := 45, motion := .ramp { tick := 0, old := true } 8 (some 34) false } }) with
      recheckDue := true }
    (after (exec .stepGrant s)).a.laser.code = 34 := by decide

theorem test_rampComplete :
    let s := on fun c =>
      { c with laser := { c.laser with
        code := 10, target := 10, park := false, motion := .ramp { tick := 0, old := true } 8 none false } }
    (after (exec (.rampComplete .A) s)).seqState .A = .idle := by decide

/-- An accumulator of 50 under code 0 with a shift of 4 loses 3 (R115). -/
theorem test_heatTick :
    let s := { (on fun c => { c with heads := c.heads.set 2 { hot with active := some { ctx with leak := 4 } } })
      with heatTaken := false }
    ((after (exec .heatTick s)).a.headAt 2).accum = 47 := by decide

/-- With the park count at 999 and a delay of 1,000 the comparison of the next heat tick calls for the park condition,
and a delay of 999 written after it at that tick has no say in it (R76). -/
theorem test_heatTick_park :
    let s (count : Nat) := { (on fun c =>
      { c with laser := { c.laser with
        code := 10, target := 10, park := false, parkCount := count
        motion := .settled { tick := 0, old := true } 0 } }) with heatTaken := false }
    (after (exec .heatTick (s 999))).parkDue .A = true ∧ (after (exec .heatTick (s 998))).parkDue .A = false ∧
      (after (exec .channelSetup (atEnd (after (exec .heatTick (s 998)))
        (frame 4 ({ initialSetup with parkDelay := 999 }).words)))).parkDue .A = false := by decide

theorem test_parkExpiry :
    let s := on fun c =>
      { c with laser := { c.laser with
        code := 10, target := 10, park := false, parkDue := true, parkCount := 1000
        motion := .settled { tick := 0, old := true } 0 } }
    (after (exec (.parkExpiry .A) s)).a.laser.park = true := by decide

theorem test_readGateRise : (after (exec (.readGateRise .A) ready)).a.laser.target = 20 := by decide

theorem test_readGateFall :
    (after (exec (.readGateFall .A) (on fun c => { c with rg := filterAt true, prg := true }))).a.prg = false := by
  decide

theorem test_prgRise :
    (after (exec (.prgRise .A) { (on fun c => { c with rg := filterAt true }) with now := 16 })).a.prg = true ∧
      (after (exec (.prgRise .A) { (on fun c => { c with rg := filterAt true }) with now := 15 })).a.prg
        = false := by decide

theorem test_servoGateRise :
    let t := after (exec (.servoGateRise .A) { ready with now := 500 })
    t.a.wedge.lock = .acquiring ∧ t.a.wedge.last = 500 ∧ t.a.wedge.fence = true := by decide

theorem test_servoGateFall :
    let s := on fun c => { c with sg := filterAt true, wedge := { c.wedge with fence := true } }
    (after (exec (.servoGateFall .A) s)).a.wedge.fence = false := by decide

theorem test_fenceTickReached :
    let s := (burst (aRec .preparing)).onChan .A fun c => { c with wedge := { c.wedge with lock := .locked } }
    let t := after (exec (.fenceTickReached .A) s)
    (t.incidents.map fun x => x.incident.kind) = [.fenceCut] ∧ t.a.line = [] := by decide

theorem test_acquisitionAbandon :
    let s := { (on fun c => { c with wedge := { c.wedge with lock := .acquiring, good := 1 } }) with now := 16064 }
    (after (exec (.acquisitionAbandon .A) s)).a.wedge.lock = .unlocked := by decide

theorem test_wedgeMissExpiry :
    let s := { (on fun c => { c with wedge := { c.wedge with lock := .locked, next := 16000 } }) with now := 16064 }
    (after (exec (.wedgeMissExpiry .A) s)).a.wedge.lock = .coasting ∧
      (after (exec (.wedgeMissExpiry .A) s)).a.wedge.next = 32000 := by decide

/-- A second miss unlocks with WEDGE_LOST, detail 0 (R93). -/
theorem test_wedgeMissExpiry_second :
    let s := { (on fun c => { c with wedge := { c.wedge with lock := .coasting, next := 16000, miss := 1 } }) with
      now := 16064 }
    ((after (exec (.wedgeMissExpiry .A) s)).incidents.map fun x => (x.incident.kind, x.incident.detail))
      = [(.wedgeLost, 0)] := by decide

theorem test_rateWindowComplete :
    let s := { (on fun c => { c with rate := { c.rate with window := some { start := 0, edges := 1024 } } }) with
      now := 412 }
    (after (exec (.rateWindowComplete .A) s)).a.rate.p = 412 := by decide

theorem test_rateWindowAbandon :
    let s := { (on fun c => { c with rate := { c.rate with window := some { start := 0, edges := 1023 } } }) with
      now := 4096 }
    ((after (exec (.rateWindowAbandon .A) s)).incidents.map fun x => (x.incident.kind, x.incident.detail))
      = [(.rateSlow, 410)] := by decide

theorem test_linkFrameStart :
    (after (exec (.linkFrameStart .A) (on fun c => { c with relay := { c.relay with phase := .idle }, lks := true }))).a.relay.phase
      = .header := by decide

/-- A write of register 9, the strap's value, is a head-select write, and is held behind a record (R142, R145). -/
theorem test_linkHeaderTaken :
    let s := (burst (aRec .releasing)).onChan .A fun c => { c with relay := { c.relay with phase := .header } }
    (after (exec (.linkHeaderTaken .A 0x09 20) s)).a.relay.phase = .hold ∧
      (after (exec (.linkHeaderTaken .A 0x89 20) s)).a.relay.phase = .catchUp := by decide

theorem test_catchUpComplete :
    let s := { (on fun c => { c with relay := { c.relay with phase := .catchUp, start := 100, goal := 8 } }) with
      now := 612 }
    (after (exec (.catchUpComplete .A) s)).a.relay.phase = .through := by decide

/-- A catch-up holds LKCx low, PLKCx follows the part's own clock, and no line is driven high: either end may hold it
low (R140, R141). -/
theorem test_openDrain :
    let s := { (on fun c => { c with relay := { c.relay with phase := .catchUp, start := 0, goal := 8 } }) with
      now := 40 }
    s.lkcLevel .A true true = false ∧ s.plkcLevel .A true true = true ∧ s.plkcLevel .A true false = false ∧
      s.plkc .A false = .released ∧ { s with now := 70 }.plkc .A true = .driven false := by decide

/-- The value 5 in the last bits of a head-select write selects head 5 (R144). -/
theorem test_linkFrameEnd :
    let head := headerBits 0x09
    let s := on fun c =>
      { c with
        lks := false
        relay := { c.relay with phase := .through, taken := head, slot := some { bits := head, complete := false } } }
    let t := after (exec (.linkFrameEnd .A (List.replicate 13 false ++ [true, false, true])) s)
    t.a.relay.selected = some 5 ∧ t.a.relay.given = 24 := by decide

theorem test_heldFrameReplay :
    let s := on fun c =>
      { c with relay := { c.relay with
        phase := .hold, slot := some { bits := List.replicate 24 false, complete := true } } }
    (after (exec (.heldFrameReplay .A [] 0) s)).a.relay.phase = .replay := by decide

/-- A replay of the value 6 into a channel of 8 heads selects head 6 after 24 bits of 64 ticks (R144, R147). -/
theorem test_replayComplete :
    let bits := List.replicate 21 false ++ [true, true, false]
    let s (t : Tick) := { (on fun c =>
      { c with relay := { c.relay with phase := .replay, goal := 24, slot := some { bits := bits, complete := true } } })
        with now := t }
    (after (exec (.replayComplete .A) (s 1536))).a.relay.selected = some 6 ∧
      (after (exec (.replayComplete .A) (s 1535))).a.relay.selected = some 2 := by decide

/-- A held frame that is still arriving is caught up with every bit sampled up to the fall of LKCx (R147). -/
theorem test_heldFrameReplay_incomplete :
    let s := on fun c =>
      { c with relay := { c.relay with
        phase := .hold, taken := headerBits 0x09, slot := some { bits := headerBits 0x09, complete := false } } }
    let t := after (exec (.heldFrameReplay .A [true, false, true] 20) s)
    t.a.relay.goal = 11 ∧ t.a.relay.stretch = 20 ∧ s.dueSteps.contains (.heldFrameReplay .A [] 0) = false := by decide

theorem test_waitingFrameRelease :
    let s := on fun c => { c with relay := { c.relay with phase := .idle, waiting := true } }
    (after (exec (.waitingFrameRelease .A) s)).a.relay.phase = .header := by decide

theorem test_holdLimitExpiry :
    let s := { (burst (aRec .releasing)).onChan .A fun c =>
      { c with relay := { c.relay with
        phase := .hold, slot := some { bits := [], complete := false }, holdStart := some 0 } } with now := 65536 }
    ((after (exec (.holdLimitExpiry .A) s)).incidents.map fun x => x.incident.kind) = [.headSwitchForced] := by
  decide

/-- A header whose guard is 0 is a DIRECTIVE_BAD of detail 0x0100 (R152). -/
theorem test_directiveFrame_bad :
    ((after (exec (.directiveFrame .A
        (List.replicate 32 true ++ [false] ++ List.replicate 16 false ++ [false])) board)).incidents.map
      fun x => (x.incident.kind, x.incident.detail)) = [(.directiveBad, 256)] := by decide +kernel

theorem test_waitingClearJoin :
    let s := on fun c => { c with recv := { c.recv with waitingClear := some (frame 7 [1]) } }
    (after (exec (.waitingClearJoin .A) s)).engine = some { entry := frame 7 [1], endTick := 80 } := by decide

/-- A context's payload is read back, and its load into an idle head is promoted at once (R130, R164). -/
theorem test_headContext :
    let t := after (exec .headContext (atEnd board (frame 1 ctx.words)))
    t.a.contextOf 2 = some ctx ∧ t.incidents = [] := by decide

/-- PAYLOAD for watermarks out of order; LENGTH, and no other reason, for a payload of the ten fixed words that says
it has one band, whose watermarks are in order (R126, R128, R158). -/
theorem test_headContext_refused :
    let details (ws : List Word) := (after (exec .headContext (atEnd board (frame 1 ws)))).incidents.map
      fun x => x.incident.detail
    details ({ ctx with holdMark := 100 }).words = [0x0701] ∧
      details ((ctx.words.take 9) ++ [1]) = [0x0201] := by decide

theorem test_releaseContext :
    (after (exec .releaseContext (atEnd ready (frame 2 [])))).a.contextOf 2 = none := by decide

theorem test_levelTable :
    let t := after (exec .levelTable (atEnd ready (frame 3 [63, 0xFF03])))
    t.current 63 = 255 ∧ t.weight 63 = 3 ∧ t.current 62 = 124 := by decide

theorem test_channelSetup :
    let x := { initialSetup with headsCount := 2, parkDelay := 5 }
    let t := after (exec .channelSetup (atEnd ready (frame 4 x.words)))
    t.a.setup = x ∧ t.a.relay.selected = none := by decide

theorem test_globalSetup :
    let t := after (exec .globalSetup (atEnd ready (frame 5 [150, 0x0310])))
    t.ceiling = 150 ∧ t.reportDiv = 3 ∧ t.selectReg = 16 := by decide

theorem test_report :
    let t := after (exec .report (atEnd ready (frame 6 [])))
    t.reportSeq = 1 ∧ t.sending.map (fun f => f.bytes.length) = some 30 := by decide

/-- An incident stored for channel A. -/
def posted (k : Kind) : State := ready.post { kind := k, ch := .A, head := none, burst := none, detail := 0 }

theorem test_clear :
    let t := after (exec .clear (atEnd (posted .thermalTrip) (frame 7 [1])))
    t.incidents = [] ∧ t.len .A = true ∧ t.a.laser.park = true := by decide

theorem test_deferredIncidentStore :
    let i : Incident := { kind := .thermalTrip, ch := .A, head := some 2, burst := none, detail := 300 }
    let t := after (exec (.deferredIncidentStore .A) { ready with deferred := [{ incident := i, fresh := false, tied := false }] })
    t.incidents = [{ number := 0, incident := i }] ∧ t.deferred = [] := by decide

theorem test_channelReset :
    let t := after (exec .channelReset (atEnd (burst (aRec .releasing)) (frame 8 [])))
    t.a.queue = [] ∧ t.a.laser.code = 0 ∧ t.incidents = [] := by decide

/-- A forced code of 32 comes down below [30, 33] to 29 (R83). -/
theorem test_forceLevel :
    (after (exec .forceLevel (atEnd ready (frame 9 [32])))).a.laser.target = 29 := by decide

theorem test_forceEnd :
    let s := on fun c => { c with laser := { c.laser with force := some 5 } }
    (after (exec .forceEnd (atEnd s (frame 9 [0xFFFF])))).a.laser.force = none := by decide

theorem test_unknownKind :
    ((after (exec .unknownKind (atEnd ready (frame 63 [])))).incidents.map fun x => x.incident.detail)
      = [0x013F] := by decide

theorem test_reportFrameEnd :
    let s := { ready with
      sending := some { bytes := [0xC3#8], start := 0, bitTime := 16 }, now := 400, reportPending := true }
    (after (exec .reportFrameEnd s)).reportSeq = 1 ∧ (after (exec .reportFrameEnd s)).reportPending = false := by
  decide

/-! ### For each statement, a state that meets its hypotheses -/

theorem witness_StepWithNoCommandWaiting :
    (board.pending = [] ∧ board.firstDue = none) ∧
      ({ board with heatTaken := false } : State).firstDue = some .heatTick := by decide

/-- An own step one tick before it is due, and at its tick. -/
theorem witness_StepWithNoCommandWaiting_due :
    let s (now : Tick) := { burst { bare .tail with tailFrom := 0 } with now := now }
    isOwnStep (.tailExpiry .A) = true ∧ ¬ (s 15).isDue (.tailExpiry .A) ∧ (s 16).isDue (.tailExpiry .A) := by
  refine ⟨rfl, ?_, rfl, _, rfl, rfl, by unfold State.since; decide⟩
  rintro ⟨-, r, hr, -, h⟩
  cases hr
  revert h
  unfold State.since
  decide

theorem witness_ExecKeepsQueueClockAndStraps : isReset .heatTick = false := by decide

theorem witness_ChannelIsolation :
    channelOf (.rampStep .A) = some .A ∧ exec (.rampStep .A) ready = .next (after (exec (.rampStep .A) ready)) :=
  ⟨rfl, rfl⟩

theorem witness_DeadChannelIsInert :
    (channelOf (.lrdyRise .B) = some .B ∧ State.reset.live .B = false) ∧
      (State.reset.leaveReset 9 2).live .B = false ∧ (State.reset.leaveReset 9 2).live .A = true := by decide

theorem witness_ResetStates : board.rstnLow = false := by decide

theorem witness_ResetReleaseState : State.reset.rstnLow = true := by decide

/-- The selected head's context of the small states has its bands. -/
theorem ready_bands (s : State) (h : (s.chan .A).context = some ctx) : (s.chan .A).bandsPresent := by
  intro x hx
  rw [h] at hx
  cases hx
  decide

/-- The state for a rise: a gate that is low in a channel that takes its inputs, with nothing waiting. -/
def canRise (s : State) : Bool :=
  s.live .A && !(s.chan .A).wg.level && (s.chan .A).recv.hunt == .hunting 0 && s.storeQuiet .A

theorem witness_RefusedRise :
    let full := on fun c => { c with queue := bare .tail :: List.replicate 7 (bare .queued) }
    let hundred := on fun c => { c with sg := filterAt true }
    (canRise full = true ∧ (full.chan .A).bandsPresent ∧ full.firstFailing .A = some .queueFull) ∧
      canRise hundred = true ∧ (hundred.chan .A).bandsPresent ∧ hundred.firstFailing .A = some .servoActive :=
  ⟨⟨by decide, ready_bands _ (by decide), by decide⟩, by decide, ready_bands _ (by decide), by decide⟩

theorem witness_AdmittedRise :
    let admits (s : State) : Prop := canRise s = true ∧ (s.chan .A).bandsPresent ∧ s.firstFailing .A = none ∧
      (s.chan .A).relay.selected = some 2 ∧ (s.chan .A).contextOf 2 = some ctx ∧
      ctx.band (s.chan .A).rate.p = some (2, { bound := 4095, code := 45, adjust := -3 })
    let seventh := on fun c => { c with queue := aRec .preparing :: List.replicate 6 (bare .queued) }
    let tailed := on fun c => { c with queue := [bare .tail] }
    (admits ready ∧ ready.a.queue = []) ∧
      (admits seventh ∧ seventh.a.queue.length = 7 ∧ seventh.a.queue.head? = some (aRec .preparing)) ∧
      admits tailed ∧ tailed.a.queue = [bare .tail] :=
  ⟨⟨⟨by decide, ready_bands _ (by decide), by decide, by decide, by decide, by decide⟩, by decide⟩,
    ⟨⟨by decide, ready_bands _ (by decide), by decide, by decide, by decide, by decide⟩, by decide⟩,
    ⟨by decide, ready_bands _ (by decide), by decide, by decide, by decide, by decide⟩, by decide⟩

theorem witness_RiseCutsAFrame :
    let s := on fun c => { c with recv := { c.recv with hunt := .assembling startAssembly } }
    s.live .A = true ∧ s.a.wg.level = false ∧ (s.chan .A).recv.hunt = .assembling startAssembly ∧
      s.storeQuiet .A = true := by decide

theorem witness_GateEdges :
    let high := on fun c => { c with wg := filterAt true, rg := filterAt true, sg := filterAt true }
    let idle (t : State) : Bool :=
      !t.lockedOut .A && (t.chan .A).laser.force == none && (t.chan .A).queue == [] && (t.chan .A).context == some ctx
    (high.live .A = true ∧ (high.chan .A).wg.level = true ∧ (high.chan .A).rg.level = true ∧
      (high.chan .A).sg.level = true ∧ idle high = true) ∧ ready.live .A = true ∧
      (ready.chan .A).rg.level = false ∧ idle ready = true ∧ (ready.chan .A).prg = false := by decide

/-- A read-gate rise, whose target is the read code 20, for each case of meetsTarget: the same target; the code at the
new one, settled or in a ramp; a step not due at one tick short of the dwell, and due at the dwell; an up step that
fits, and one that does not; a down step. -/
theorem witness_GateEdges_turn :
    let s (code target : Code) (m : Motion) (ceiling : Nat) := { (on fun c =>
      { c with laser := { c.laser with code := code, target := target, motion := m } }) with
        now := 8, ceiling := ceiling }
    let new (u : State) : Bool := (after (exec (.readGateRise .A) u)).a.laser.target != u.a.laser.target
    let due (u : State) : Bool := u.a.laser.motion.since.elapsed u.now u.a.laser.motion.wait
    let met (u : State) : Bool := u.live .A && !(u.chan .A).rg.level && !u.recheckDue
    let old : Motion := .settled { tick := 0, old := true } 0
    let ramp (at_ : Tick) : Motion := .ramp { tick := at_, old := false } 8 none false
    (met (s 10 20 old 200) = true ∧ new (s 10 20 old 200) = false) ∧
      (new (s 20 10 old 200) = true ∧ new (s 20 10 (ramp 0) 200) = true) ∧
      (new (s 12 10 (ramp 1) 200) = true ∧ due (s 12 10 (ramp 1) 200) = false ∧
        due (s 12 10 (ramp 0) 200) = true) ∧
      (new (s 10 10 old 28) = true ∧ due (s 10 10 old 28) = true ∧
        (s 10 10 old 28).current 14 - (s 10 10 old 28).current 10 = 8 ∧ (s 10 10 old 28).used + 8 = 28) ∧
      ((s 10 10 old 27).ceiling < (s 10 10 old 27).used + 8) ∧ new (s 45 45 old 200) = true := by decide

/-- After a head switch the code is 0 and its first step is due one dwell, 8 ticks, later (R69, R78). -/
theorem test_headSwitch_holds :
    ((ready.switchHead .A (some 2)).chan .A).laser.motion = .ramp (stampAt 0) 8 none true := by decide

/-- The wedge timer of channel A with its lock state, C at 0 and the count of good intervals given. -/
def wedged (l : Lock) (good : Nat) (now : Tick) : State :=
  { (on fun c => { c with wedge := { c.wedge with lock := l, good := good, first := some 15936 } }) with now := now }

theorem witness_Capture :
    let near (s : State) : Bool := decide (((s.now - s.a.wedge.last).toInt - 16000).natAbs ≤ 64)
    let common (s : State) : Bool :=
      s.live .A && !(s.chan .A).sg.level && (s.chan .A).selectedPending == none
    (common (wedged .unlocked 0 0) = true) ∧
      (common (wedged .acquiring 0 15936) = true ∧ near (wedged .acquiring 0 15936) = true) ∧
      (common (wedged .acquiring 1 16064) = true ∧ near (wedged .acquiring 1 16064) = true) ∧
      (common (wedged .acquiring 1 16065) = true ∧ near (wedged .acquiring 1 16065) = false) ∧
      (common (wedged .locked 2 16064) = true ∧ near (wedged .locked 2 16064) = true) ∧
      (common (wedged .coasting 2 16065) = true ∧ near (wedged .coasting 2 16065) = false ∧
        Lock.coasting.predicts = true) := by decide

theorem witness_Encroachment :
    let two := [aRec .releasing, { bare .queued with inputOpen := true }]
    let s (q : List Rec) (w : Wedge) := on fun c => { c with queue := q, line := [aSym], pwg := true, wedge := w }
    let met (s : State) : Bool := s.live .A && !(s.chan .A).sg.level && (s.chan .A).selectedPending == none
    let open_ := s [aRec .releasing] { initialWedge 0 with fence := true }
    let loses := s two { initialWedge 0 with lock := .locked }
    (met (s two (initialWedge 0)) = true ∧ ((s two (initialWedge 0)).chan .A).LineOk) ∧
      (met open_ = true ∧ (open_.chan .A).wedge.fence = true ∧ (open_.chan .A).LineOk) ∧
      (met loses = true ∧ loses.losesLock .A = true ∧ (loses.chan .A).LineOk) := by
  unfold Channel.LineOk
  decide

/-- A rise that finds the head record in PREPARING, or in TAIL with a record behind it, with and without a loss of
lock. -/
theorem witness_Encroachment_cut :
    let s (r : Rec) (w : Wedge) := on fun c =>
      { c with queue := [r, { bare .queued with inputOpen := true }], wedge := w, pwg := true }
    let met (t : State) : Bool :=
      t.live .A && !(t.chan .A).sg.level && !(t.chan .A).wedge.fence && (t.chan .A).selectedPending == none
    let keeps (r : Rec) : Prop :=
      met (s r (initialWedge 0)) = true ∧ ((s r (initialWedge 0)).chan .A).LineOk ∧
        met (s r { initialWedge 0 with lock := .locked }) = true ∧
        (s r { initialWedge 0 with lock := .locked }).losesLock .A = true
    keeps (bare .preparing) ∧ keeps (bare .tail) := by
  unfold Channel.LineOk
  decide

/-- WFOx with a class-2 incident at fault mask 1 and 2, and with a deferred class-3 incident (R168). -/
theorem test_writeFault :
    let i : Incident := { kind := .fenceCut, ch := .A, head := none, burst := none, detail := 0 }
    let s (mask : Nat) := { (on fun c => { c with setup := { c.setup with faultMask := mask } }) with
      incidents := [{ number := 0, incident := i }] }
    let trip := { ready with
      deferred := [{ incident := { i with kind := .thermalTrip }, fresh := false, tied := false }] }
    (s 1).wfo .A = .driven true ∧ (s 2).wfo .A = .driven false ∧ trip.wfo .A = .driven true ∧
      trip.wfo .B = .driven false := by decide

theorem witness_PreamplifierInputs :
    board.live .A = true ∧ (board.chan .A).headRec = none := by decide

/-- No incident is deferred in the small states. -/
theorem none_deferred (s : State) (h : s.deferred = []) : s.DeferredOk := by
  unfold State.DeferredOk
  rw [h]
  decide

theorem witness_LaserLost :
    let s := (burst (aRec .releasing)).onChan .A fun c =>
      { c with lrdy := true, heads := c.heads.set 2 { hot with active := some { ctx with mode := .ready } } }
    (s.live .A = true ∧ (s.chan .A).lrdy = true ∧ (s.chan .A).queue = [aRec .releasing] ∧
      (s.chan .A).readyMode (aRec .releasing) = true ∧ s.lockedOut .A = false) ∧ s.DeferredOk :=
  ⟨by decide, none_deferred _ (by decide)⟩

/-- The record of the small states may write when write ready holds for it. -/
theorem mayWrite_of {s : State} {ch : Ch} {r : Rec} (h : s.writeReady ch r = true) : s.mayWrite ch r :=
  ((State.writeReady_iff s ch r).1 h).2

/-- A channel at an edge whose release side has still to be taken. -/
def atEdge (s : State) : Bool :=
  s.live .A && !(s.chan .A).releaseTaken && s.edgesQuiet .A

theorem witness_SymbolRelease :
    let open_ := { aRec .releasing with inputOpen := true, allowance := some 2 }
    (atEdge ready = true ∧ (ready.chan .A).pwgFallDue = false ∧ (ready.chan .A).headRec = none) ∧
      (atEdge (burst (aRec .preparing)) = true ∧ ((burst (aRec .preparing)).chan .A).pwgFallDue = false) ∧
      (atEdge (burst open_) = true ∧ ((burst open_).chan .A).queue = [open_] ∧
        ((burst open_).chan .A).line = [aSym]) ∧ (burst open_).mayWrite .A open_ :=
  ⟨by decide, by decide, by decide, mayWrite_of (by decide)⟩

/-- A release that is due at the edge at which PWGx falls, with F behind and ahead, and an edge whose release side has
still to be taken. -/
theorem witness_SymbolRelease_due :
    let s (f : Tick) := (burst (aRec .preparing)).onChan .A fun c =>
      { c with pwg := true, pwgFallDue := true, wedge := { c.wedge with lock := .locked, fenceTick := f } }
    (∀ f, (s f).isDue (.release .A)) ∧ atEdge (s 0) = true ∧ atEdge (s 100) = true ∧
      ((s 0).chan .A).pwgFallDue = true ∧ ((s 0).chan .A).queue = [aRec .preparing] ∧
      ((s 0).chan .A).selectedPending = none :=
  ⟨fun f => ⟨rfl, rfl, rfl, _, rfl, rfl, rfl, ⟨_, _, rfl, .inl rfl⟩, fun x hx hm => by cases hx; cases hm⟩, by decide,
    by decide, by decide, by decide, by decide⟩

/-- In READY mode a record that becomes the head record with the code settled at its write code starts the ready
timer, and one that finds the code elsewhere takes its first step (R65, R72). -/
theorem test_headRecord_starts :
    let s (code : Code) := (burst { bare .tail with tailFrom := 0 }).onChan .A fun c =>
      { c with
        queue := [{ bare .tail with tailFrom := 0 }, bare .queued]
        heads := c.heads.set 2 { hot with active := some { ctx with mode := .ready, tail := 0 } }
        laser := { c.laser with code := code, target := code } }
    (after (exec (.tailExpiry .A) (s 45))).a.laser.ready = some 0 ∧
      (after (exec (.tailExpiry .A) (s 37))).a.laser.code = 41 ∧
      (after (exec (.tailExpiry .A) (s 37))).a.laser.ready = none := by decide

/-- A PWGx fall that is due with no record to release, and a RELEASING record one tick short of its lead. -/
theorem witness_SymbolRelease_fall :
    let s := on fun c => { c with pwg := true, pwgFallDue := true }
    let short := (burst (aRec .releasing)).onChan .A fun c =>
      { c with laser := { c.laser with motion := .settled { tick := 4294967236, old := false } 0 } }
    (atEdge s = true ∧ (s.chan .A).pwgFallDue = true) ∧ ¬ s.isDue (.release .A) ∧
      atEdge short = true ∧ ¬ short.mayWrite .A (aRec .releasing) := by
  refine ⟨by decide, ?_, by decide, ?_⟩
  · rintro ⟨-, -, -, r, hr, -⟩
    cases hr
  · rintro ⟨-, ⟨since, hold, h, e⟩, -⟩
    cases h
    revert e
    decide

theorem witness_LastSymbols :
    let two := (burst (aRec .releasing)).onChan .A fun c => { c with queue := [aRec .releasing, bare .queued] }
    let cut := { aRec .releasing with inputOpen := true, allowance := some 1 }
    (atEdge (burst (aRec .releasing)) = true ∧ ((burst (aRec .releasing)).chan .A).queue = [aRec .releasing]) ∧
      (atEdge two = true ∧ (two.chan .A).queue = [aRec .releasing, bare .queued] ∧ (two.chan .A).line = [aSym]) ∧
      (atEdge (burst cut) = true ∧ ((burst cut).chan .A).queue = [cut] ∧
        cut.allowance = some (min 1048575 (cut.symOut + 1))) ∧
      (burst (aRec .releasing)).mayWrite .A (aRec .releasing) ∧ two.mayWrite .A (aRec .releasing) ∧
      (burst cut).mayWrite .A cut :=
  ⟨by decide, by decide, by decide, mayWrite_of (by decide), mayWrite_of (by decide), mayWrite_of (by decide)⟩

theorem witness_SymbolIntake :
    let edge (i : Intake) (q : List Rec) := on fun c =>
      { c with releaseTaken := true, intake := i, hold := [true, false, true], queue := q }
    let open_ := { bare .preparing with inputOpen := true }
    let met (s : State) : Bool := s.live .A && (s.chan .A).releaseTaken && s.edgesQuiet .A
    (met (on fun c => { c with releaseTaken := true, hold := [true, true] }) = true) ∧
      (met (edge .gap []) = true ∧ ((edge .gap []).chan .A).intake = .gap) ∧
      (met (edge .storing [open_]) = true ∧ ((edge .storing [open_]).chan .A).queue = [] ++ [open_] ∧
        ((edge .storing [open_]).chan .A).line.length < 4096) ∧
      (met (edge .discarding [bare .tail, open_]) = true ∧
        ((edge .discarding [bare .tail, open_]).chan .A).queue = [bare .tail] ++ [open_]) ∧
      (met (edge .discarding []) = true ∧ ((edge .discarding []).chan .A).openRec = none) := by decide

theorem witness_DelayOverflow :
    let s := on fun c =>
      { c with
        releaseTaken := true, intake := .storing, hold := [true, false, true]
        queue := [{ aRec .preparing with inputOpen := true }], line := List.replicate 4096 aSym }
    (s.live .A = true ∧ (s.chan .A).releaseTaken = true ∧ s.edgesQuiet .A = true ∧
      (s.chan .A).hold = [true, false, true] ∧ (s.chan .A).intake = .storing ∧
      (s.chan .A).queue = [] ++ [{ aRec .preparing with inputOpen := true }] ∧
      (s.chan .A).selectedPending = none) ∧ (s.chan .A).line.length = 4096 :=
  ⟨by decide, List.length_replicate ..⟩

theorem witness_RateWindows :
    let s (now : Tick) := { (on fun c => { c with rate :=
      { c.rate with window := some { start := 0, edges := 1024 } } }) with now := now }
    ((s 4095).live .A = true ∧ ((s 4095).chan .A).rate.window = some { start := 0, edges := 1024 } ∧
      ((s 4095).now - 0).toNat < 4096) ∧
      (s 4096).live .A = true ∧ 4096 ≤ ((s 4096).now - 0).toNat := by decide

theorem witness_Release :
    let at_ (f : Tick) := (burst (aRec .preparing)).onChan .A fun c =>
      { c with wedge := { c.wedge with lock := .locked, fenceTick := f } }
    let met (s : State) : Bool :=
      s.live .A && (s.chan .A).queue == [aRec .preparing] && !(s.chan .A).prg && !(s.chan .A).wedge.fence
        && (s.chan .A).laser.code == 45
        && (s.chan .A).laser.motion == .settled { tick := 0, old := true } 0
        && !(s.chan .A).readyMode (aRec .preparing)
    met (at_ 1) = true ∧ met (at_ 0) = true ∧ ((at_ 0).chan .A).selectedPending = none ∧
      ({ tick := 0, old := true } : Stamp).elapsed 0 (aRec .preparing).leadTicks = true := by decide

theorem witness_HeadRecordTimers :
    let t := { burst { bare .tail with tailFrom := 0 } with now := 16 }
    let r := { (burst (aRec .preparing)).onChan .A fun c =>
      { c with laser := { c.laser with ready := some 0 } } with now := 100 }
    (t.live .A = true ∧ (t.chan .A).queue = [bare .tail] ∧ (t.chan .A).tailOf (bare .tail) = 16 ∧
      (t.now - 0).toNat = 16 ∧ (t.chan .A).selectedPending = none) ∧
      (r.live .A = true ∧ (r.chan .A).queue = [aRec .preparing] ∧ (r.chan .A).laser.ready = some 0 ∧
        (r.chan .A).readyTimeoutOf (aRec .preparing) ≤ (r.now - 0).toNat ∧
        (r.chan .A).selectedPending = none) := by decide

/-- The emptying of the queue by a tail expiry, with a copy or an unload of the selected head waiting. -/
theorem witness_HeadRecordTimers_emptied :
    let s (p : Pending) := { (burst { bare .tail with tailFrom := 0 }).onChan .A fun c =>
      c.setHead 2 { hot with pending := p } with now := 16 }
    let met (t : State) : Bool :=
      t.live .A && (t.chan .A).heads.length == 8 && (t.chan .A).queue == [{ bare .tail with tailFrom := 0 }]
        && decide ((t.chan .A).tailOf (bare .tail) ≤ (t.now - 0).toNat) && (t.chan .A).relay.selected == some 2
    met (s (.copy ctx)) = true ∧ met (s .unload) = true ∧ ((s .unload).chan .A).selectedPending = some 2 := by decide

theorem witness_Promotion :
    let s (p : Pending) := on fun c => c.setHead 2 { hot with accum := 300, pending := p }
    (((s (.copy ctx)).live .A = true ∧ ((s (.copy ctx)).chan .A).heads.length = 8 ∧
        ((s (.copy ctx)).chan .A).hasRecordOf 2 = false ∧
        (((s (.copy ctx)).chan .A).headAt 2).pending = .copy ctx ∧ ctx.tripMark ≤ 300) ∧
      (s (.copy ctx)).DeferredOk) ∧
      (((s .unload).live .A = true ∧ ((s .unload).chan .A).hasRecordOf 2 = false ∧
        (((s .unload).chan .A).headAt 2).pending = .unload ∧
        ((s .unload).chan .A).relay.selected = some 2) ∧ (s .unload).DeferredOk) :=
  ⟨⟨by decide, none_deferred _ (by decide)⟩, by decide, none_deferred _ (by decide)⟩

/-- A waiting copy of the selected head's context whose range holds the code. -/
theorem witness_Promotion_range :
    let s := on fun c =>
      { c.setHead 2 { hot with pending := .copy ctx } with laser := { c.laser with code := 33 } }
    (s.live .A = true ∧ (s.chan .A).hasRecordOf 2 = false ∧ (s.chan .A).relay.selected = some 2 ∧
      inRanges ctx.ranges (s.chan .A).laser.code.toNat = true ∧ 1 ≤ ctx.dwell) ∧ s.DeferredOk :=
  ⟨by decide, none_deferred _ (by decide)⟩

/-- A waiting copy of the selected head's context with the code outside its ranges and no trip: with no request
waiting, and with one whose dwell has passed; and one for a head that is not selected. -/
theorem witness_Promotion_asks :
    let s (h : HeadNo) (m : Motion) := on fun c =>
      { c.setHead h { hot with pending := .copy ctx } with laser := { c.laser with code := 34, target := 45, motion := m } }
    let met (t : State) : Bool :=
      t.live .A && !(t.chan .A).hasRecordOf 2 && !inRanges ctx.ranges (t.chan .A).laser.code.toNat && !t.recheckDue
        && decide (((t.chan .A).headAt 2).accum < ctx.tripMark)
    let fenceAfter (t : State) : Bool := (after (exec (.promotion .A 2) t)).a.wedge.fence
    let waits : Motion := .ramp { tick := 0, old := true } 8 (some 38) false
    (met (s 2 (.settled { tick := 0, old := true } 0)) = true ∧ met (s 2 waits) = true ∧ 1 ≤ ctx.dwell ∧
      fenceAfter (s 2 waits) = (s 2 waits).a.wedge.fence) ∧
      ((s 3 waits).a.relay.selected ≠ some 3 ∧ (s 3 waits).live .A = true) := by decide

theorem witness_StepLandings :
    rangesOk [{ lo := 20, hi := 23 }, { lo := 24, hi := 27 }] ∧ rangesOk ctx.ramp.ranges ∧
      1 ≤ ctx.ramp.step ∧ clearOf ctx.ramp.ranges 45 ∧ (28#6).toNat < (45#6).toNat ∧
      clearOf ctx.ramp.ranges 10 ∧ (10#6).toNat < (35#6).toNat := by
  unfold rangesOk clearOf
  decide

theorem witness_HeatPlan :
    ctx.band 300 = some (1, { bound := 300, code := 40, adjust := 5 }) ∧ rangesOk ctx.ramp.ranges ∧
      1 ≤ ctx.ramp.step ∧ clearOf ctx.ramp.ranges ctx.read ∧
      ctx.bands.getLast? = some { bound := 4095, code := 45, adjust := -3 } := by
  unfold rangesOk clearOf
  decide

/-- Down from 45 to 20 by 4 over [30, 33]: 41, 37, 29, 25, 21, 20, six steps of 8 ticks (R27, R29); F is that, the
tail of 16 and the margin before W (R30). -/
theorem test_fenceTick :
    rampTime ctx.ramp 45 20 = 48 ∧ fenceTickOf 10000 64 (some ctx) ready.a.rate = 9872 := by decide

theorem witness_RampStep :
    let s (code target : Code) (ceiling : Nat) := { (on fun c =>
      { c with laser := { c.laser with
        code := code, target := target, motion := .ramp { tick := 0, old := true } 8 none false } }) with
      ceiling := ceiling }
    let met (t : State) : Bool :=
      t.live .A && !t.recheckDue && (t.chan .A).laser.motion == .ramp { tick := 0, old := true } 8 none false
        && (t.chan .A).laser.code != (t.chan .A).laser.target
    (met (s 45 20 200) = true) ∧ (met (s 28 45 68) = true ∧ (s 28 45 68).fits .A 34 = true) ∧
      (met (s 28 45 67) = true ∧ (s 28 45 67).fits .A 34 = false) := by decide

theorem witness_RampComplete :
    let s (q : List Rec) := on fun c =>
      { c with
        queue := q, heads := c.heads.set 2 { hot with active := some { ctx with mode := .ready } }
        laser := { c.laser with
          code := 45, target := 45, motion := .ramp { tick := 0, old := true } 8 none false } }
    let met (t : State) : Bool :=
      t.live .A && (t.chan .A).laser.motion == .ramp { tick := 0, old := true } 8 none false
        && (t.chan .A).laser.code == (t.chan .A).laser.target
    (met (s [aRec .preparing]) = true ∧ ((s [aRec .preparing]).chan .A).readyMode (aRec .preparing) = true) ∧
      met (s []) = true := by decide

/-- Both channels at 28 with a request for 34, and a re-check due. -/
def contested (ceiling : Nat) (loser : Option Ch) : State :=
  let f (c : Channel) : Channel :=
    { c with laser := { c.laser with
      code := 28, target := 45, motion := .ramp { tick := 0, old := true } 8 (some 34) false } }
  { (ready.onChan .A f).onChan .B f with ceiling := ceiling, loser := loser, recheckDue := true }

theorem witness_StepGrant :
    let alone (ceiling : Nat) := { (on fun c => { c with laser := { c.laser with
      code := 28, target := 45, motion := .ramp { tick := 0, old := true } 8 (some 34) false } }) with
      recheckDue := true, ceiling := ceiling }
    ((alone 68).recheckDue = true ∧ ((alone 68).chan .A).laser.want = some 34 ∧
      ((alone 68).chan .B).laser.want = none ∧ (alone 68).fits .A 34 = true) ∧
      ((alone 67).recheckDue = true ∧ (alone 67).fits .A 34 = false) ∧
      ((contested 124 none).recheckDue = true ∧ ((contested 124 none).chan .A).laser.want = some 34 ∧
        ((contested 124 none).chan .B).laser.want = some 34 ∧ (contested 124 none).loser = none) ∧
      ((contested 124 (some .B)).loser = some .B ∧
        (contested 124 (some .B)).a.setup.priority = (contested 124 (some .B)).b.setup.priority) := by decide

/-- With room for one grant, the first of a contest takes it and the other is the loser (R108). -/
theorem test_contest :
    let t := after (exec .stepGrant (contested 124 (some .B)))
    t.b.laser.code = 34 ∧ t.a.laser.code = 28 ∧ t.loser = some .A := by decide

theorem witness_HeatTick_park :
    let s := on fun c =>
      { c with laser := { c.laser with
        code := 10, target := 10, park := false, parkDue := true, parkCount := 1000
        motion := .settled { tick := 0, old := true } 0 } }
    s.live .A = true ∧ (s.chan .A).laser.parkDue = true ∧ s.seqState .A = .idle ∧ s.lockedOut .A = false ∧
      s.recheckDue = false := by decide

theorem witness_HeatTick :
    let s := { (on fun c => { c with heads := c.heads.set 2 { hot with accum := 65535 } }) with heatTaken := false }
    ((s.now.toNat % 1024 = 0 ∧ s.heatTaken = false ∧ s.rstnLow = false ∧ s.a.heads.length = 8 ∧
      s.b.heads.length = 8) ∧ s.DeferredOk) ∧ State.reset.rstnLow = true :=
  ⟨⟨by decide, none_deferred _ (by decide)⟩, by decide⟩

theorem witness_FenceTickReached :
    let s := (burst (aRec .releasing)).onChan .A fun c =>
      { c with
        queue := [aRec .releasing, { bare .queued with inputOpen := true }], wg := filterAt true
        wedge := { c.wedge with lock := .coasting } }
    (s.live .A = true ∧ (s.chan .A).wedge.fence = false ∧ (s.chan .A).wedge.lock.predicts = true ∧
      0 ≤ (s.now - (s.chan .A).wedge.fenceTick).toInt ∧ (s.chan .A).selectedPending = none) ∧
      (s.chan .A).QueueOk ∧ (s.chan .A).LineOk :=
  ⟨by decide, by unfold Channel.QueueOk; decide, by unfold Channel.LineOk; decide⟩

theorem witness_AcquisitionAbandon :
    let s := wedged .acquiring 1 16064
    s.live .A = true ∧ (s.chan .A).wedge.lock = .acquiring ∧
      (s.chan .A).wedge.nominal + (s.chan .A).wedge.tolerance ≤ (s.now - (s.chan .A).wedge.last).toNat := by decide

theorem witness_WedgeMisses :
    let s (miss : Nat) := { (on fun c =>
      { c with wedge := { c.wedge with lock := .locked, next := 16000, miss := miss } }) with now := 16064 }
    let met (t : State) : Bool :=
      t.live .A && (t.chan .A).wedge.lock.predicts
        && decide (0 ≤ (t.now - ((t.chan .A).wedge.next + BitVec.ofNat 32 (t.chan .A).wedge.tolerance)).toInt)
    (met (s 0) = true ∧ ((s 0).chan .A).wedge.miss = 0 ∧ ((s 0).chan .A).queue = []) ∧
      met (s 1) = true ∧ ((s 1).chan .A).wedge.miss ≠ 0 := by decide

/-- Channel A with its relay in a phase and LKSx at a level. -/
def linked (p : LinkPhase) (lks : Bool) (f : Relay → Relay) : State := on fun c =>
  { c with lks := lks, relay := f { c.relay with phase := p } }

theorem witness_LinkFrames :
    ((linked .idle true id).live .A = true ∧ ((linked .idle true id).chan .A).lks = true ∧
      ((linked .idle true id).chan .A).relay.slot = none) ∧
      (((linked .catchUp true id).chan .A).relay.phase = .catchUp ∧ ((linked .catchUp true id).chan .A).lks = true) ∧
      (((linked .wire true id).chan .A).relay.phase = .wire ∧ ((linked .wire true id).chan .A).lks = true) ∧
      let s (e : Bool) := { linked .catchUp false fun r => { r with start := 100, goal := 8, ending := e } with
        now := 612 }
      ((s true).live .A = true ∧ 0 ≤ ((s true).now - 100#32).toInt ∧ 64 * 8 ≤ ((s true).now - 100#32).toNat ∧
        ((s true).chan .A).relay.slot = none ∧ ((s false).chan .A).relay.ending = false) := by decide

/-- The lines in CATCH-UP: bit 2 of the header in its low half, and high from tick 32 on; LKCx held (R140, R141). -/
theorem test_catchUp_lines :
    let s (now : Tick) := { linked .catchUp false fun r =>
      { r with start := 100, stretch := 100, goal := 8, taken := [false, true] ++ List.replicate 6 false } with
        now := now }
    (s 195).plks .A = false ∧ (s 195).plkcLevel .A true true = false ∧ (s 196).plkcLevel .A true true = true ∧
      (s 164).plkdLevel .A true true = true ∧ (s 163).plkdLevel .A true true = false ∧
      (s 164).lkcLevel .A true true = false ∧ (s 99).plks .A = true := by decide

/-- States for the clauses on the lines: each phase, with no frame waiting and with one, a write and a read. -/
theorem witness_LinkFrames_lines :
    let s (p : LinkPhase) (w : Bool) (b : Bool) := linked p false fun r => { r with waiting := w, taken := [b] }
    (∀ p w b, ((s p w b).chan .A).relay.phase = p ∧ ((s p w b).chan .A).relay.waiting = w ∧
      ((s p w b).chan .A).relay.taken.head? = some b) ∧ (∀ w, (s .through w false).live .A = true) ∧
      0 ≤ ((s .replay false true).now - ((s .replay false true).chan .A).relay.start).toInt :=
  ⟨fun p w b => ⟨rfl, rfl, rfl⟩, fun _ => rfl, by decide⟩

theorem witness_LinkHeaderTaken :
    let s := linked .header false id
    let held := s.onChan .A fun c => { c with queue := [aRec .releasing] }
    (s.live .A = true ∧ (s.chan .A).relay.phase = .header ∧ (s.chan .A).relay.lastOwn.old = true ∧
      (s.chan .A).queue = []) ∧
      ((0x09#8).getLsbD 7 = false ∧ (0x09#8).toNat % 128 = s.selectReg.toNat) ∧
      (held.live .A = true ∧ (held.chan .A).relay.phase = .header ∧ (held.chan .A).queue ≠ []) := by decide

/-- The dwell of every context of the small states is 8. -/
theorem dwell_ready (s : State) (h : s.a.heads = ready.a.heads) (g : HeadNo) (x : Context)
    (hx : (s.chan .A).contextOf g = some x) : 1 ≤ x.dwell := by
  have key : ∀ g : HeadNo, (ready.a.contextOf g = none ∨ ready.a.contextOf g = some ctx) := by decide
  have e : (s.chan .A).contextOf g = ready.a.contextOf g := by
    simp only [State.chan, Channel.contextOf, Channel.headAt, h]
  rw [e] at hx
  rcases key g with k | k <;> rw [k] at hx <;> cases hx
  decide

/-- A replay asked for 63 ticks after the end of a replay begins one tick later, and 64 ticks after it at once
(R140). -/
theorem test_quiet_time :
    let r (now : Tick) := ({ initialRelay 0 .hold with lastOwn := stampAt 0 } : Relay).ownStart now 0
    r 63 = 64 ∧ r 64 = 64 ∧ r 65 = 65 := by decide

theorem witness_HeadSwitch :
    let bits := List.replicate 21 false ++ [true, true, true]
    let through := linked .through false fun r =>
      { r with taken := bits.take 8, slot := some { bits := bits.take 8, complete := false } }
    let replay := { linked .replay false fun r =>
      { r with goal := 24, slot := some { bits := bits, complete := true } } with now := 1536 }
    (through.live .A = true ∧ (through.chan .A).queue = [] ∧ bits.length = 24 ∧
      (through.chan .A).relay.slot.isSome = true ∧ (through.chan .A).relay.waiting = false ∧
      (through.chan .A).relay.taken ++ bits.drop 8 = bits) ∧
      (∀ g x, (through.chan .A).contextOf g = some x → 1 ≤ x.dwell) ∧
      (replay.live .A = true ∧ (replay.chan .A).queue = [] ∧
        0 ≤ (replay.now - (replay.chan .A).relay.start).toInt ∧
        1536 ≤ (replay.now - (replay.chan .A).relay.start).toNat) ∧
      (∀ g x, (replay.chan .A).contextOf g = some x → 1 ≤ x.dwell) :=
  ⟨by decide, dwell_ready _ rfl, by decide, dwell_ready _ rfl⟩

/-- A whole head-select write that ends in CATCH-UP, at the tick its own clocking is over. -/
theorem witness_HeadSwitch_catchUp :
    let bits := List.replicate 21 false ++ [true, true, true]
    let s := { linked .catchUp true fun r =>
      { r with goal := 24, ending := true, taken := bits, slot := some { bits := bits, complete := false } } with
        now := 1536 }
    (s.live .A = true ∧ (s.chan .A).queue = [] ∧ bits.length = 24 ∧ (s.chan .A).relay.slot.isSome = true ∧
      0 ≤ (s.now - (s.chan .A).relay.start).toInt ∧
      64 * (s.chan .A).relay.goal ≤ (s.now - (s.chan .A).relay.start).toNat) ∧
      ∀ g x, (s.chan .A).contextOf g = some x → 1 ≤ x.dwell :=
  ⟨by decide, dwell_ready _ rfl⟩

theorem witness_LinkFrameEnd :
    let s (p : LinkPhase) (slot : Option Slot) := linked p false fun r => { r with slot := slot }
    let some_ : Option Slot := some { bits := [], complete := false }
    ((linked .hold false fun r => { r with waiting := true }).live .A = true ∧
      ((linked .hold false fun r => { r with waiting := true }).chan .A).relay.waiting = true) ∧
      ((s .wire none).live .A = true ∧ ((s .wire none).chan .A).lks = false ∧
        ((s .wire none).chan .A).relay.waiting = false) ∧
      (((s .through some_).chan .A).relay.slot.isSome = true ∧ (s .through some_).live .A = true) ∧
      ((s .hold some_).live .A = true ∧ ((s .hold some_).chan .A).lks = false) := by decide

/-- The ends of a frame in CATCH-UP: no bit begun, some, all 24, and a whole frame before LKCx has fallen. -/
theorem witness_LinkFrameEnd_catchUp :
    let s (now : Tick) := { linked .catchUp false fun r =>
      { r with
        start := 100, stretch := 100, goal := 24, taken := List.replicate 24 true
        slot := some { bits := List.replicate 24 true, complete := false } } with now := now }
    let begun (now : Tick) : Nat := if 0 ≤ (now - 100).toInt then min 24 ((now - 100).toNat / 64 + 1) else 0
    (∀ now, ((s now).chan .A).relay.phase = .catchUp) ∧ (s 50).live .A = true ∧
      ((50#32 - 100).toInt < 0 ∧ ((s 50).chan .A).relay.lastOwn.old = true) ∧
      begun 99 = 0 ∧ begun 100 = 1 ∧ begun 1572 = 24 :=
  ⟨fun _ => rfl, by decide⟩

theorem witness_HeldFrames :
    let s (x : Slot) (last : Stamp) := { linked .hold false fun r =>
      { r with slot := some x, taken := List.replicate 8 false, lastOwn := last } with now := 64 }
    let whole : Slot := { bits := [], complete := true }
    let part : Slot := { bits := [], complete := false }
    ((s whole { tick := 64, old := true }).live .A = true ∧
      ((s whole { tick := 64, old := true }).chan .A).queue = []) ∧
      (64 ≤ ((s part { tick := 0, old := false }).now - 0).toNat ∧
        (((s part { tick := 0, old := false }).chan .A).relay.taken ++ List.replicate 16 true).length ≤ 24) ∧
      let w := linked .idle false fun r => { r with waiting := true, lastOwn := { tick := 0, old := false } }
      (w.live .A = true ∧ (w.chan .A).relay.slot = none ∧ (w.chan .A).relay.waiting = true) := by decide

theorem witness_HoldLimitExpiry :
    let s := { (burst (aRec .releasing)).onChan .A fun c =>
      { c with relay := { c.relay with
        phase := .hold, slot := some { bits := [], complete := false }, holdStart := some 0 } } with now := 65536 }
    s.live .A = true ∧ (s.chan .A).relay.phase = .hold ∧ (s.chan .A).queue = [aRec .releasing] ∧
      (s.chan .A).relay.holdStart = some 0 ∧ (s.chan .A).setup.holdLimit * 64 ≤ (s.now - 0).toNat ∧
      (s.chan .A).selectedPending = none := by decide

theorem witness_FrameRoundTrip :
    (board.live .A = true ∧ (board.chan .A).intake = .gap ∧ (board.chan .A).recv.hunt = .hunting 0 ∧
      board.overrun = false ∧ (List.replicate 31 (0 : Word)).length ≤ 31 ∧ board.engine = none ∧
      board.directives = []) ∧
      (let s := { atEnd board (frame 6 []) with directives := List.replicate 4 (frame 6 []) }
       4 ≤ s.directives.length ∧ s.engine.isSome = true ∧ s.live .A = true) := by decide

theorem witness_BadFrames :
    (board.live .A = true ∧ (board.chan .A).intake = .gap ∧ (board.chan .A).recv.hunt = .hunting 0) ∧
      (0x97D4#16 ≠ crcSymbols 0x72C9#16 (List.replicate 8 false)) ∧ [0x1800#16] = [] ++ 0x1800#16 :: [] := by
  decide

/-- A RELEASE that is not due: PRGx high, the window open, a record that is RELEASING already. -/
theorem witness_Release_not :
    ((on fun c => { c with prg := true }).chan .A).prg = true ∧
      ((on fun c => { c with wedge := { c.wedge with fence := true } }).chan .A).wedge.fence = true ∧
      ((burst (aRec .releasing)).chan .A).queue = [aRec .releasing] ∧
      (aRec .releasing).state ≠ .preparing := by decide

theorem witness_OverrunFilter :
    let s := { atEnd board (frame 6 []) with overrun := true, directives := List.replicate 3 (frame 6 []) }
    let full := { s with directives := List.replicate 4 (frame 6 []) }
    let waits := s.onChan .A fun c => { c with recv := { c.recv with waitingClear := some (frame 7 [1]) } }
    (s.live .A = true ∧ (s.chan .A).intake = .gap ∧ (s.chan .A).recv.hunt = .hunting 0 ∧ s.overrun = true ∧
      s.directives.length < 4 ∧ (s.chan .A).recv.waitingClear = none ∧ s.engine.isSome = true) ∧
      (full.overrun = true ∧ 4 ≤ full.directives.length ∧ full.live .A = true) ∧
      ((waits.chan .A).recv.waitingClear = some (frame 7 [1]) ∧ waits.directives.length < 4 ∧
        waits.live .A = true ∧ waits.overrun = true ∧ (waits.chan .A).intake = .gap) := by decide

theorem witness_PayloadRoundTrip :
    let x : Context :=
      { ctx with
        step := 31, dwell := 63, lead := 1023, readyTimeout := 4095, tail := 255, coldLead := 4095, leak := 15
        tripMark := 65535, bands := List.replicate 7 { bound := 4095, code := 63, adjust := -128 } }
    (x.lead ≤ 1023 ∧ x.ranges.length ≤ 2 ∧ x.bands.length ≤ 7 ∧ (∀ r ∈ x.ranges, r.lo ≤ 63 ∧ r.hi ≤ 63) ∧
      ∀ b ∈ x.bands, b.bound ≤ 4095 ∧ -128 ≤ b.adjust ∧ b.adjust ≤ 127) ∧
      initialSetup.nominal ≤ 1048575 ∧ initialSetup.holdLimit ≤ 65535 := by decide

/-- The state at a frame's tick of application, with the checks that pass or the first that fails. -/
def applies (s : State) (e : Entry) (r : Option RefuseReason) : Bool :=
  (atEnd s e).applying == some e && (atEnd s e).firstRefusal e == r

theorem witness_DirectiveRefused :
    applies ready (frame 0 []) (some .unknownKind) = true ∧ applies ready (frame 1 []) (some .length) = true ∧
      applies (State.reset.leaveReset 9 0) { frame 8 [] with target := .B } (some .channelAbsent) = true ∧
      applies (State.reset.leaveReset 9 0) (frame 9 [5]) (some .notBench) = true ∧
      applies (burst (aRec .tail)) (frame 5 [1, 1]) (some .busy) = true ∧
      applies (on fun c => { c with setup := { c.setup with headsCount := 2 } }) (frame 2 [])
        (some .headRange) = true := by decide

theorem witness_Contexts :
    (applies ready (frame 1 ctx.words) none = true ∧ ((atEnd ready (frame 1 ctx.words)).chan .A).heads.length = 8 ∧
      ((atEnd ready (frame 1 ctx.words)).chan .A).hasRecordOf 2 = false) ∧
      (applies (burst (aRec .tail)) (frame 1 ctx.words) none = true ∧
        ((burst (aRec .tail)).chan .A).hasRecordOf 2 = true) ∧
      applies ready (frame 1 (ctx.words ++ [0])) none = true ∧
      applies ready (frame 1 ({ ctx with releaseMark := 200 }).words) none = true ∧
      applies ready (frame 1 (List.replicate 10 0)) none = true ∧
      applies ready (frame 2 []) none = true ∧ applies (burst (aRec .tail)) (frame 2 []) none = true ∧
      applies board (frame 2 []) none = true := by decide

theorem witness_QuietDirectives :
    (applies ready (frame 3 [63, 0xFF03]) none = true ∧ ready.recheckDue = false ∧ ready.levels.length = 64) ∧
      applies ready (frame 3 [62, 1, 2, 3]) none = true ∧
      applies (on fun c => { c with laser := { c.laser with code := 63 } }) (frame 3 [63, 0xFFFF]) none = true ∧
      (applies ready (frame 5 [0, 0]) none = true) ∧
      applies (on fun c => { c with laser := { c.laser with code := 63 } }) (frame 5 [125, 0]) none = true ∧
      applies ready (frame 5 [1023, 0xFF7F]) none = true := by decide

theorem witness_ChannelSetup :
    let two := { initialSetup with headsCount := 2 }
    applies ready (frame 4 ({ initialSetup with tolerance := 0 }).words) none = true ∧
      (applies (burst (aRec .tail)) (frame 4 two.words) none = true ∧
        ((burst (aRec .tail)).chan .A).queue ≠ []) ∧
      (applies ready (frame 4 ({ initialSetup with headsCount := 3 }).words) none = true ∧
        (ready.chan .A).relay.selected = some 2) ∧
      applies ready (frame 4 ({ initialSetup with parkDelay := 0 }).words) none = true ∧
      applies ready (frame 4 two.words) none = true ∧ (ready.chan .A).queue = [] ∧
      applies (burst (aRec .tail)) (frame 4 ({ two with tolerance := 0 }).words) none = true := by decide

theorem witness_Reports :
    (applies ready (frame 6 []) none = true ∧ (atEnd ready (frame 6 [])).sending = none) ∧
      let s (p : Bool) := { ready with
        sending := some { bytes := [0xC3#8], start := 0, bitTime := 16 }, now := 400, reportPending := p }
      (applies (s false) (frame 6 []) none = true ∧ (s false).sending.isSome = true ∧ (s false).rstnLow = false ∧
        16 * (15 + 10 * 1) ≤ ((s true).now - 0).toNat) ∧
      let sent (k : Tick) := { ready with
        sending := some { bytes := [0xC3#8], start := 0, bitTime := 16 }, now := 16 * k }
      ((sent 12).now - 0).toNat / 16 = 12 ∧ ((sent 16).now - 0).toNat / 16 = 15 + 10 * 0 + 1 ∧
      (State.reset.leaveReset 9 0).present .B = false ∧ board.present .B = true := by decide

/-- The lead byte 0xC3 on RPT: start bit, then 1 1 0 0 0 0 1 1 from the least significant place on, stop bit (R172). -/
theorem test_reportFrameEnd_line :
    (List.range 10).map (fun i => ({ bytes := [0xC3#8], start := 0, bitTime := 16 } : Transmission).level (15 + i))
      = [false, true, true, false, false, false, false, true, true, true] := by decide

theorem witness_Clear :
    let trip : Incident := { kind := .thermalTrip, ch := .A, head := some 2, burst := none, detail := 300 }
    let later := { (List.range 16).foldl (fun s _ => s.post { trip with kind := .rateSlow }) ready with
      deferred := [{ incident := trip, fresh := false, tied := false }], overflow := true }
    (applies ready (frame 7 [0]) none = true ∧ ready.deferred = [] ∧ ready.lockedOut .A = false ∧
      ready.lockedOut .B = false) ∧
      (applies later (frame 7 [1]) none = true ∧ (later.incidents.drop 1).length = 15 ∧
        later.lockedOut .A = true ∧ later.lockedOut .B = false) ∧
      (applies (posted .thermalTrip) (frame 7 [1]) none = true ∧ (posted .thermalTrip).lockedOut .A = true ∧
        (posted .thermalTrip).incidents.drop 1 = [] ∧ (posted .thermalTrip).live .A = true) ∧
      (let s := (posted .thermalTrip).onChan .A fun c => c.setHead 2 { hot with accum := 300 }
       applies s (frame 7 [1]) none = true ∧ s.lockedOut .A = true ∧ s.recheckDue = false ∧ s.deferred = [] ∧
         (s.chan .A).contextOf 2 = some ctx ∧ ctx.tripMark ≤ ((s.chan .A).headAt 2).accum) ∧
      ({ ready with deferred := [{ incident := trip, fresh := false, tied := false }] } : State).incidents.length < 16 := by decide

theorem witness_ChannelReset :
    (applies (burst (aRec .releasing)) (frame 8 []) none = true ∧
      ((burst (aRec .releasing)).chan .A).selectedPending = none) ∧
      ∀ x, ((atEnd (burst (aRec .releasing)) (frame 8 [])).chan .A).context = some x → 1 ≤ x.dwell :=
  ⟨by decide, fun x hx => dwell_ready _ rfl 2 x hx⟩

theorem witness_Forcing :
    applies ready (frame 9 [63]) none = true ∧ applies ready (frame 9 [64]) none = true ∧
      applies ready (frame 9 [0xFFFE]) none = true ∧ applies ready (frame 9 [0xFFFF]) none = true ∧
      ready.recheckDue = false := by decide

/-! ### States for the laws -/

/-- Every invariant of the laws that a channel holds. -/
def lawful (s : State) : Prop :=
  ∀ ch, s.LockoutOk ch ∧ (s.chan ch).LineOk ∧ (∀ r ∈ (s.chan ch).queue, r.CountsOk) ∧ (s.chan ch).QueueOk ∧
    (s.chan ch).OneHead ∧ (s.chan ch).ServoOk ∧ (s.chan ch).PairOk ∧ s.ForceOk ch ∧ (s.chan ch).HeatOk ∧
    (s.chan ch).RangesOk

/-- The part in the middle of a burst of channel A is lawful, and its next step takes a tick. -/
theorem witness_laws :
    let s := burst (aRec .releasing)
    lawful s ∧ (s.IncidentsOk ∧ s.DeferredOk ∧ s.LevelsRise ∧ s.SupplyOk) ∧ step s = .next s.tick ∧
      (s.chan .A).hasRecordOf 2 = true ∧ (s.tick.chan .A).hasRecordOf 2 = true := by
  refine ⟨?_, ⟨by unfold State.IncidentsOk; decide, none_deferred _ (by decide),
    by unfold State.LevelsRise; decide, by unfold State.SupplyOk; decide⟩, rfl, by decide, by decide⟩
  intro ch
  cases ch <;>
    refine ⟨by unfold State.LockoutOk; decide, by unfold Channel.LineOk; decide,
      by unfold Rec.CountsOk; decide, by unfold Channel.QueueOk; decide, by unfold Channel.OneHead; decide,
      by unfold Channel.ServoOk; decide, by unfold Channel.PairOk; decide, by unfold State.ForceOk; decide,
      by unfold Channel.HeatOk; decide, ?_⟩
  all_goals
    unfold Channel.RangesOk Head.CodesOk Context.CodesOk rangesOk clearOf
    decide

end Sys2Proof.Tests
end

section
/-! PROOFS. What a step can do to the burst queue, the delay line and the gates of a channel, said once: the moves of a channel. -/

namespace Sys2Proof.Machine

open Relation

/-! ### The gear of a channel -/

/-- The fields of a channel that the laws of the queue and of the gates speak of. -/
structure Gear where
  line     : List Symbol
  queue    : List Rec
  wg       : Bool
  sg       : Bool
  selected : Option HeadNo
  held     : Bool
  phase    : LinkPhase
  fence    : Bool
  pwg      : Bool
  prg      : Bool

/-- The gear of a channel. -/
def Channel.gear (c : Channel) : Gear :=
  { line := c.line, queue := c.queue, wg := c.wg.level, sg := c.sg.level, selected := c.relay.selected
    held := c.relay.slot.isSome, phase := c.relay.phase, fence := c.wedge.fence, pwg := c.pwg, prg := c.prg }

theorem gear_ext {c d : Channel} (h : d.gear = c.gear) :
    d.line = c.line ∧ d.queue = c.queue ∧ d.wg.level = c.wg.level ∧ d.sg.level = c.sg.level ∧
      d.relay.selected = c.relay.selected ∧ d.relay.slot.isSome = c.relay.slot.isSome ∧
      d.relay.phase = c.relay.phase ∧ d.wedge.fence = c.wedge.fence ∧ d.pwg = c.pwg ∧ d.prg = c.prg := by
  simpa [Channel.gear] using h

/-- The front of a channel: what the write clock samples and counts, which no move of a record touches (R1 to R4, R20). -/
structure Front where
  wg           : Filter
  sg           : Filter
  rg           : Filter
  hold         : List Bool
  rate         : RateMeter
  releaseTaken : Bool

/-- The front of a channel. -/
def Channel.front (c : Channel) : Front :=
  { wg := c.wg, sg := c.sg, rg := c.rg, hold := c.hold, rate := c.rate, releaseTaken := c.releaseTaken }

theorem front_ext {c d : Channel} (h : d.front = c.front) :
    d.wg = c.wg ∧ d.sg = c.sg ∧ d.rg = c.rg ∧ d.hold = c.hold ∧ d.rate = c.rate ∧ d.releaseTaken = c.releaseTaken := by
  simpa [Channel.front] using h

/-- The slot's part of OneHead: a head-select write in the slot meets an empty queue unless it is held (R142, R145). -/
def Relay.SlotOk (r : Relay) (q : List Rec) : Prop :=
  (r.slot.isSome = true → r.phase ≠ .hold → q = []) ∧ (r.phase = .hold → r.slot.isSome = true) ∧
    (r.phase = .replay → r.slot.isSome = true)

theorem oneHead_iff (c : Channel) :
    c.OneHead ↔ (∀ r ∈ c.queue, c.relay.selected = some r.head) ∧ c.relay.SlotOk c.queue := Iff.rfl

/-! ### The moves -/

/-- What the contexts, the monitors and the fence window can do to a channel by themselves: records are only removed,
no gate rises, and the front stays. -/
inductive Channel.Quiet : Channel → Channel → Prop
  | same {c d} (h : d.gear = c.gear) (hf : d.front = c.front) : Channel.Quiet c d
  /-- R56, R57, R58. -/
  | clear (c t) : Channel.Quiet c (c.removeAll t)
  /-- R53, R97. -/
  | fence (c) : Channel.Quiet c c.beginFence

/-- A record seated as the head record. -/
def Channel.seat (c : Channel) (code : Code) (cold : Nat) (bridged : Bool) : Channel :=
  c.onHead fun r => r.asHead code cold bridged

/-- The newest record put behind the others, filtered WGx being high. -/
def Channel.takeOn (c : Channel) (r : Rec) : Channel := { c with wg := filterAt true, queue := c.queue ++ [r] }

/-- The channel at a servo-gate rise, before the window opens: PWGx low, a RELEASING head record gone (R54). -/
def Channel.encroached (c : Channel) (t : Tick) : Channel :=
  let d : Channel := { c with sg := filterAt true }
  if c.isReleasing then (d.dropGate t).dropHead
  else { d with pwg := false, pwgFallDue := false, pwgFall := if d.pwg then stampAt t else d.pwgFall }

/-- What one event can do to the gear of a channel. -/
inductive Channel.Move : Channel → Channel → Prop
  | quiet {c d} (h : Channel.Quiet c d) : Channel.Move c d
  /-- R2, R20: the front changes alone. -/
  | front {c d} (h : d.gear = c.gear) : Channel.Move c d
  /-- R98. -/
  | fenceEnds (c) (hs : c.sg.level = false) : Channel.Move c { c with wedge := { c.wedge with fence := false } }
  /-- R140 to R149: a new head is selected over an empty queue alone. -/
  | relay (c r) (hs : c.relay.SlotOk c.queue → r.SlotOk c.queue)
      (hh : r.selected = c.relay.selected ∨ (c.relay.SlotOk c.queue → c.queue = [])) :
      Channel.Move c { c with relay := r }
  /-- R36, R44, R52. -/
  | depart (c code cold b) : Channel.Move c (c.dropHead.seat code cold b)
  /-- R45. -/
  | release (c n) (hp : c.prg = false) (hf : c.wedge.fence = false) : Channel.Move c (c.onHead fun r => r.asReleased n)
  /-- R49, R51. -/
  | tail (c t) : Channel.Move c (c.onHead fun r => r.enterTail t)
  /-- R48. -/
  | truncate (c t r rest) (hq : c.queue = r :: rest) :
      Channel.Move c { c.onHead (fun r => r.truncate.enterTail t) with line := c.line.drop r.run }
  /-- R47. -/
  | send (c r rest x line) (hq : c.queue = r :: rest) (hr : r.state = .releasing) (h1 : 1 ≤ r.run)
      (hl : c.line = x :: line) : Channel.Move c { c.onHead Rec.sendOne with line := line, pwg := true }
  /-- R6. -/
  | gateFalls (c t) : Channel.Move c (c.dropGate t)
  /-- R42. -/
  | store (c r x) (ho : c.openRec = some r) (hl : c.line.length < 4096) :
      Channel.Move c { c with line := c.line ++ [{ seq := r.seq, value := x }], queue := onLast Rec.storeOne c.queue }
  /-- R42. -/
  | discard (c) : Channel.Move c { c with queue := onLast Rec.dropOne c.queue }
  /-- R43. -/
  | abort (c r) (ho : c.openRec = some r) : Channel.Move c (c.dropNewest r)
  /-- R5. -/
  | writeFalls (c) : Channel.Move c
      { c with wg := filterAt false, queue := c.queue.map fun r => { r with inputOpen := false } }
  /-- R38, R39: a refused rise. -/
  | writeRises (c) : Channel.Move c { c with wg := filterAt true }
  /-- R41: the head record of an empty queue. -/
  | joinsFirst (c a n code cold) (hq : c.queue = []) (hs : c.relay.selected = some a.head)
      (hh : c.relay.slot = none) : Channel.Move c ((c.takeOn (newRecord a n)).seat code cold false)
  /-- R41: behind a record whose tail it ends. -/
  | joinsBridged (c a n code cold) (hw : c.wg.level = false) (hl : c.queue.length < 8)
      (hs : c.relay.selected = some a.head) (hh : c.relay.slot = none) :
      Channel.Move c ((c.dropHead.takeOn (newRecord a n)).seat code cold true)
  /-- R41: in QUEUED. -/
  | joins (c a n) (hw : c.wg.level = false) (hq : c.queue ≠ []) (hl : c.queue.length < 8)
      (hs : c.relay.selected = some a.head) (hh : c.relay.slot = none) :
      Channel.Move c (c.takeOn (newRecord a n))
  /-- R7. -/
  | readRises (c) (hg : c.pwg = false) (hr : c.isReleasing = false) : Channel.Move c { c with prg := true }
  /-- R7. -/
  | readFalls (c) : Channel.Move c { c with prg := false }
  /-- R54: with the window open already, the next record becomes the head record. -/
  | encroaches (c t code cold) (hf : c.wedge.fence = true) (hr : c.isReleasing = true) :
      Channel.Move c ((c.encroached t).seat code cold false)
  /-- R54: with the window open already and no RELEASING record. -/
  | servoRises (c t) (hf : c.wedge.fence = true) (hr : c.isReleasing = false) : Channel.Move c (c.encroached t)
  /-- R54, R97: the window opens. -/
  | servoOpens (c t) : Channel.Move c (c.encroached t).beginFence
  /-- R98. -/
  | servoFalls (c) : Channel.Move c { c with sg := filterAt false }
  /-- R16, R58, R98. -/
  | channelReset (c t) : Channel.Move c (c.resetBlocks t)
  /-- R14, R15. -/
  | reset (c t phase lrdy pfi lks accums) (hp : phase ≠ .hold ∧ phase ≠ .replay) :
      Channel.Move c (initialChannel t phase lrdy pfi lks accums)

/-! ### What a state leads to -/

/-- From `s` to `t` each channel moves by steps of `R`, and the tick count, RSTN, the straps and the commands that wait
stay (R14, R17). -/
structure State.Leads (R : Channel → Channel → Prop) (s t : State) : Prop where
  chan    : ∀ ch, ReflTransGen R (s.chan ch) (t.chan ch)
  pending : t.pending = s.pending
  now     : t.now = s.now
  rstnLow : t.rstnLow = s.rstnLow
  straps  : t.straps = s.straps

/-- What the contexts, the monitors and the fence window can do. -/
abbrev State.Settles : State → State → Prop := State.Leads Channel.Quiet

/-- What any event but a reset of the whole part can do. -/
abbrev State.Moves : State → State → Prop := State.Leads Channel.Move

section
variable {R : Channel → Channel → Prop}

theorem State.Leads.refl (s : State) : s.Leads R s := ⟨fun _ => .refl, rfl, rfl, rfl, rfl⟩

theorem State.Leads.trans {s t u : State} (h : s.Leads R t) (k : t.Leads R u) : s.Leads R u :=
  ⟨fun ch => (h.chan ch).trans (k.chan ch), k.pending.trans h.pending, k.now.trans h.now,
    k.rstnLow.trans h.rstnLow, k.straps.trans h.straps⟩

theorem State.Leads.mono {R' : Channel → Channel → Prop} (hR : ∀ c d, R c d → R' c d) {s t : State} (h : s.Leads R t) :
    s.Leads R' t :=
  ⟨fun ch => ReflTransGen.mono hR _ _ (h.chan ch), h.pending, h.now, h.rstnLow, h.straps⟩

/-- A change of one channel leads on when the change is one of the steps. -/
theorem leads_onChan (s : State) (ch : Ch) (f : Channel → Channel) (h : ReflTransGen R (s.chan ch) (f (s.chan ch))) :
    s.Leads R (s.onChan ch f) := by
  refine ⟨fun x => ?_, by simp, by simp, by simp, by simp⟩
  rcases ch_cases ch x with rfl | rfl
  · simpa using h
  · rw [chan_onChan_other]

end

theorem State.Leads.moves {s t : State} (h : s.Settles t) : s.Moves t := h.mono fun _ _ => .quiet

/-- A change of shared fields that no law of a channel reads settles. -/
theorem settles_of_shared {s t : State} (ha : t.a = s.a) (hb : t.b = s.b) (hp : t.pending = s.pending)
    (hn : t.now = s.now) (hr : t.rstnLow = s.rstnLow) (hs : t.straps = s.straps) : s.Settles t :=
  ⟨fun ch => .single (.same (congrArg _ (chan_congr ha hb ch)) (congrArg _ (chan_congr ha hb ch))), hp, hn, hr, hs⟩

/-- A change of the sequencers and of the arbiter settles. -/
theorem settles_of_sansLaser {s t : State} (h : t.sansLaser = s.sansLaser) : s.Settles t :=
  ⟨fun ch => .single (.same (congrArg Channel.gear (sansLaser_chan h ch) :)
      (congrArg Channel.front (sansLaser_chan h ch) :)), sansLaser_pending h, sansLaser_now h, sansLaser_rstnLow h,
    sansLaser_straps h⟩

/-- A change of one channel outside its gear and its front settles. -/
theorem settles_onChan (s : State) (ch : Ch) (f : Channel → Channel) (h : (f (s.chan ch)).gear = (s.chan ch).gear)
    (hf : (f (s.chan ch)).front = (s.chan ch).front := by rfl) : s.Settles (s.onChan ch f) :=
  leads_onChan s ch f (.single (.same h hf))

/-- A change of one channel that is a move. -/
theorem moves_onChan (s : State) (ch : Ch) (f : Channel → Channel) (h : Channel.Move (s.chan ch) (f (s.chan ch))) :
    s.Moves (s.onChan ch f) :=
  leads_onChan s ch f (.single h)

/-- A change of one channel whose gear is that of a move. -/
theorem moves_of_gear (s : State) (ch : Ch) (f : Channel → Channel) {d : Channel} (h : Channel.Move (s.chan ch) d)
    (hg : (f (s.chan ch)).gear = d.gear) : s.Moves (s.onChan ch f) :=
  leads_onChan s ch f (.head h (.single (.front hg)))

/-- A change of one channel outside its gear. -/
theorem moves_of_front (s : State) (ch : Ch) (f : Channel → Channel) (hg : (f (s.chan ch)).gear = (s.chan ch).gear) :
    s.Moves (s.onChan ch f) :=
  leads_onChan s ch f (.single (.front hg))

/-! ### Changes of one channel that are a move only together -/

/-- From `s` to `t` channel `ch` may do anything; the other one settles, and the clock and the straps stay. -/
structure State.Apart (ch : Ch) (s t : State) : Prop where
  other   : ReflTransGen Channel.Quiet (s.chan (otherCh ch)) (t.chan (otherCh ch))
  pending : t.pending = s.pending
  now     : t.now = s.now
  rstnLow : t.rstnLow = s.rstnLow
  straps  : t.straps = s.straps

theorem apart_onChan (s : State) (ch : Ch) (f : Channel → Channel) : State.Apart ch s (s.onChan ch f) :=
  ⟨by rw [chan_onChan_other], by simp, by simp, by simp, by simp⟩

theorem State.Leads.apart {s t : State} (h : s.Settles t) (ch : Ch) : State.Apart ch s t :=
  ⟨h.chan _, h.pending, h.now, h.rstnLow, h.straps⟩

theorem State.Apart.trans {ch : Ch} {s t u : State} (h : State.Apart ch s t) (k : State.Apart ch t u) :
    State.Apart ch s u :=
  ⟨h.other.trans k.other, k.pending.trans h.pending, k.now.trans h.now, k.rstnLow.trans h.rstnLow,
    k.straps.trans h.straps⟩

/-- With the channel's own way from `s` to `t` known, the states' way is. -/
theorem State.Apart.moves {ch : Ch} {s t : State} (h : State.Apart ch s t)
    (hc : ReflTransGen Channel.Move (s.chan ch) (t.chan ch)) : s.Moves t := by
  refine ⟨fun x => ?_, h.pending, h.now, h.rstnLow, h.straps⟩
  rcases ch_cases ch x with rfl | rfl
  · exact hc
  · exact ReflTransGen.mono (fun _ _ => .quiet) _ _ h.other

/-- What settles leaves the front. -/
theorem quiets_front {c d : Channel} (h : ReflTransGen Channel.Quiet c d) : d.front = c.front := by
  induction h with
  | refl => rfl
  | tail _ h ih =>
    refine Eq.trans ?_ ih
    cases h with
    | same _ hf => exact hf
    | clear | fence => rfl

theorem State.Leads.front {s t : State} (h : s.Settles t) (ch : Ch) : (t.chan ch).front = (s.chan ch).front :=
  quiets_front (h.chan ch)

end Sys2Proof.Machine
end

section
/-! PROOFS. What the shared operations lead to: incidents, lockout, the fence window, promotion. -/

namespace Sys2Proof.Machine

open Relation

/-! ### Incidents -/

theorem post_settles (s : State) (i : Incident) : s.Settles (s.post i) := by
  rcases post_cases s i with ⟨-, h⟩ | ⟨-, -, -, h⟩ | ⟨-, -, h⟩ <;> rw [h] <;>
    exact settles_of_shared rfl rfl rfl rfl rfl rfl

theorem postAll_settles (is : List Incident) (s : State) : s.Settles (s.postAll is) := by
  induction is generalizing s with
  | nil => exact .refl s
  | cons i is ih => exact (post_settles s i).trans (ih _)

@[simp] theorem chosen_now (s : State) : s.chosen.now = s.now := rfl

/-- A free choice settles: no channel and no clock reads how many were made. -/
theorem chosen_settles (s : State) : s.Settles s.chosen := settles_of_shared rfl rfl rfl rfl rfl rfl

theorem retarget_settles (s : State) (ch : Ch) : s.Settles (s.retarget ch) :=
  settles_of_sansLaser (retarget_sansLaser s ch)

theorem directZero_settles (s : State) (ch : Ch) : s.Settles (s.directZero ch) :=
  settles_of_sansLaser (directZero_sansLaser s ch)

theorem takeStep_settles (s : State) (ch : Ch) : s.Settles (s.takeStep ch) :=
  settles_of_sansLaser (takeStep_sansLaser s ch)

theorem settleRecheck_settles (s : State) : s.Settles s.settleRecheck :=
  settles_of_sansLaser (settleRecheck_sansLaser s)

/-- Effects one behind another in the order of a free choice: one of the two orders is taken. -/
theorem eitherOrder_cases (s : State) (f g : State → State) :
    s.eitherOrder f g = g (f s.chosen) ∨ s.eitherOrder f g = f (g s.chosen) := by
  unfold State.eitherOrder
  split
  · exact .inl rfl
  · exact .inr rfl

/-- Operations folded over a list lead on when each of them does. -/
theorem foldl_settles {α : Type} (f : State → α → State) (h : ∀ (s : State) x, s.Settles (f s x)) (xs : List α) (s : State) :
    s.Settles (xs.foldl f s) := by
  induction xs generalizing s with
  | nil => exact .refl s
  | cons x xs ih => exact (h s x).trans (ih _)

/-! ### Lockout and the thermal monitor -/

theorem enterLockout_settles (s : State) (ch : Ch) : s.Settles (s.enterLockout ch) := by
  unfold State.enterLockout
  exact (leads_onChan s ch _ (.single (.clear _ _))).trans
    ((directZero_settles _ _).trans ((retarget_settles _ _).trans (postAll_settles _ _)))

theorem raiseFault_settles (s : State) (i : Incident) : s.Settles (s.raiseFault i) := by
  unfold State.raiseFault
  dsimp only
  split
  · exact post_settles s i
  · exact (post_settles s i).trans (enterLockout_settles _ _)

theorem evaluate_settles (s : State) (ch : Ch) (h : HeadNo) : s.Settles (s.evaluate ch h) := by
  rcases evaluate_cases s ch h with ⟨-, e⟩ | ⟨x, -, ⟨-, -, e⟩ | ⟨-, e⟩⟩ <;> rw [e]
  · exact .refl s
  · exact (settles_onChan s ch _ rfl).trans (raiseFault_settles _ _)
  · exact settles_onChan s ch _ rfl

theorem evaluateAll_settles (s : State) (ch : Ch) : s.Settles (s.evaluateAll ch) :=
  foldl_settles _ (fun s h => evaluate_settles s ch h) _ s

/-! ### The fence window and promotion -/

theorem beginFence_settles (s : State) (ch : Ch) : s.Settles (s.beginFence ch) := by
  unfold State.beginFence
  exact (leads_onChan s ch _ (.single (.fence _))).trans (postAll_settles _ _)

theorem computeFence_settles (s : State) (ch : Ch) : s.Settles (s.computeFence ch) := settles_onChan s ch _ rfl

theorem refenceEmpty_settles (s : State) (ch : Ch) : s.Settles (s.refenceEmpty ch) := by
  unfold State.refenceEmpty
  dsimp only
  split
  · split
    · exact (computeFence_settles s ch).trans ((beginFence_settles _ _).trans (retarget_settles _ _))
    · exact computeFence_settles s ch
  · exact .refl s

theorem promoteLaser_settles (s : State) (ch : Ch) (x : Context) : s.Settles (s.promoteLaser ch x) := by
  unfold State.promoteLaser
  dsimp only
  split
  · exact (directZero_settles _ _).trans (retarget_settles _ _)
  · split
    · have h := (settles_onChan s ch (fun c => { c with laser :=
        { c.laser with motion := c.laser.motion.turn false } }) rfl).trans (retarget_settles _ ch)
      split
      · exact h.trans (takeStep_settles _ _)
      · exact h
    · exact retarget_settles _ _

theorem promote_settles (s : State) (ch : Ch) (h : HeadNo) : s.Settles (s.promote ch h) := by
  unfold State.promote
  dsimp only
  split
  · exact .refl s
  · next x _ =>
    have he := (settles_onChan s ch (fun c => c.setHead h
      { (s.chan ch).headAt h with active := some x, pending := .none }) rfl).trans (evaluate_settles _ ch h)
    split
    · exact he.trans ((promoteLaser_settles _ _ _).trans (refenceEmpty_settles _ _))
    · exact he
  · have hu := settles_onChan s ch (fun c => c.setHead h
      { (s.chan ch).headAt h with active := none, pending := .none, hold := false }) rfl
    split
    · exact hu.trans ((directZero_settles _ _).trans ((retarget_settles _ _).trans (refenceEmpty_settles _ _)))
    · exact hu

theorem announceEmpty_settles (s : State) (ch : Ch) : s.Settles (s.announceEmpty ch) := by
  rcases announceEmpty_cases s ch with ⟨-, e⟩ | ⟨h, -, e | e⟩ <;> rw [e]
  · exact retarget_settles s ch
  · exact (chosen_settles s).trans ((promote_settles _ _ _).trans (retarget_settles _ _))
  · exact (chosen_settles s).trans (retarget_settles _ _)

theorem openFenceAfter_settles (s : State) (ch : Ch) (had : Bool) : s.Settles (s.openFenceAfter ch had) := by
  rcases openFenceAfter_cases s ch had with ⟨-, e⟩ | ⟨-, e | e⟩ <;> rw [e]
  · exact .refl s
  · exact (beginFence_settles s ch).trans (announceEmpty_settles _ _)
  · exact (beginFence_settles s ch).trans (retarget_settles _ _)

theorem openFence_settles (s : State) (ch : Ch) : s.Settles (s.openFence ch) := openFenceAfter_settles s ch _

theorem refence_settles (s : State) (ch : Ch) : s.Settles (s.refence ch) := by
  rcases refence_cases s ch with ⟨-, e⟩ | ⟨-, ⟨-, e⟩ | ⟨-, e⟩⟩ <;> rw [e]
  · exact .refl s
  · exact (computeFence_settles s ch).trans (openFence_settles _ _)
  · exact computeFence_settles s ch

theorem settleStore_settles (s : State) (ch : Ch) : s.Settles (s.settleStore ch) := by
  unfold State.settleStore
  split
  · split
    · exact promote_settles _ _ _
    · exact .refl s
  · exact .refl s

theorem setPending_settles (s : State) (ch : Ch) (h : HeadNo) (p : Pending) : s.Settles (s.setPending ch h p) := by
  have hs := settles_onChan s ch (fun c => c.setHead h { c.headAt h with pending := p }) rfl
  unfold State.setPending
  dsimp only
  split
  · exact hs
  · exact hs.trans (promote_settles _ _ _)

theorem closeFence_moves (s : State) (ch : Ch) : s.Moves (s.closeFence ch) := by
  rcases closeFence_cases s ch with ⟨-, hg, -, e⟩ | ⟨-, e⟩ <;> rw [e]
  · exact (moves_onChan s ch _ (.fenceEnds _ hg)).trans (retarget_settles _ _).moves
  · exact .refl s

/-! ### Departures -/

/-- The record at the front is seated as the head record, and then the laser alone changes (R44). -/
theorem becomeHead_settles (s : State) (ch : Ch) (b : Bool) :
    ∃ code cold, (s.onChan ch fun c => c.seat code cold b).Settles (s.becomeHead ch b) := by
  cases hq : (s.chan ch).queue with
  | nil =>
    refine ⟨0, 0, ?_⟩
    have hb : s.becomeHead ch b = s := by simp [State.becomeHead, hq]
    rw [hb, State.onChan, show (s.chan ch).seat 0 0 b = s.chan ch by simp [Channel.seat, Channel.onHead, hq], setChan_chan]
    exact .refl s
  | cons r rest =>
    refine ⟨(s.chan ch).laser.code, (s.chan ch).coldLeadOf r, settles_of_sansLaser ?_⟩
    rw [becomeHead_sansLaser s ch b r rest hq]
    refine congrArg State.sansLaser (onChan_congr s ch ?_)
    simp [Channel.seat, Channel.onHead, hq]

/-- What follows a departure seats the next record, if there is one, and settles (R36, R52). -/
theorem afterDeparture_settles (s : State) (ch : Ch) (b : Bool) :
    ∃ code cold, (s.onChan ch fun c => c.seat code cold b).Settles (s.afterDeparture ch b) := by
  unfold State.afterDeparture
  split
  · next h =>
    have hq : (s.chan ch).queue = [] := by simpa using h
    refine ⟨0, 0, ?_⟩
    rw [State.onChan, show (s.chan ch).seat 0 0 b = s.chan ch by simp [Channel.seat, Channel.onHead, hq], setChan_chan]
    exact announceEmpty_settles s ch
  · exact becomeHead_settles s ch b

/-- The same, from a state `s` out of which channel `ch` has come to its present state by a detour. -/
theorem afterDeparture_moves {s u : State} {ch : Ch} (b : Bool) (hu : State.Apart ch s u)
    (hm : ∀ code cold, ReflTransGen Channel.Move (s.chan ch) ((u.chan ch).seat code cold b)) :
    s.Moves (u.afterDeparture ch b) := by
  obtain ⟨code, cold, h⟩ := afterDeparture_settles u ch b
  refine (hu.trans ((apart_onChan u ch _).trans (h.apart ch))).moves ?_
  have hc := h.moves.chan ch
  rw [chan_onChan] at hc
  exact (hm code cold).trans hc

theorem departHead_moves (s : State) (ch : Ch) (b : Bool) (is : List Incident) : s.Moves (s.departHead ch b is) := by
  refine afterDeparture_moves b ((apart_onChan s ch _).trans ((postAll_settles is _).apart ch)) fun code cold => ?_
  rw [chan_postAll, chan_onChan]
  exact .single (.depart _ code cold b)

end Sys2Proof.Machine
end

section
/-! PROOFS. What each command leads to: the gates and the write clock. -/

namespace Sys2Proof.Machine

open Relation

/-! ### A rise of the write gate -/

/-- The quiet steps neither read nor write filtered WGx. -/
theorem quiet_with_wg {c d : Channel} (h : c.Quiet d) (f : Filter) :
    Channel.Quiet { c with wg := f } { d with wg := f } := by
  cases h with
  | same h hf =>
    have hg : ({ d with wg := f } : Channel).gear = ({ c with wg := f } : Channel).gear :=
      congrArg (fun g : Gear => { g with wg := f.level }) h
    exact .same hg (congrArg (fun g : Front => { g with wg := f }) hf)
  | clear t => exact .clear { c with wg := f } t
  | fence => exact .fence { c with wg := f }

/-- The state in which a rise of the write gate is answered: WGx high, its number taken. -/
def State.raised (s : State) (ch : Ch) : State :=
  s.onChan ch fun c => { c with wg := filterAt true, nextSeq := (s.chan ch).nextSeq + 1 }

/-- What settles behind a recognised rise settles as well with WGx still low. -/
theorem moves_of_raised {s u : State} {ch : Ch} (hw : (s.chan ch).wg.level = false) (hu : (s.raised ch).Settles u) :
    ReflTransGen Channel.Move (s.chan ch) { u.chan ch with wg := initialFilter } ∧ (u.chan ch).wg.level = true := by
  have hc := hu.chan ch
  have hq := ReflTransGen.lift (fun c : Channel => { c with wg := initialFilter }) (fun _ _ h => quiet_with_wg h _) _ _ hc
  refine ⟨?_, by rw [(front_ext (hu.front ch)).1]; simp [State.raised, filterAt]⟩
  refine .head (.front (d := { (s.raised ch).chan ch with wg := initialFilter }) ?_)
    (ReflTransGen.mono (fun _ _ => Channel.Move.quiet) _ _ hq)
  simp [State.raised, Channel.gear, initialFilter, hw]

/-- An admitted rise meets an empty slot, room in the queue and the head it names (R38, R39). -/
theorem admission_ok {s : State} {ch : Ch} {a : Admission} (h : s.admission ch = .ok a) :
    (s.chan ch).relay.selected = some a.head ∧ (s.chan ch).relay.slot = none ∧ (s.chan ch).queue.length < 8 := by
  have with_ok {hd : HeadNo} {x : Context} (h : s.admitWith ch hd x = .ok a) :
      a.head = hd ∧ (s.chan ch).queue.length < 8 := by
    unfold State.admitWith at h
    simp only at h
    repeat' split at h
    all_goals try contradiction
    next hl =>
      cases h
      exact ⟨rfl, by omega⟩
  unfold State.admission at h
  simp only at h
  split at h
  · contradiction
  split at h
  · contradiction
  split at h
  · contradiction
  split at h
  · contradiction
  split at h
  · contradiction
  next hslot =>
    split at h
    · contradiction
    next hd hsel =>
      split at h
      · contradiction
      · contradiction
      · obtain ⟨hh, hl⟩ := with_ok h
        exact ⟨by rw [hsel, hh], by simpa using hslot, hl⟩

/-- An admitted record joins the queue by one of the moves of R41. -/
theorem enqueue_moves {s u : State} {ch : Ch} {a : Admission} (n : Seq) (hu : State.Apart ch s u)
    (hm : ReflTransGen Channel.Move (s.chan ch) { u.chan ch with wg := initialFilter })
    (hw : (u.chan ch).wg.level = true) (hs : (u.chan ch).relay.selected = some a.head)
    (hh : (u.chan ch).relay.slot = none) (hl : (u.chan ch).queue.length < 8) :
    s.Moves (u.enqueue ch (newRecord a n)) := by
  unfold State.enqueue
  dsimp only
  cases hd : (u.chan ch).queue with
  | nil =>
    simp only [Channel.headRec, hd, List.head?_nil]
    obtain ⟨code, cold, hb⟩ := becomeHead_settles (u.onChan ch fun c => { c with queue := c.queue ++ [newRecord a n] }) ch false
    rw [onChan_onChan] at hb
    refine (hu.trans ((apart_onChan u ch _).trans (hb.apart ch))).moves ?_
    have hc := hb.moves.chan ch
    rw [chan_onChan] at hc
    refine hm.trans (.head (.joinsFirst _ a n code cold hd hs hh) (.head (.front ?_) hc))
    simp [Channel.seat, Channel.onHead, Channel.takeOn, Channel.gear, hd, hw, filterAt]
  | cons q rest =>
    simp only [Channel.headRec, hd, List.head?_cons]
    split
    · obtain ⟨code, cold, hb⟩ :=
        becomeHead_settles (u.onChan ch fun c => { c.dropHead with queue := c.dropHead.queue ++ [newRecord a n] }) ch true
      rw [onChan_onChan] at hb
      refine (hu.trans ((apart_onChan u ch _).trans (hb.apart ch))).moves ?_
      have hc := hb.moves.chan ch
      rw [chan_onChan] at hc
      refine hm.trans (.head (.joinsBridged _ a n code cold rfl hl hs hh) (.head (.front ?_) hc))
      cases hr : rest <;>
        simp [Channel.seat, Channel.onHead, Channel.takeOn, Channel.gear, Channel.dropHead, hd, hw, hr, filterAt]
    · refine (hu.trans (apart_onChan u ch _)).moves (hm.trans ?_)
      rw [chan_onChan]
      refine .head (.joins _ a n rfl (by simp [hd]) hl hs hh) (.single (.front ?_))
      simp [Channel.takeOn, Channel.gear, hw, filterAt]

/-- The answer of admission, given behind whatever has settled since the rise was recognised (R38, R39, R41). -/
theorem answerRise_moves {s u : State} {ch : Ch} (n : Seq) (hw : (s.chan ch).wg.level = false)
    (hu : (s.raised ch).Settles u) : s.Moves (u.answerRise ch n) := by
  obtain ⟨hm, hl⟩ := moves_of_raised hw hu
  have ha := (apart_onChan s ch fun c => { c with wg := filterAt true, nextSeq := (s.chan ch).nextSeq + 1 }).trans
    (hu.apart ch)
  unfold State.answerRise
  split
  · next a h =>
    obtain ⟨hs, hh, h8⟩ := admission_ok h
    refine enqueue_moves n (ha.trans (apart_onChan u ch _)) ?_ ?_ ?_ ?_ ?_ <;> rw [chan_onChan]
    · exact hm.tail (.front rfl)
    · exact hl
    · exact hs
    · exact hh
    · exact h8
  · have hp := post_settles (u.onChan ch fun c => { c with intake := .discarding })
    refine (ha.trans ((apart_onChan u ch _).trans ((hp _).apart ch))).moves ?_
    rw [chan_post, chan_onChan]
    refine hm.trans
      (.head (.writeRises _) (.single (.front ?_)))
    simp [Channel.gear, filterAt, hl]

theorem cutFrame_settles (s : State) (ch : Ch) (n : Seq) : s.Settles (s.cutFrame ch n) := by
  have hs := settles_onChan s ch (fun c => { c with recv := { c.recv with hunt := .hunting 0 } }) rfl
  unfold State.cutFrame
  dsimp only
  split
  · exact hs
  · exact hs.trans (post_settles _ _)

theorem writeRise_moves (s : State) (ch : Ch) (hw : (s.chan ch).wg.level = false) : s.Moves (s.writeRise ch) := by
  have h2 : (s.raised ch).Settles ((s.raised ch).settleStore ch) := settleStore_settles _ _
  unfold State.writeRise
  change s.Moves (if (((s.raised ch).settleStore ch).chan ch).assembling then _ else _)
  split
  · rcases eitherOrder_cases ((s.raised ch).settleStore ch) (fun t => t.cutFrame ch (s.chan ch).nextSeq)
      (fun t => t.answerRise ch (s.chan ch).nextSeq) with h | h
    · refine h ▸ ?_
      exact answerRise_moves _ hw (h2.trans ((chosen_settles _).trans (cutFrame_settles _ _ _)))
    · refine h ▸ ?_
      exact (answerRise_moves _ hw (h2.trans (chosen_settles _))).trans (cutFrame_settles _ _ _).moves
  · exact answerRise_moves _ hw (h2.trans (cutFrame_settles _ _ _))

theorem writeFall_moves (s : State) (ch : Ch) : s.Moves (s.writeFall ch) :=
  moves_of_gear s ch _ (.writeFalls _) rfl

/-! ### The read gate -/

theorem readRise_moves (s : State) (ch : Ch) : s.Moves (s.readRise ch) :=
  (moves_of_front s ch _ rfl).trans (retarget_settles _ _).moves

theorem readFall_moves (s : State) (ch : Ch) : s.Moves (s.readFall ch) :=
  (moves_of_gear s ch _ (.readFalls _) rfl).trans (retarget_settles _ _).moves

/-! ### The servo gate -/

theorem dropHead_wedge (c : Channel) : c.dropHead.wedge = c.wedge := by
  unfold Channel.dropHead
  split <;> rfl

theorem encroached_wedge (c : Channel) (t : Tick) : (c.encroached t).wedge = c.wedge := by
  unfold Channel.encroached
  split
  · exact dropHead_wedge _
  · rfl

/-- The channel that release control makes of one whose filtered SGx has risen (R54). -/
theorem encroach_chan (u : State) (ch : Ch) (hg : (u.chan ch).sg = filterAt true) :
    (u.encroach ch).chan ch = Channel.encroached { u.chan ch with sg := initialFilter } u.now := by
  have he : ({ u.chan ch with sg := filterAt true } : Channel) = u.chan ch := by rw [← hg]
  unfold State.encroach Channel.encroached Channel.isReleasing
  simp only [Channel.headRec, he]
  cases hq : (u.chan ch).queue.head? with
  | none => simp [State.stamp, hg]
  | some r =>
    by_cases hr : r.state = .releasing
    · simp [hr]
    · simp [hr, State.stamp, hg]

theorem encroach_apart (u : State) (ch : Ch) : State.Apart ch u (u.encroach ch) := by
  unfold State.encroach
  dsimp only
  split
  · split
    · exact (apart_onChan u ch _).trans ((post_settles _ _).apart ch)
    · exact apart_onChan u ch _
  · exact apart_onChan u ch _

theorem beginFence_chan (s : State) (ch : Ch) : (s.beginFence ch).chan ch = (s.chan ch).beginFence := by
  unfold State.beginFence
  simp

/-- Release control and the fence window at a rise of SGx, whose level is high already (R54, R97). -/
theorem servoFence_moves {s u : State} {ch : Ch} (hu : State.Apart ch s u) (hg : (u.chan ch).sg = filterAt true)
    (hc : ReflTransGen Channel.Move (s.chan ch) { u.chan ch with sg := initialFilter }) :
    s.Moves (u.servoFence ch) := by
  have ha := hu.trans (encroach_apart u ch)
  have hd := encroach_chan u ch hg
  unfold State.servoFence
  dsimp only
  split
  · next hf =>
    split
    · next hr =>
      refine afterDeparture_moves false ha fun code cold => ?_
      rw [hd]
      exact hc.tail (.encroaches _ _ code cold hf hr)
    · next hr =>
      refine ha.moves ?_
      rw [hd]
      exact hc.tail (.servoRises _ _ hf (Bool.eq_false_iff.2 hr))
  · next hf =>
    have ho : ((u.encroach ch).chan ch).wedge.fence = false := by
      rw [hd, encroached_wedge]
      exact Bool.eq_false_iff.2 hf
    have hb : s.Moves ((u.encroach ch).beginFence ch) := by
      refine (ha.trans ((beginFence_settles _ ch).apart ch)).moves ?_
      rw [beginFence_chan, hd]
      exact hc.tail (.servoOpens _ _)
    rcases openFenceAfter_cases (u.encroach ch) ch (!(u.chan ch).queue.isEmpty) with ⟨h, -⟩ | ⟨-, e | e⟩
    · rw [ho] at h
      contradiction
    · rw [e]
      exact hb.trans (announceEmpty_settles _ _).moves
    · rw [e]
      exact hb.trans (retarget_settles _ _).moves

theorem capture_settles (s : State) (ch : Ch) : s.Settles (s.capture ch) := by
  have put (w : Wedge) (hw : w.fence = (s.chan ch).wedge.fence) :
      s.Settles (s.onChan ch fun c => { c with wedge := w }) := settles_onChan s ch _ (by simp [Channel.gear, hw])
  have acquire_fence (w : Wedge) (t : Tick) (i : Int) : (w.acquire t i).fence = w.fence := by
    unfold Wedge.acquire
    split
    · split <;> rfl
    · rfl
  unfold State.capture
  dsimp only
  split
  · exact put { (s.chan ch).copyFields with last := s.now, good := 0, lock := .acquiring } rfl
  · exact (put ((s.chan ch).copyFields.acquire s.now (s.interval ch)) (acquire_fence _ _ _)).trans (refence_settles _ _)
  · split
    · exact (put ((s.chan ch).copyFields.track s.now (s.interval ch)) rfl).trans (refence_settles _ _)
    · exact (put ((s.chan ch).copyFields.lose s.now) rfl).trans (post_settles _ _)

/-- A capture that loses lock changes the timer and raises WEDGE_LOST, and nothing else (R91). -/
theorem capture_of_losesLock {s : State} {ch : Ch} (h : s.losesLock ch = true) :
    ∃ w i, w.fence = (s.chan ch).wedge.fence ∧ s.capture ch = (s.onChan ch fun c => { c with wedge := w }).post i := by
  obtain ⟨hp, hw⟩ : (s.chan ch).wedge.lock.predicts = true ∧
      within (s.interval ch) (s.chan ch).wedge.estimate (s.chan ch).setup.tolerance = false := by
    simpa [State.losesLock] using h
  unfold State.capture
  cases hl : (s.chan ch).wedge.lock <;> simp only [hl, Lock.predicts, Bool.false_eq_true] at hp
  all_goals
    simp only [Channel.copyFields, hl, hw, Bool.false_eq_true, if_false]
    exact ⟨_, _, by simp [Wedge.lose], rfl⟩

theorem servoRise_moves (s : State) (ch : Ch) (hs : (s.chan ch).sg.level = false) : s.Moves (s.servoRise ch) := by
  have rise (w : Wedge) (hw : w.fence = (s.chan ch).wedge.fence) : ReflTransGen Channel.Move (s.chan ch)
      { s.chan ch with wedge := w, sg := initialFilter } :=
    .single (.front (by simp [Channel.gear, initialFilter, hs, hw]))
  have ha := apart_onChan s ch fun c => { c with sg := filterAt true }
  have fence {u : State} (hu : State.Apart ch (s.onChan ch fun c => { c with sg := filterAt true }) u)
      (w : Wedge) (hw : w.fence = (s.chan ch).wedge.fence)
      (hc : u.chan ch = { s.chan ch with wedge := w, sg := filterAt true }) : s.Moves (u.servoFence ch) := by
    refine servoFence_moves (ha.trans hu) ?_ ?_ <;> rw [hc]
    exact rise w hw
  unfold State.servoRise
  dsimp only
  split
  · next hl =>
    rcases eitherOrder_cases (s.onChan ch fun c => { c with sg := filterAt true }) (fun t => t.servoFence ch)
      (fun t => t.capture ch) with h | h <;> rw [h]
    · exact (fence ((chosen_settles _).apart ch) _ rfl (by simp)).trans (capture_settles _ _).moves
    · obtain ⟨w, i, hw, e⟩ := capture_of_losesLock
        (s := (s.onChan ch fun c => { c with sg := filterAt true }).chosen) (ch := ch) (by simpa [State.losesLock, State.interval] using hl)
      rw [e]
      refine fence ((chosen_settles _).apart ch |>.trans ((apart_onChan _ ch _).trans ((post_settles _ _).apart ch))) w
        (by simpa using hw) ?_
      simp
  · exact (fence ((State.Leads.refl _).apart ch) _ rfl (by simp)).trans (capture_settles _ _).moves

theorem servoFall_moves (s : State) (ch : Ch) : s.Moves (s.servoFall ch) :=
  (moves_onChan s ch _ (.servoFalls _)).trans (closeFence_moves _ _)

end Sys2Proof.Machine
end

section
/-! PROOFS. What each command leads to: the write clock, releases and departures. -/

namespace Sys2Proof.Machine

open Relation

/-! ### The edges left to take and the rate meter -/

theorem completeRate_moves (s : State) (ch : Ch) : s.Moves (s.completeRate ch) := by
  refine moves_of_front s ch _ ?_
  split <;> rfl

theorem abandonRate_moves (s : State) (ch : Ch) : s.Moves (s.abandonRate ch) := by
  have hs := moves_of_front s ch (fun c => { c with rate := { c.rate with window := none, slow := true } }) rfl
  unfold State.abandonRate
  dsimp only
  split
  · exact hs
  · exact hs.trans (post_settles _ _).moves

theorem rateEdge_moves (s : State) (ch : Ch) : s.Moves (s.rateEdge ch) := by
  unfold State.rateEdge
  dsimp only
  split
  · exact (abandonRate_moves s ch).trans (moves_of_front _ ch _ rfl)
  · exact moves_of_front _ ch _ rfl

/-- A recognised edge is taken as its rise when the level is low, as its fall when it is high. -/
theorem settleGate_moves (s : State) (f : Filter) (rise fall : State → State)
    (hr : f.level = false → s.Moves (rise s)) (hf : s.Moves (fall s)) : s.Moves (s.settleGate f rise fall) := by
  unfold State.settleGate
  split
  · exact .refl s
  · split
    · exact hf
    · next h => exact hr (by simpa using h)

theorem settleEdges_moves (s : State) (ch : Ch) : s.Moves (s.settleEdges ch) := by
  unfold State.settleEdges
  dsimp only
  have h1 := settleGate_moves s (s.chan ch).wg (fun t => t.writeRise ch) (fun t => t.writeFall ch) (writeRise_moves s ch) (writeFall_moves s ch)
  generalize s.settleGate _ _ _ = s1 at h1 ⊢
  have h2 := h1.trans (settleGate_moves s1 (s1.chan ch).sg (fun t => t.servoRise ch) (fun t => t.servoFall ch) (servoRise_moves s1 ch) (servoFall_moves s1 ch))
  generalize s1.settleGate _ _ _ = s2 at h2 ⊢
  have h3 := h2.trans (settleGate_moves s2 (s2.chan ch).rg (fun t => t.readRise ch) (fun t => t.readFall ch) (fun _ => readRise_moves s2 ch) (readFall_moves s2 ch))
  split
  · exact h3.trans (completeRate_moves _ _)
  · exact h3

/-! ### Release -/

/-- A release is due only with PRGx low and the window closed (R45). -/
theorem releaseDue_closed {s : State} {ch : Ch} (h : s.releaseDue ch = true) :
    (s.chan ch).prg = false ∧ (s.chan ch).wedge.fence = false := by
  simp only [State.releaseDue, Bool.and_eq_true, Bool.not_eq_true'] at h
  exact ⟨h.1.1.2, h.1.2⟩

theorem releaseHead_moves (s : State) (ch : Ch) (h : s.releaseDue ch = true) : s.Moves (s.releaseHead ch) := by
  obtain ⟨hp, hf⟩ := releaseDue_closed h
  unfold State.releaseHead
  dsimp only
  split
  · exact .refl s
  · split
    · exact departHead_moves _ _ _ _
    · exact moves_of_gear s ch _ (.release _ (s.allowanceNow ch) hp hf) rfl

/-! ### The release side of an edge -/

theorem normalEnd_moves (s : State) (ch : Ch) : s.Moves (s.normalEnd ch) := by
  have hs := (settles_onChan s ch (fun c => { c with pwgFallDue := true }) rfl).moves
  unfold State.normalEnd
  dsimp only
  split
  · exact hs.trans (departHead_moves _ _ _ _)
  · exact hs.trans (moves_onChan _ ch _ (.tail _ _))

theorem truncateHead_moves (s : State) (ch : Ch) (r : Rec) (rest : List Rec) (hq : (s.chan ch).queue = r :: rest) :
    s.Moves (s.truncateHead ch r) := by
  exact (moves_of_gear s ch _ (.truncate _ s.now r rest hq) rfl).trans (post_settles _ _).moves

theorem afterSymbol_moves (s : State) (ch : Ch) (r : Rec) (rest : List Rec) (hq : (s.chan ch).queue = r :: rest) :
    s.Moves (s.afterSymbol ch r) := by
  unfold State.afterSymbol
  split
  · exact normalEnd_moves s ch
  · split
    · exact truncateHead_moves s ch r rest hq
    · exact .refl s

/-- A record sends only from the head of the queue, RELEASING, with a run and write ready (R47). -/
theorem sendingRec_eq_some {s : State} {ch : Ch} {r : Rec} (h : s.sendingRec ch = some r) :
    (s.chan ch).headRec = some r ∧ r.state = .releasing ∧ 1 ≤ r.run ∧ s.writeReady ch r = true := by
  unfold State.sendingRec at h
  split at h
  · next r' hr =>
    split at h
    · next hc =>
      cases h
      simpa [hr, and_assoc] using hc
    · contradiction
  · contradiction

theorem sendSymbol_moves (s : State) (ch : Ch) (r : Rec) (h : s.sendingRec ch = some r) : s.Moves (s.sendSymbol ch r) := by
  obtain ⟨hr, hs, h1, -⟩ := sendingRec_eq_some h
  obtain ⟨rest, hq⟩ : ∃ rest, (s.chan ch).queue = r :: rest := List.head?_eq_some_iff.1 hr
  unfold State.sendSymbol
  split
  · exact .refl s
  · next x line hl =>
    refine (moves_of_gear s ch _ (.send _ r rest x line hq hs h1 hl) rfl).trans
      (afterSymbol_moves _ ch r.sendOne rest ?_)
    simp [Channel.onHead, hq]

theorem releaseEdge_moves (s : State) (ch : Ch) : s.Moves (s.releaseEdge ch) := by
  have hs := moves_of_front s ch (fun c => { c with releaseTaken := true }) rfl
  unfold State.releaseEdge
  dsimp only
  generalize s.onChan ch _ = s1 at hs ⊢
  split
  · split
    · next hd => exact hs.trans ((releaseHead_moves s1 ch hd).trans (moves_onChan _ ch _ (.gateFalls _ _)))
    · exact hs.trans (moves_onChan _ ch _ (.gateFalls _ _))
  · split
    · next r hr => exact hs.trans (sendSymbol_moves s1 ch r hr)
    · exact hs.trans (settles_onChan s1 ch _ rfl).moves

/-! ### The intake side of an edge -/

theorem takeNext_settles (s : State) : s.Settles s.takeNext := by
  unfold State.takeNext
  split <;> exact settles_of_shared rfl rfl rfl rfl rfl rfl

theorem join_settles (s : State) (e : Entry) : s.Settles (s.join e) := by
  have hs : s.Settles { s with directives := s.directives ++ [e] } := settles_of_shared rfl rfl rfl rfl rfl rfl
  unfold State.join
  dsimp only
  split
  · exact hs.trans (takeNext_settles _)
  · exact hs

theorem offer_settles (s : State) (ch : Ch) (e : Entry) : s.Settles (s.offer ch e) := by
  have keep : s.Settles (s.keepClear ch e) := by
    unfold State.keepClear
    split
    · exact .refl s
    · exact settles_onChan s ch _ rfl
  have marked : s.Settles { s with overrun := true } := settles_of_shared rfl rfl rfl rfl rfl rfl
  unfold State.offer
  split
  · split
    · exact .refl s
    · split
      · split
        · exact .refl s
        · exact join_settles s e
      · exact keep
  · split
    · exact join_settles s e
    · exact marked.trans (post_settles _ _)

theorem handSymbol_settles (s : State) (ch : Ch) (b : Bool) : s.Settles (s.handSymbol ch b) := by
  have received (t : State) (r : Received) : t.Settles (t.received ch r) := by
    cases r with
    | nothing => exact .refl t
    | bad detail => exact post_settles _ _
    | good header payload => exact offer_settles _ _ _
  exact (settles_onChan s ch (fun c => { c with recv :=
    { c.recv with hunt := ((s.chan ch).recv.hunt.take b).1 } }) rfl).trans (received _ _)

theorem overflowAbort_moves (s : State) (ch : Ch) (r : Rec) (ho : (s.chan ch).openRec = some r) :
    s.Moves (s.overflowAbort ch r) := by
  have hs : s.Moves (s.onChan ch fun c => (if r.state == .releasing then c.dropGate s.now else c).dropNewest r) := by
    refine leads_onChan s ch _ ?_
    split
    · exact .head (.gateFalls _ s.now) (.single (.abort _ r ho))
    · exact .single (.abort _ r ho)
  have hp := hs.trans (post_settles _ (r.incident ch .delayOverflow r.symOut)).moves
  unfold State.overflowAbort
  dsimp only
  generalize (s.onChan ch _).post _ = t at hp ⊢
  split
  · exact hp.trans (State.Leads.moves ((settles_onChan _ ch
      (fun c => { c with laser := { c.laser with ready := none } }) rfl).trans (announceEmpty_settles _ _)))
  · exact hp

theorem routeSymbol_moves (s : State) (ch : Ch) (b : Bool) : s.Moves (s.routeSymbol ch b) := by
  unfold State.routeSymbol
  split
  · exact (handSymbol_settles s ch b).moves
  · unfold State.storeSymbol
    split
    · exact .refl s
    · next r ho =>
      split
      · next hl => exact moves_onChan s ch _ (.store _ r b ho hl)
      · exact overflowAbort_moves s ch r ho
  · unfold State.discardSymbol
    split
    · exact .refl s
    · exact moves_onChan s ch _ (.discard _)

theorem advanceHold_moves (s : State) (ch : Ch) (wd : Bool) : s.Moves (s.advanceHold ch wd) := by
  unfold State.advanceHold
  split
  · exact (moves_of_front s ch _ rfl).trans (routeSymbol_moves _ _ _)
  · exact moves_of_front s ch _ rfl

theorem sample_level (f : Filter) (b : Bool) : (f.sample b).level = f.level := by
  unfold Filter.sample
  split <;> rfl

theorem intakeEdge_moves (s : State) (ch : Ch) (wd wg sg rg : Bool) : s.Moves (s.intakeEdge ch wd wg sg rg) := by
  refine (advanceHold_moves s ch wd).trans ((rateEdge_moves _ ch).trans (moves_of_front _ ch _ ?_))
  simp [Channel.gear, Channel.sampleGates, sample_level]

end Sys2Proof.Machine
end

section
/-! PROOFS. What each command leads to: the laser, the wedge timer, the link relay and the directive engine; and then every command. -/

namespace Sys2Proof.Machine

open Relation

/-! ### The laser and its heat -/

theorem startReady_settles (s : State) (ch : Ch) : s.Settles (s.startReady ch) :=
  settles_of_sansLaser (startReady_sansLaser s ch)

theorem leaveIdle_settles (s : State) (ch : Ch) : s.Settles (s.leaveIdle ch) :=
  settles_of_sansLaser (leaveIdle_sansLaser s ch)

theorem completeRamp_settles (s : State) (ch : Ch) : s.Settles (s.completeRamp ch) :=
  (settles_onChan s ch _ rfl).trans ((startReady_settles _ _).trans (leaveIdle_settles _ _))

theorem advancePark_settles (s : State) (ch : Ch) : s.Settles (s.advancePark ch) := by
  unfold State.advancePark
  split
  · exact settles_onChan s ch _ rfl
  · exact .refl s

theorem takeHeat_settles (s : State) : s.Settles s.takeHeat :=
  (settles_onChan s .A _ rfl).trans ((settles_onChan _ .B _ rfl).trans ((evaluateAll_settles _ .A).trans
    ((evaluateAll_settles _ .B).trans ((advancePark_settles _ .A).trans (advancePark_settles _ .B)))))

/-! ### The wedge timer -/

theorem coast_moves (s : State) (ch : Ch) : s.Moves (s.coast ch) := by
  have hs : s.Settles ((s.onChan ch fun c => { c with wedge := c.wedge.coast }).computeFence ch) :=
    (settles_onChan s ch _ rfl).trans (computeFence_settles _ _)
  unfold State.coast
  dsimp only
  split
  · exact hs.moves.trans (closeFence_moves _ _)
  · split
    · exact (hs.trans (openFence_settles _ _)).moves
    · exact hs.moves

theorem secondMiss_moves (s : State) (ch : Ch) : s.Moves (s.secondMiss ch) :=
  ((settles_onChan s ch _ rfl).trans (post_settles _ _)).moves.trans (closeFence_moves _ _)

/-! ### The link relay -/

/-- A change of the relay that leaves the selected head and keeps the slot's law. -/
theorem onRelay_moves (s : State) (ch : Ch) (f : Channel → Channel) (r : Relay)
    (hf : f (s.chan ch) = { s.chan ch with relay := r }) (hs : r.selected = (s.chan ch).relay.selected)
    (hk : (s.chan ch).relay.SlotOk (s.chan ch).queue → r.SlotOk (s.chan ch).queue) : s.Moves (s.onChan ch f) :=
  moves_onChan s ch f (hf ▸ .relay _ r hk (.inl hs))

/-- A relay that has an empty slot, and neither holds nor replays, keeps the slot's law (R142). -/
theorem slotOk_of_empty {r : Relay} {q : List Rec} (hs : r.slot = none) (hh : r.phase ≠ .hold) (hr : r.phase ≠ .replay) :
    r.SlotOk q := by
  simp [Relay.SlotOk, hs, hh, hr]

/-- A relay whose slot is as before, and that neither holds nor replays nor did so, keeps the slot's law (R142). -/
theorem slotOk_of_same {r r' : Relay} {q : List Rec} (h : r.SlotOk q) (hs : r'.slot.isSome = r.slot.isSome)
    (hr : r.phase ≠ .hold) (hh : r'.phase ≠ .hold) (hp : r'.phase ≠ .replay) : r'.SlotOk q := by
  refine ⟨fun h' _ => h.1 (hs ▸ h') hr, fun h' => absurd h' hh, fun h' => absurd h' hp⟩

/-- A relay whose slot and phase are as before keeps the slot's law. -/
theorem slotOk_congr {r r' : Relay} {q : List Rec} (h : r.SlotOk q) (hs : r'.slot.isSome = r.slot.isSome)
    (hp : r'.phase = r.phase) : r'.SlotOk q := by
  unfold Relay.SlotOk at *
  rwa [hs, hp]

/-- The selected head is updated, from a state `s` out of which the channel has come by a detour over an empty queue
(R78, R144). -/
theorem switchHead_moves {s u : State} {ch : Ch} (h : Option HeadNo) (hu : State.Apart ch s u)
    (hm : ReflTransGen Channel.Move (s.chan ch)
      { u.chan ch with relay := { (u.chan ch).relay with selected := h } }) : s.Moves (u.switchHead ch h) := by
  rw [switchHead_eq]
  refine State.Leads.trans ?_
    ((directZero_settles _ _).trans ((retarget_settles _ _).trans (refence_settles _ _))).moves
  refine (hu.trans (apart_onChan u ch _)).moves ?_
  rw [chan_onChan]
  exact hm.tail (.front rfl)

/-- A complete head-select write updates the head over an empty queue: the slot held it, not in HOLD (R144, R145). -/
theorem updateHead_moves {s u : State} {ch : Ch} (bits : List Bool) (hu : State.Apart ch s u)
    (hq : (u.chan ch).relay.SlotOk (u.chan ch).queue → (u.chan ch).queue = [])
    (hc : ReflTransGen Channel.Move (s.chan ch) (u.chan ch)) : s.Moves (u.updateHead ch bits) := by
  have hm (h : Option HeadNo) : ReflTransGen Channel.Move (s.chan ch)
      { u.chan ch with relay :=
        { (u.chan ch).relay.dropSlot with taken := bits, given := bits.length, selected := h } } :=
    hc.tail (.relay _ _ (fun _ => slotOk_of_empty rfl (by simp) (by simp)) (.inr hq))
  have ha := hu.trans (apart_onChan u ch fun c =>
    c.onRelay fun r => { r.dropSlot with taken := bits, given := bits.length })
  unfold State.updateHead
  dsimp only
  split
  · refine switchHead_moves _ ha ?_
    rw [chan_onChan]
    exact hm _
  · refine switchHead_moves _ (ha.trans ((post_settles _ _).apart ch)) ?_
    rw [chan_post, chan_onChan]
    exact hm _

/-- The slot's law gives an empty queue to a slot that is occupied outside HOLD. -/
theorem queue_of_slot {r : Relay} {q : List Rec} (hs : r.slot.isSome = true) (hp : r.phase ≠ .hold) :
    r.SlotOk q → q = [] := fun h => h.1 hs hp

theorem takeHeader_moves (s : State) (ch : Ch) (header : BitVec 8) (fall : BitVec 31)
    (hp : (s.chan ch).relay.phase = .header) : s.Moves (s.takeHeader ch header fall) := by
  unfold State.takeHeader
  dsimp only
  split
  · split
    · next hq =>
      have hq : (s.chan ch).queue = [] := by simpa using hq
      rw [onChan_onChan, onChan_onChan]
      refine onRelay_moves s ch _ _ rfl rfl fun _ => ?_
      exact ⟨fun _ _ => hq, fun _ => rfl, fun _ => rfl⟩
    · rw [onChan_onChan, onChan_onChan]
      refine onRelay_moves s ch _ _ rfl rfl fun _ => ?_
      exact ⟨fun _ h => absurd rfl h, fun _ => rfl, fun _ => rfl⟩
  · rw [onChan_onChan]
    refine onRelay_moves s ch _ _ rfl rfl fun h => ?_
    exact slotOk_of_same h rfl (by simp [hp]) (by simp [Relay.catchUpFrom]) (by simp [Relay.catchUpFrom])

theorem endInCatchUp_slotOk {r : Relay} {q : List Rec} (now : Tick) (h : r.SlotOk q) (hp : r.phase = .catchUp) :
    (r.endInCatchUp now).SlotOk q := by
  rcases endInCatchUp_cases r now with ⟨hs, -, hr, hn⟩ | e | ⟨n, -, -, e⟩ | e
  · have hq := h.1 hs (by simp [hp])
    simp [Relay.SlotOk, hq, hr, hn]
  · rw [e]
    exact slotOk_of_empty rfl (by simp) (by simp)
  · rw [e]
    exact slotOk_of_empty rfl (by simp [hp]) (by simp [hp])
  · rw [e]
    exact slotOk_of_same h rfl (by simp [hp]) (by simp [hp]) (by simp [hp])

theorem endFrame_moves (s : State) (ch : Ch) (all : List Bool) : s.Moves (s.endFrame ch all) := by
  unfold State.endFrame
  dsimp only
  split
  · next hp =>
    refine onRelay_moves s ch _ (s.chan ch).relay.toIdle rfl rfl fun h => ?_
    exact slotOk_of_same h rfl (by simp [hp]) (by simp) (by simp)
  · next hp =>
    refine onRelay_moves s ch _ { (s.chan ch).relay.toIdle with taken := all } rfl rfl fun h => ?_
    exact slotOk_of_same h rfl (by simp [hp]) (by simp) (by simp)
  · next hp =>
    refine onRelay_moves s ch _ ((s.chan ch).relay.endInCatchUp s.now) rfl (endInCatchUp_keeps _ _).1 fun h => ?_
    exact endInCatchUp_slotOk _ h hp
  · next hp =>
    split
    · refine onRelay_moves s ch _ { (s.chan ch).relay.toIdle with given := all.length, taken := all } rfl rfl fun h => ?_
      exact slotOk_of_same h rfl (by simp [hp]) (by simp) (by simp)
    · next hs =>
      split
      · refine updateHead_moves _ ((State.Leads.refl s).apart ch) (queue_of_slot ?_ (by simp [hp])) .refl
        simpa [Option.isSome_iff_ne_none] using hs
      · refine onRelay_moves s ch _ { (s.chan ch).relay.dropSlot with given := all.length, taken := all } rfl rfl fun _ => ?_
        exact slotOk_of_empty rfl (by simp) (by simp)
  · next hp =>
    split
    · refine onRelay_moves s ch _
        { (s.chan ch).relay with slot := some { bits := all, complete := true }, taken := all } rfl rfl fun _ => ?_
      exact ⟨fun _ h => absurd hp h, fun _ => rfl, fun _ => rfl⟩
    · refine onRelay_moves s ch _ { (s.chan ch).relay.dropSlot with taken := all } rfl rfl fun _ => ?_
      exact slotOk_of_empty rfl (by simp) (by simp)
  · exact .refl s
  · exact .refl s

theorem startReplay_slotOk {r : Relay} (now : Tick) (bits : List Bool) (fall : BitVec 31) :
    (r.startReplay now bits fall).SlotOk [] := by
  unfold Relay.startReplay
  split
  · next x hx =>
    split
    · simp [Relay.SlotOk, hx]
    · simp [Relay.SlotOk, Relay.catchUpFrom]
  · exact slotOk_of_empty rfl (by simp) (by simp)

theorem startReplay_selected (r : Relay) (now : Tick) (bits : List Bool) (fall : BitVec 31) :
    (r.startReplay now bits fall).selected = r.selected := by
  unfold Relay.startReplay
  split
  · split <;> rfl
  · rfl

theorem finishReplay_moves (s : State) (ch : Ch) (hp : (s.chan ch).relay.phase = .replay) : s.Moves (s.finishReplay ch) := by
  unfold State.finishReplay
  refine updateHead_moves _ (apart_onChan s ch _) ?_ ?_ <;> rw [chan_onChan]
  · exact fun h => h.1 (h.2.2 hp) (by simp [Channel.onRelay, hp])
  · exact .single (.front rfl)

theorem forceSwitch_settles (s : State) (ch : Ch) : s.Settles (s.forceSwitch ch) := by
  have hs : s.Settles (s.onChan ch fun c => c.removeAll s.now) := leads_onChan s ch _ (.single (.clear _ _))
  unfold State.forceSwitch
  dsimp only
  split
  · exact hs.trans ((post_settles _ _).trans (announceEmpty_settles _ _))
  · exact hs

end Sys2Proof.Machine
end

section
/-! PROOFS. What each command leads to: frames, incidents and the directive engine; and then every command of the part. -/

namespace Sys2Proof.Machine

open Relation

/-! ### Reports and CLEAR -/

theorem beginReport_settles (s : State) : s.Settles s.beginReport := settles_of_shared rfl rfl rfl rfl rfl rfl

theorem requestReport_settles (s : State) : s.Settles s.requestReport := by
  unfold State.requestReport
  split
  · exact beginReport_settles s
  · exact settles_of_shared rfl rfl rfl rfl rfl rfl

theorem finishReport_settles (s : State) : s.Settles s.finishReport := by
  have hs : s.Settles { s with reportPending := false, sending := none } := settles_of_shared rfl rfl rfl rfl rfl rfl
  unfold State.finishReport
  split
  · exact hs.trans (beginReport_settles _)
  · exact settles_of_shared rfl rfl rfl rfl rfl rfl

theorem storeDeferred_settles (s : State) (d : Deferred) : s.Settles (s.storeDeferred d) := by
  unfold State.storeDeferred
  split
  · exact settles_of_shared rfl rfl rfl rfl rfl rfl
  · exact .refl s

theorem storeAllDeferred_settles (s : State) : s.Settles s.storeAllDeferred := by
  unfold State.storeAllDeferred
  dsimp only
  split
  · exact (chosen_settles s).trans (foldl_settles _ storeDeferred_settles _ _)
  · exact foldl_settles _ storeDeferred_settles _ _

theorem examineHead_settles (s : State) (ch : Ch) (h : HeadNo) : s.Settles (s.examineHead ch h) := by
  unfold State.examineHead
  dsimp only
  split
  · exact .refl s
  · split
    · exact post_settles _ _
    · exact .refl s

theorem examine_settles (s : State) (ch : Ch) : s.Settles (s.examine ch) :=
  foldl_settles _ (fun s h => examineHead_settles s ch h) _ s

theorem checkLockout_settles (s : State) (ch : Ch) (was : Bool) : s.Settles (s.checkLockout ch was) := by
  unfold State.checkLockout State.exitLockout
  split
  · dsimp only
    split
    · exact examine_settles s ch
    · exact (examine_settles s ch).trans ((settles_onChan _ ch _ rfl).trans (retarget_settles _ _))
  · exact .refl s

theorem checkLockouts_settles (s s0 : State) : s.Settles (s.checkLockouts s0) := by
  obtain ⟨first, t, ht, e⟩ := checkLockouts_cases s s0
  have h : s.Settles t := by
    rcases ht with rfl | rfl
    · exact .refl _
    · exact chosen_settles s
  rw [e]
  exact h.trans ((checkLockout_settles _ _ _).trans (checkLockout_settles _ _ _))

theorem applyClear_settles (s : State) (e : Entry) : s.Settles (s.applyClear e) := by
  have removed (n : Nat) : s.Settles (s.removeIncidents n) := settles_of_shared rfl rfl rfl rfl rfl rfl
  have cleared (n : Nat) : s.Settles (s.clearIncidents n) := by
    have h := (removed n).trans ((storeAllDeferred_settles _).trans (checkLockouts_settles _ s))
    unfold State.clearIncidents
    dsimp only
    split
    · exact h.trans (settles_of_shared rfl rfl rfl rfl rfl rfl)
    · exact h
  exact (cleared (e.word 1).toNat).trans (settles_of_shared rfl rfl rfl rfl rfl rfl)

/-! ### The receivers -/

theorem handSymbols_settles (bs : List Bool) (s : State) (ch : Ch) : s.Settles (s.handSymbols ch bs) :=
  foldl_settles _ (fun s b => handSymbol_settles s ch b) bs s

theorem joinClear_settles (s : State) (ch : Ch) : s.Settles (s.joinClear ch) := by
  unfold State.joinClear
  split
  · exact (settles_onChan s ch _ rfl).trans (join_settles _ _)
  · exact .refl s

/-! ### The directive engine -/

theorem refuse_settles (s : State) (e : Entry) (named : Bool) (r : RefuseReason) : s.Settles (s.refuse e named r) :=
  post_settles _ _

/-- An application leads on when its effect does: a refusal and the next frame add nothing to the channels (R156, R157). -/
theorem applyKind_moves (s : State) (d : Directive) (pick : Entry → Bool) (effect : State → Entry → State)
    (h : ∀ e, s.Moves (effect s e)) : s.Moves (s.applyKind d pick effect) := by
  unfold State.applyKind State.apply
  split
  · next e _ =>
    refine State.Leads.trans ?_ (takeNext_settles _).moves
    split
    · exact (refuse_settles _ _ _ _).moves
    · exact h e
  · exact .refl s

theorem applyContext_settles (s : State) (e : Entry) : s.Settles (s.applyContext e) := by
  have chosen : s.Settles (if reasonOpen e then s.chosen else s) := by
    split
    · exact chosen_settles s
    · exact .refl s
  have load (t : State) : t.Settles (t.loadContext e) := by
    unfold State.loadContext
    dsimp only
    split
    · exact setPending_settles _ _ _ _
    · exact (post_settles _ _).trans (setPending_settles _ _ _ _)
  unfold State.applyContext
  dsimp only
  split
  · exact chosen.trans (refuse_settles _ _ _ _)
  · exact chosen.trans (load _)

theorem applyRelease_settles (s : State) (e : Entry) : s.Settles (s.applyRelease e) := by
  unfold State.applyRelease
  split
  · exact .refl s
  · exact setPending_settles _ _ _ _

theorem applyLevels_settles (s : State) (e : Entry) : s.Settles (s.applyLevels e) := by
  have hs := settleRecheck_settles s
  have ht : s.Settles { s.settleRecheck with
      levels := writeLevels (firstCode e) (levelEntries e) s.settleRecheck.levels } :=
    hs.trans (settles_of_shared rfl rfl rfl rfl rfl rfl)
  unfold State.applyLevels
  dsimp only
  split
  · exact hs.trans (refuse_settles _ _ _ _)
  · split
    · exact hs.trans (refuse_settles _ _ _ _)
    · split
      · exact ht.trans (settles_of_sansLaser (freed_sansLaser _))
      · exact ht

theorem applyGlobal_settles (s : State) (e : Entry) : s.Settles (s.applyGlobal e) := by
  have hs := settleRecheck_settles s
  have ht : s.Settles { s.settleRecheck with
      ceiling := ceilingOf e, reportDiv := reportDivOf e, selectReg := selectRegOf e } :=
    hs.trans (settles_of_shared rfl rfl rfl rfl rfl rfl)
  unfold State.applyGlobal
  dsimp only
  split
  · exact hs.trans (refuse_settles _ _ _ _)
  · split
    · exact hs.trans (refuse_settles _ _ _ _)
    · split
      · exact ht.trans (settles_of_sansLaser (freed_sansLaser _))
      · exact ht

theorem parkOff_sansLaser (s : State) (ch : Ch) : (s.parkOff ch).sansLaser = s.sansLaser := by
  have hs : (s.onChan ch fun c => { c with laser := { c.laser with park := false, parkDue := false } }).sansLaser
      = s.sansLaser := onChan_laser_sansLaser _ _ _ fun _ => rfl
  unfold State.parkOff
  dsimp only
  split
  · split
    · exact (retarget_sansLaser _ _).trans hs
    · exact hs
  · rfl

/-- The re-check of the selected head against a new heads count drops the head over an empty queue alone: a setup that
would take it from queued records is refused as BUSY (R135, R136). -/
theorem recheckHead_moves (s : State) (ch : Ch)
    (h : ∀ hd, s.selected ch = some hd → (s.chan ch).setup.headsCount ≤ hd.toNat → (s.chan ch).queue = []) :
    s.Moves (s.recheckHead ch) := by
  unfold State.recheckHead
  dsimp only
  split
  · next hd hsel =>
    split
    · next hn =>
      refine switchHead_moves none ((post_settles _ _).apart ch) (.single ?_)
      rw [chan_post]
      have hq := h hd hsel hn
      refine .relay _ _ (fun hk => ?_) (.inr fun _ => hq)
      exact slotOk_congr hk rfl rfl
    · exact .refl s
  · exact .refl s

theorem applySetup_moves (s : State) (e : Entry) : s.Moves (s.applySetup e) := by
  unfold State.applySetup
  dsimp only
  split
  · split
    · exact ((chosen_settles s).trans (refuse_settles _ _ _ _)).moves
    · exact (refuse_settles _ _ _ _).moves
  · split
    · exact (refuse_settles _ _ _ _).moves
    · next hb =>
      have hp := parkOff_sansLaser (s.onChan e.target fun c => { c with setup := setupOfPayload e }) e.target
      refine ((settles_onChan s e.target _ rfl).trans (settles_of_sansLaser hp)).moves.trans (recheckHead_moves _ _ ?_)
      intro hd hsel hn
      rw [State.selected, sansLaser_chan_relay hp, chan_onChan] at hsel
      rw [sansLaser_chan_setup hp, chan_onChan] at hn
      rw [sansLaser_chan_queue hp, chan_onChan]
      have hsel' : s.selected e.target = some hd := hsel
      simpa [State.setupBusy, hsel', show (setupOfPayload e).headsCount ≤ hd.toNat from hn] using hb

theorem resetChannel_moves (s : State) (ch : Ch) : s.Moves (s.resetChannel ch) := by
  have hs := (moves_onChan s ch (fun c => c.resetBlocks s.now) (.channelReset _ s.now)).trans (directZero_settles _ ch).moves
  unfold State.resetChannel
  dsimp only
  split
  · exact hs.trans (retarget_settles _ _).moves
  · exact hs.trans (announceEmpty_settles _ _).moves

theorem applyForce_settles (s : State) (e : Entry) : s.Settles (s.applyForce e) := by
  unfold State.applyForce
  dsimp only
  split
  · exact (settles_onChan s _ _ rfl).trans (retarget_settles _ _)
  · exact refuse_settles _ _ _ _

theorem endForce_settles (s : State) (ch : Ch) : s.Settles (s.endForce ch) :=
  (settles_onChan s _ _ rfl).trans (retarget_settles _ _)

/-! ### Every command -/

/-- A command whose event may not exist leads on when its effect does (log entry 1). -/
theorem moves_if {s t : State} {p : Prop} [Decidable p] (h : p → s.Moves t) : s.Moves (if p then t else s) := by
  split
  · next hp => exact h hp
  · exact .refl s

/-- The command of a channel is live in what it does. -/
theorem of_and_true {a b : Bool} (h : (a && b) = true) : b = true := (Bool.and_eq_true _ _ ▸ h).2

/-- The commands of the gates. -/
theorem execServoGateRise_moves (ch : Ch) (s : State) : ∃ t, execServoGateRise ch s = .next t ∧ s.Moves t :=
  ⟨_, rfl, moves_if fun h => servoRise_moves s ch (by simpa using of_and_true h)⟩

theorem execWriteGateRise_moves (ch : Ch) (s : State) : ∃ t, execWriteGateRise ch s = .next t ∧ s.Moves t :=
  ⟨_, rfl, moves_if fun h => writeRise_moves s ch (by simpa using of_and_true h)⟩

theorem execPrgRise_moves (ch : Ch) (s : State) : ∃ t, execPrgRise ch s = .next t ∧ s.Moves t := by
  refine ⟨_, rfl, moves_if fun h => ?_⟩
  simp only [State.prgDue, Bool.and_eq_true, Bool.not_eq_true'] at h
  exact moves_onChan s ch _ (.readRises _ h.1.1.2 h.1.2)

theorem execLrdyFall_moves (ch : Ch) (s : State) : ∃ t, execLrdyFall ch s = .next t ∧ s.Moves t := by
  refine ⟨_, rfl, ?_⟩
  split
  · exact ((settles_onChan s ch _ rfl).trans (raiseFault_settles _ _)).moves
  · exact (settles_onChan s ch _ rfl).moves

theorem execSymbolIntake_moves (ch : Ch) (wd wg sg rg : Bool) (s : State) :
    ∃ t, execSymbolIntake ch wd wg sg rg s = .next t ∧ s.Moves t := by
  refine ⟨_, rfl, moves_if fun _ => (settleEdges_moves s ch).trans ?_⟩
  dsimp only
  split
  · exact intakeEdge_moves _ _ _ _ _ _
  · exact (releaseEdge_moves _ _).trans (intakeEdge_moves _ _ _ _ _ _)

theorem execWedgeMissExpiry_moves (ch : Ch) (s : State) : ∃ t, execWedgeMissExpiry ch s = .next t ∧ s.Moves t := by
  refine ⟨_, rfl, moves_if fun _ => ?_⟩
  split
  · exact coast_moves s ch
  · exact secondMiss_moves s ch

theorem execHeatTick_moves (s : State) : ∃ t, execHeatTick s = .next t ∧ s.Moves t := by
  have hs : s.Settles { s with heatTaken := true } := settles_of_shared rfl rfl rfl rfl rfl rfl
  refine ⟨_, rfl, moves_if fun _ => ?_⟩
  dsimp only
  split
  · exact hs.moves
  · exact (hs.trans (takeHeat_settles _)).moves

theorem execLinkFrameStart_moves (ch : Ch) (s : State) : ∃ t, execLinkFrameStart ch s = .next t ∧ s.Moves t := by
  have hs := (settles_onChan s ch (fun c => { c with lks := false }) rfl).moves
  refine ⟨_, rfl, ?_⟩
  split
  · split
    · exact hs.trans (settles_onChan _ ch _ rfl).moves
    · next hslot =>
      split
      · next hp =>
        refine hs.trans (onRelay_moves _ ch _ { (s.chan ch).relay with phase := .header, taken := [], given := 0 }
          (by simp [Channel.onRelay]) (by simp) fun _ => slotOk_of_empty ?_ (by simp) (by simp))
        simpa using (Bool.or_eq_false_iff.1 (Bool.eq_false_iff.2 hslot)).1
      · exact hs
  · exact hs

theorem execCatchUpComplete_moves (ch : Ch) (s : State) : ∃ t, execCatchUpComplete ch s = .next t ∧ s.Moves t := by
  refine ⟨_, rfl, moves_if fun h => ?_⟩
  obtain ⟨⟨-, hp⟩, -⟩ : (s.live ch = true ∧ (s.chan ch).relay.phase = .catchUp) ∧
      (s.chan ch).relay.ownDone s.now = true := by simpa [State.catchUpDue] using h
  split
  · next hs =>
    exact updateHead_moves _ ((State.Leads.refl s).apart ch) (queue_of_slot (of_and_true hs) (by simp [hp])) .refl
  · refine onRelay_moves s ch _ (s.chan ch).relay.caughtUp rfl ?_ fun h => ?_
    · unfold Relay.caughtUp
      split <;> rfl
    · unfold Relay.caughtUp
      split
      · exact slotOk_of_same h rfl (by simp [hp]) (by simp) (by simp)
      · exact slotOk_of_same h rfl (by simp [hp]) (by simp) (by simp)

theorem execLinkFrameEnd_moves (ch : Ch) (bits : List Bool) (s : State) :
    ∃ t, execLinkFrameEnd ch bits s = .next t ∧ s.Moves t := by
  have hs := (settles_onChan s ch (fun c => { c with lks := true }) rfl).moves
  refine ⟨_, rfl, ?_⟩
  split
  · split
    · exact hs.trans (settles_onChan _ ch _ rfl).moves
    · exact hs.trans (endFrame_moves _ _ _)
  · exact hs

theorem execHeldFrameReplay_moves (ch : Ch) (bits : List Bool) (fall : BitVec 31) (s : State) :
    ∃ t, execHeldFrameReplay ch bits fall s = .next t ∧ s.Moves t := by
  refine ⟨_, rfl, moves_if fun h => ?_⟩
  have hq : (s.chan ch).queue = [] := by simpa using of_and_true h
  refine onRelay_moves s ch _ ((s.chan ch).relay.startReplay s.now bits fall) rfl (startReplay_selected _ _ _ _) fun _ => ?_
  rw [hq]
  exact startReplay_slotOk _ _ _

theorem execWaitingFrameRelease_moves (ch : Ch) (s : State) :
    ∃ t, execWaitingFrameRelease ch s = .next t ∧ s.Moves t := by
  refine ⟨_, rfl, moves_if fun h => ?_⟩
  obtain ⟨⟨-, hs⟩, -⟩ : ((s.live ch = true ∧ (s.chan ch).relay.waiting = true) ∧ (s.chan ch).relay.slot = none) ∧
      (s.chan ch).relay.phase = .idle := by simpa [State.waitingDue] using h
  exact onRelay_moves s ch _ { (s.chan ch).relay with waiting := false, phase := .header, taken := [], given := 0 }
    rfl rfl fun _ => slotOk_of_empty hs (by simp) (by simp)

theorem execUnknownKind_moves (s : State) : ∃ t, execUnknownKind s = .next t ∧ s.Moves t := by
  refine ⟨_, rfl, ?_⟩
  split
  · exact moves_if fun _ => ((refuse_settles _ _ _ _).trans (takeNext_settles _)).moves
  · exact .refl s

theorem execDeferredIncidentStore_moves (ch : Ch) (s : State) :
    ∃ t, execDeferredIncidentStore ch s = .next t ∧ s.Moves t := by
  refine ⟨_, rfl, ?_⟩
  split
  · exact (storeDeferred_settles _ _).moves
  · exact .refl s

/-- Every command but a reset of the whole part answers a next state, to which each channel comes by moves, with the
clock, RSTN, the straps and the commands that wait as before. -/
theorem exec_moves (c : Instr) (s : State) (hc : isReset c = false) : ∃ t, exec c s = .next t ∧ s.Moves t := by
  cases c with
  | powerOn | rstnLow | resetRelease => simp [isReset] at hc
  | writeGateRise ch => exact execWriteGateRise_moves ch s
  | writeGateFall ch => exact ⟨_, rfl, moves_if fun _ => writeFall_moves s ch⟩
  | symbolIntake ch wd wg sg rg => exact execSymbolIntake_moves ch wd wg sg rg s
  | symbolRelease ch => exact ⟨_, rfl, moves_if fun _ => (settleEdges_moves s ch).trans (releaseEdge_moves _ ch)⟩
  | release ch => exact ⟨_, rfl, moves_if fun h => releaseHead_moves s ch h⟩
  | tailExpiry ch => exact ⟨_, rfl, moves_if fun _ => departHead_moves s ch _ _⟩
  | promotion ch head => exact ⟨_, rfl, moves_if fun _ => (promote_settles s ch head).moves⟩
  | readyTimeout ch => exact ⟨_, rfl, moves_if fun _ => departHead_moves s ch _ _⟩
  | lrdyRise ch => exact ⟨_, rfl, (settles_onChan s ch _ rfl).moves⟩
  | lrdyFall ch => exact execLrdyFall_moves ch s
  | pfiChange ch level => exact ⟨_, rfl, (settles_onChan s ch _ rfl).moves⟩
  | rampStep ch => exact ⟨_, rfl, moves_if fun _ => (takeStep_settles s ch).moves⟩
  | stepGrant => exact ⟨_, rfl, (settleRecheck_settles s).moves⟩
  | rampComplete ch => exact ⟨_, rfl, moves_if fun _ => (completeRamp_settles s ch).moves⟩
  | heatTick => exact execHeatTick_moves s
  | parkExpiry ch => exact ⟨_, rfl, moves_if fun _ => ((settles_onChan s ch _ rfl).trans (retarget_settles _ ch)).moves⟩
  | readGateRise ch => exact ⟨_, rfl, moves_if fun _ => readRise_moves s ch⟩
  | readGateFall ch => exact ⟨_, rfl, moves_if fun _ => readFall_moves s ch⟩
  | prgRise ch => exact execPrgRise_moves ch s
  | servoGateRise ch => exact execServoGateRise_moves ch s
  | servoGateFall ch => exact ⟨_, rfl, moves_if fun _ => servoFall_moves s ch⟩
  | fenceTickReached ch => exact ⟨_, rfl, moves_if fun _ => (openFence_settles s ch).moves⟩
  | acquisitionAbandon ch => exact ⟨_, rfl, moves_if fun _ => (settles_onChan s ch _ rfl).moves⟩
  | wedgeMissExpiry ch => exact execWedgeMissExpiry_moves ch s
  | rateWindowComplete ch => exact ⟨_, rfl, moves_if fun _ => completeRate_moves s ch⟩
  | rateWindowAbandon ch => exact ⟨_, rfl, moves_if fun _ => abandonRate_moves s ch⟩
  | linkFrameStart ch => exact execLinkFrameStart_moves ch s
  | linkHeaderTaken ch header fall =>
    exact ⟨_, rfl, moves_if fun h => takeHeader_moves s ch header fall (by simpa using of_and_true h)⟩
  | catchUpComplete ch => exact execCatchUpComplete_moves ch s
  | linkFrameEnd ch bits => exact execLinkFrameEnd_moves ch bits s
  | heldFrameReplay ch bits fall => exact execHeldFrameReplay_moves ch bits fall s
  | replayComplete ch =>
    refine ⟨_, rfl, moves_if fun h => finishReplay_moves s ch ?_⟩
    simp only [State.replayEnds, Bool.and_eq_true, beq_iff_eq] at h
    exact h.1.2
  | waitingFrameRelease ch => exact execWaitingFrameRelease_moves ch s
  | holdLimitExpiry ch => exact ⟨_, rfl, moves_if fun _ => (forceSwitch_settles s ch).moves⟩
  | directiveFrame ch symbols => exact ⟨_, rfl, moves_if fun _ => (handSymbols_settles symbols s ch).moves⟩
  | waitingClearJoin ch => exact ⟨_, rfl, moves_if fun _ => (joinClear_settles s ch).moves⟩
  | headContext => exact ⟨_, rfl, applyKind_moves s _ _ _ fun e => (applyContext_settles s e).moves⟩
  | releaseContext => exact ⟨_, rfl, applyKind_moves s _ _ _ fun e => (applyRelease_settles s e).moves⟩
  | levelTable => exact ⟨_, rfl, applyKind_moves s _ _ _ fun e => (applyLevels_settles s e).moves⟩
  | channelSetup => exact ⟨_, rfl, applyKind_moves s _ _ _ fun e => applySetup_moves s e⟩
  | globalSetup => exact ⟨_, rfl, applyKind_moves s _ _ _ fun e => (applyGlobal_settles s e).moves⟩
  | report => exact ⟨_, rfl, applyKind_moves s _ _ _ fun _ => (requestReport_settles s).moves⟩
  | clear => exact ⟨_, rfl, applyKind_moves s _ _ _ fun e => (applyClear_settles s e).moves⟩
  | deferredIncidentStore ch => exact execDeferredIncidentStore_moves ch s
  | channelReset => exact ⟨_, rfl, applyKind_moves s _ _ _ fun e => resetChannel_moves s e.target⟩
  | forceLevel => exact ⟨_, rfl, applyKind_moves s _ _ _ fun e => (applyForce_settles s e).moves⟩
  | forceEnd => exact ⟨_, rfl, applyKind_moves s _ _ _ fun e => (endForce_settles s e.target).moves⟩
  | unknownKind => exact execUnknownKind_moves s
  | reportFrameEnd => exact ⟨_, rfl, moves_if fun _ => (finishReport_settles s).moves⟩

/-- Every reset of the whole part answers a next state that keeps the commands that wait, and brings each channel to
its initial values or leaves it as it is (R14, R15). -/
theorem exec_reset (c : Instr) (s : State) (hc : isReset c = true) :
    ∃ t, exec c s = .next t ∧ t.pending = s.pending ∧ ∀ ch, ReflTransGen Channel.Move (s.chan ch) (t.chan ch) := by
  have hold (s : State) (ch : Ch) (t phase accums) (hp : phase ≠ .hold ∧ phase ≠ .replay) :
      ReflTransGen Channel.Move (s.chan ch) ((s.chan ch).atReset t phase accums) := .single (.reset _ _ _ _ _ _ _ hp)
  have up (s : State) (ch : Ch) : ReflTransGen Channel.Move (s.chan ch) (s.powerUp.chan ch) := by
    cases ch <;> exact hold s _ _ _ _ (by simp)
  have leave (s : State) (lcA lcB : BitVec 6) (ch : Ch) :
      ReflTransGen Channel.Move (s.chan ch) ((s.leaveReset lcA lcB).chan ch) := by
    have phase (a b : Bool) : releasePhase a b ≠ .hold ∧ releasePhase a b ≠ .replay := by cases a <;> cases b <;> decide
    cases ch <;> exact hold s _ _ _ _ (phase _ _)
  cases c with
  | powerOn rstn lcA lcB =>
    refine ⟨_, rfl, ?_, fun ch => ?_⟩
    · cases rstn <;> rfl
    · cases rstn
      · exact up s ch
      · exact (up s ch).trans (leave _ lcA lcB ch)
  | rstnLow =>
    refine ⟨_, rfl, ?_, fun ch => ?_⟩
    · split <;> rfl
    · split
      · exact .refl
      · cases ch <;> exact hold s _ _ _ _ (by simp)
  | resetRelease lcA lcB =>
    refine ⟨_, rfl, ?_, fun ch => ?_⟩
    · split <;> rfl
    · split
      · exact leave s lcA lcB ch
      · exact .refl
  | _ => simp [isReset] at hc

/-- A step moves each channel (R11, R54). -/
theorem step_moves {s t : State} (h : step s = .next t) (ch : Ch) :
    ReflTransGen Channel.Move (s.chan ch) (t.chan ch) := by
  have run (c : Instr) (s : State) (h : exec c s = .next t) : ReflTransGen Channel.Move (s.chan ch) (t.chan ch) := by
    cases hc : isReset c with
    | false =>
      obtain ⟨u, hu, hm⟩ := exec_moves c s hc
      cases hu.symm.trans h
      exact hm.chan ch
    | true =>
      obtain ⟨u, hu, -, hm⟩ := exec_reset c s hc
      cases hu.symm.trans h
      exact hm ch
  unfold step at h
  split at h
  · have := run _ _ h
    rwa [chan_with_pending] at this
  · split at h
    · exact run _ _ h
    · cases h
      refine .single (.front ?_)
      have age (c : Channel) (now : Tick) : (c.age now).gear = c.gear := by
        have ha : (c.relay.advance now).selected = c.relay.selected ∧ (c.relay.advance now).slot = c.relay.slot ∧
            (c.relay.advance now).phase = c.relay.phase := by
          unfold Relay.advance
          split <;> simp
        simp [Channel.age, Channel.gear, ha]
      cases ch <;> exact age _ _

end Sys2Proof.Machine
end

section
/-! PROOFS. Settles O3, O54 and O55: what every move keeps. -/

namespace Sys2Proof.Machine

open Relation

/-! ### The commands that wait, the clock and the straps -/

/-- Settles O3: a command that is no reset leads to a state with the same clock, RSTN and straps. -/
theorem execKeepsQueueClockAndStraps : Obligations.ExecKeepsQueueClockAndStraps := by
  intro c s
  cases hc : isReset c with
  | false =>
    obtain ⟨t, ht, hm⟩ := exec_moves c s hc
    exact ⟨t, ht, hm.pending, fun _ => ⟨hm.now, hm.rstnLow, hm.straps⟩⟩
  | true =>
    obtain ⟨t, ht, hp, -⟩ := exec_reset c s hc
    exact ⟨t, ht, hp, fun h => absurd h (by simp)⟩

/-! ### Lists of records -/

/-- The sequence numbers that the runs of the records put into the delay line (R11). -/
def runsOf (q : List Rec) : List Seq := q.flatMap fun r => List.replicate r.run r.seq

theorem lineOk_iff (c : Channel) :
    c.LineOk ↔ c.line.length ≤ 4096 ∧ c.line.map (fun x => x.seq) = runsOf c.queue := Iff.rfl

@[simp] theorem runsOf_nil : runsOf [] = [] := rfl

@[simp] theorem runsOf_cons (r : Rec) (q : List Rec) : runsOf (r :: q) = List.replicate r.run r.seq ++ runsOf q := rfl

@[simp] theorem runsOf_append (p q : List Rec) : runsOf (p ++ q) = runsOf p ++ runsOf q := by
  simp [runsOf]

theorem runsOf_length (q : List Rec) : (runsOf q).length = runTotal q := by
  simp [runsOf, runTotal, List.length_flatMap]

/-- The newest record is the one that `onLast` changes. -/
theorem onLast_concat {α : Type} (f : α → α) (xs : List α) (x : α) : onLast f (xs ++ [x]) = xs ++ [f x] := by
  induction xs with
  | nil => rfl
  | cons y ys ih =>
    cases ys with
    | nil => rfl
    | cons z zs => simpa [onLast] using ih

@[simp] theorem onLast_nil {α : Type} (f : α → α) : onLast f ([] : List α) = [] := rfl

/-- The open record is the newest one (R42). -/
theorem openRec_eq_some {c : Channel} {r : Rec} (h : c.openRec = some r) :
    r.inputOpen = true ∧ ∃ before, c.queue = before ++ [r] := by
  unfold Channel.openRec at h
  split at h
  · next x hx =>
    split at h
    · next hi =>
      cases h
      exact ⟨hi, List.getLast?_eq_some_iff.1 hx⟩
    · contradiction
  · contradiction

theorem onHead_queue (c : Channel) (f : Rec → Rec) :
    (c.onHead f).queue = match c.queue with | [] => [] | r :: rest => f r :: rest := by
  unfold Channel.onHead
  split <;> simp_all

@[simp] theorem onHead_line (c : Channel) (f : Rec → Rec) : (c.onHead f).line = c.line := by
  unfold Channel.onHead
  split <;> rfl

@[simp] theorem onHead_relay (c : Channel) (f : Rec → Rec) : (c.onHead f).relay = c.relay := by
  unfold Channel.onHead
  split <;> rfl

@[simp] theorem onHead_wg (c : Channel) (f : Rec → Rec) : (c.onHead f).wg = c.wg := by
  unfold Channel.onHead
  split <;> rfl

@[simp] theorem onHead_sg (c : Channel) (f : Rec → Rec) : (c.onHead f).sg = c.sg := by
  unfold Channel.onHead
  split <;> rfl

@[simp] theorem onHead_wedge (c : Channel) (f : Rec → Rec) : (c.onHead f).wedge = c.wedge := by
  unfold Channel.onHead
  split <;> rfl

@[simp] theorem onHead_pwg (c : Channel) (f : Rec → Rec) : (c.onHead f).pwg = c.pwg := by
  unfold Channel.onHead
  split <;> rfl

@[simp] theorem onHead_prg (c : Channel) (f : Rec → Rec) : (c.onHead f).prg = c.prg := by
  unfold Channel.onHead
  split <;> rfl

@[simp] theorem dropHead_relay (c : Channel) : c.dropHead.relay = c.relay := by
  unfold Channel.dropHead
  split <;> rfl

@[simp] theorem dropHead_wg (c : Channel) : c.dropHead.wg = c.wg := by
  unfold Channel.dropHead
  split <;> rfl

@[simp] theorem dropHead_sg (c : Channel) : c.dropHead.sg = c.sg := by
  unfold Channel.dropHead
  split <;> rfl

@[simp] theorem dropHead_pwg (c : Channel) : c.dropHead.pwg = c.pwg := by
  unfold Channel.dropHead
  split <;> rfl

@[simp] theorem dropHead_prg (c : Channel) : c.dropHead.prg = c.prg := by
  unfold Channel.dropHead
  split <;> rfl

/-- An encroachment drops a RELEASING head record and no other (R54). -/
theorem encroached_queue (c : Channel) (t : Tick) :
    (c.encroached t).queue = if c.isReleasing then c.queue.tail else c.queue := by
  unfold Channel.encroached
  split
  · rw [dropHead_queue]
    rfl
  · rfl

@[simp] theorem encroached_relay (c : Channel) (t : Tick) : (c.encroached t).relay = c.relay := by
  unfold Channel.encroached
  split
  · rw [dropHead_relay]
    rfl
  · rfl

@[simp] theorem encroached_wg (c : Channel) (t : Tick) : (c.encroached t).wg = c.wg := by
  unfold Channel.encroached
  split
  · rw [dropHead_wg]
    rfl
  · rfl

@[simp] theorem encroached_pwg (c : Channel) (t : Tick) : (c.encroached t).pwg = false := by
  unfold Channel.encroached
  split
  · rw [dropHead_pwg]
    rfl
  · rfl

/-! ### A predicate of every record of the queue -/

section
variable {P : Rec → Prop} {c : Channel}

theorem forall_onHead {f : Rec → Rec} (hf : ∀ r, P r → P (f r)) (h : ∀ r ∈ c.queue, P r) :
    ∀ r ∈ (c.onHead f).queue, P r := by
  rw [onHead_queue]
  cases hq : c.queue with
  | nil => simp
  | cons q rest => simp_all

theorem forall_dropHead (h : ∀ r ∈ c.queue, P r) : ∀ r ∈ c.dropHead.queue, P r := by
  rw [dropHead_queue]
  exact fun r hr => h r (List.mem_of_mem_tail hr)

theorem forall_beginFence (h : ∀ r ∈ c.queue, P r) : ∀ r ∈ c.beginFence.queue, P r := by
  intro r hr
  refine h r ?_
  rw [← keptAtFence_append_cut c.queue]
  exact List.mem_append_left _ hr

theorem forall_encroached {t : Tick} (h : ∀ r ∈ c.queue, P r) : ∀ r ∈ (c.encroached t).queue, P r := by
  rw [encroached_queue]
  split
  · exact fun r hr => h r (List.mem_of_mem_tail hr)
  · exact h

theorem forall_onLast {f : Rec → Rec} (hf : ∀ r, P r → P (f r)) {q : List Rec} (h : ∀ r ∈ q, P r) :
    ∀ r ∈ onLast f q, P r := by
  rcases List.eq_nil_or_concat q with rfl | ⟨before, r, rfl⟩
  · simp
  · rw [List.concat_eq_append, onLast_concat]
    rw [List.concat_eq_append] at h
    intro x hx
    rcases List.mem_append.1 hx with hx | hx
    · exact h x (List.mem_append_left _ hx)
    · rw [List.mem_singleton.1 hx]
      exact hf r (h r (by simp))

/-- A predicate that a new record has, and that no move of a record's own fields takes away, stays with every record of
the queue. -/
theorem forall_queue_move {d : Channel} (hm : Channel.Move c d) (hhead : ∀ r code cold b, P r → P (r.asHead code cold b))
    (hrel : ∀ r n, P r → P (r.asReleased n)) (htail : ∀ r t, P r → P (r.enterTail t))
    (htrunc : ∀ r, P r → P r.truncate) (hsend : ∀ r, 1 ≤ r.run → P r → P r.sendOne)
    (hstore : ∀ r, P r → P r.storeOne) (hdrop : ∀ r, P r → P r.dropOne)
    (hclose : ∀ r, P r → P { r with inputOpen := false })
    (hnew : ∀ a n, c.relay.selected = some a.head → P (newRecord a n)) (h : ∀ r ∈ c.queue, P r) :
    ∀ r ∈ d.queue, P r := by
  have new {q : List Rec} (hq : ∀ r ∈ q, P r) {a : Admission} (hs : c.relay.selected = some a.head) (n : Seq) :
      ∀ r ∈ q ++ [newRecord a n], P r := by
    intro r hr
    rcases List.mem_append.1 hr with hr | hr
    · exact hq r hr
    · rw [List.mem_singleton.1 hr]
      exact hnew a n hs
  cases hm with
  | front hg => rwa [(gear_ext hg).2.1]
  | quiet hq =>
    cases hq with
    | same hg => rwa [(gear_ext hg).2.1]
    | clear => simp
    | fence => exact forall_beginFence h
  | fenceEnds | relay | gateFalls | writeRises | readRises | readFalls | servoFalls => exact h
  | depart code cold b => exact forall_onHead (fun r => hhead r code cold b) (forall_dropHead h)
  | release n => exact forall_onHead (fun r => hrel r n) h
  | tail t => exact forall_onHead (fun r => htail r t) h
  | truncate t r rest hq => exact forall_onHead (fun r hr => htail _ t (htrunc r hr)) h
  | send r rest x line hq hr h1 hl =>
    intro y hy
    rw [show (Channel.queue { c.onHead Rec.sendOne with line := line, pwg := true }) = (c.onHead Rec.sendOne).queue from rfl,
      onHead_queue, hq] at hy
    rw [hq] at h
    rcases List.mem_cons.1 hy with rfl | hy
    · exact hsend r h1 (h r (by simp))
    · exact h y (by simp [hy])
  | store r x ho hl => exact forall_onLast hstore h
  | discard => exact forall_onLast hdrop h
  | abort r ho => exact fun r hr => h r (List.mem_of_mem_dropLast hr)
  | writeFalls =>
    intro r hr
    obtain ⟨q, hq, rfl⟩ := List.mem_map.1 hr
    exact hclose q (h q hq)
  | joinsFirst a n code cold hq hs hh =>
    exact forall_onHead (c := c.takeOn (newRecord a n)) (fun r => hhead r code cold false) (new h hs n)
  | joinsBridged a n code cold hw hl hs hh =>
    exact forall_onHead (c := c.dropHead.takeOn (newRecord a n)) (fun r => hhead r code cold true)
      (new (forall_dropHead h) hs n)
  | joins a n hw hq hl hs hh => exact new h hs n
  | encroaches t code cold => exact forall_onHead (fun r => hhead r code cold false) (forall_encroached h)
  | servoRises t => exact forall_encroached h
  | servoOpens t => exact forall_beginFence (forall_encroached h)
  | channelReset | reset => simp [Channel.resetBlocks, initialChannel]

end

/-- The counts of each record add up after every move (R42). -/
theorem countsOk_move {c d : Channel} (hm : Channel.Move c d) (h : ∀ r ∈ c.queue, r.CountsOk) :
    ∀ r ∈ d.queue, r.CountsOk := by
  refine forall_queue_move hm ?_ ?_ ?_ ?_ ?_ ?_ ?_ ?_ ?_ h
  · exact fun r code cold b hr => hr
  · exact fun r n hr => hr
  · exact fun r t hr => hr
  · intro r hr hs
    have := hr hs
    simp only [Rec.truncate, satAdd, maxSymbols] at *
    omega
  · intro r h1 hr hs
    have := hr hs
    simp only [Rec.sendOne, satAdd, maxSymbols] at *
    omega
  · intro r hr hs
    simp only [Rec.storeOne, Rec.CountsOk, satAdd, maxSymbols] at *
    omega
  · intro r hr hs
    simp only [Rec.dropOne, Rec.CountsOk, satAdd, maxSymbols] at *
    omega
  · exact fun r hr => hr
  · exact fun a n _ _ => rfl

/-! ### The delay line (R11) -/

/-- The runs of the newest records are the newest symbols (R12). -/
theorem seqs_take {line : List Symbol} {p q : List Rec} (h : line.map (fun x => x.seq) = runsOf (p ++ q)) :
    (line.take (line.length - runTotal q)).map (fun x => x.seq) = runsOf p := by
  have hl : line.length = (runsOf p).length + runTotal q := by
    simpa [runsOf_length] using congrArg List.length h
  rw [List.map_take, h, runsOf_append, hl, Nat.add_sub_cancel, List.take_left']
  rfl

/-- A change of the head record that leaves its run and its number leaves the line's law. -/
theorem onHead_lineOk {c : Channel} {f : Rec → Rec} (hf : ∀ r, (f r).run = r.run ∧ (f r).seq = r.seq) (h : c.LineOk) :
    (c.onHead f).LineOk := by
  rw [lineOk_iff, onHead_line, onHead_queue] at *
  refine ⟨h.1, h.2.trans ?_⟩
  cases c.queue with
  | nil => rfl
  | cons r rest => simp [hf r]

/-- The run of the oldest record goes with it (R12, R36). -/
theorem dropHead_lineOk {c : Channel} (h : c.LineOk) : c.dropHead.LineOk := by
  rw [lineOk_iff] at *
  obtain ⟨hl, hm⟩ := h
  unfold Channel.dropHead
  split
  · exact ⟨hl, hm⟩
  · next r rest hq =>
    refine ⟨by simp; omega, ?_⟩
    simp [List.map_drop, hm, hq]

theorem beginFence_lineOk {c : Channel} (h : c.LineOk) : c.beginFence.LineOk := by
  rw [lineOk_iff] at *
  obtain ⟨hl, hm⟩ := h
  rw [← keptAtFence_append_cut c.queue] at hm
  exact ⟨by simp [Channel.beginFence]; omega, seqs_take hm⟩

theorem encroached_lineOk {c : Channel} (t : Tick) (h : c.LineOk) : (c.encroached t).LineOk := by
  unfold Channel.encroached
  split
  · exact dropHead_lineOk h
  · exact h

/-- A change of the newest record that leaves its run and its number leaves the runs. -/
theorem runsOf_onLast {f : Rec → Rec} (hf : ∀ r, (f r).run = r.run ∧ (f r).seq = r.seq) (q : List Rec) :
    runsOf (onLast f q) = runsOf q := by
  rcases List.eq_nil_or_concat q with rfl | ⟨before, r, rfl⟩
  · rfl
  · simp [onLast_concat, hf r]

/-- The delay line stays the runs of the queued records, in queue order, after every move (R11). -/
theorem lineOk_move {c d : Channel} (hm : Channel.Move c d) (h : c.LineOk) : d.LineOk := by
  have takeOn (c : Channel) (h : c.LineOk) (a : Admission) (n : Seq) : (c.takeOn (newRecord a n)).LineOk := by
    rw [lineOk_iff] at *
    simpa [Channel.takeOn, newRecord] using h
  have seat {c : Channel} (h : c.LineOk) (code : Code) (cold : Nat) (b : Bool) : (c.seat code cold b).LineOk :=
    onHead_lineOk (fun _ => ⟨rfl, rfl⟩) h
  have same {d : Channel} (hg : d.gear = c.gear) : d.LineOk := by
    obtain ⟨hl, hq, -⟩ := gear_ext hg
    rwa [Channel.LineOk, hl, hq]
  cases hm with
  | front hg => exact same hg
  | quiet hq =>
    cases hq with
    | same hg => exact same hg
    | clear => simp [Channel.LineOk]
    | fence => exact beginFence_lineOk h
  | fenceEnds | relay | gateFalls | writeRises | readRises | readFalls | servoFalls => exact h
  | depart code cold b => exact seat (dropHead_lineOk h) code cold b
  | release n => exact onHead_lineOk (fun _ => ⟨rfl, rfl⟩) h
  | tail t => exact onHead_lineOk (fun _ => ⟨rfl, rfl⟩) h
  | truncate t r rest hq =>
    rw [lineOk_iff] at *
    obtain ⟨hl, hm⟩ := h
    refine ⟨by simp; omega, ?_⟩
    simp [onHead_queue, hq, List.map_drop, hm, Rec.truncate, Rec.enterTail]
  | send r rest x line hq hr h1 hl =>
    rw [lineOk_iff] at *
    obtain ⟨hn, hm⟩ := h
    obtain ⟨k, hk⟩ := Nat.exists_eq_add_of_le' h1
    rw [hl] at hn
    rw [hl, hq, List.map_cons, runsOf_cons, hk, List.replicate_succ, List.cons_append] at hm
    refine ⟨by simp at hn ⊢; omega, ?_⟩
    simpa [onHead_queue, hq, Rec.sendOne, hk] using (List.cons.inj hm).2
  | store r x ho hl =>
    obtain ⟨-, before, hq⟩ := openRec_eq_some ho
    rw [lineOk_iff] at *
    refine ⟨by simp; omega, ?_⟩
    simp [hq, onLast_concat, h.2, Rec.storeOne, List.replicate_succ']
  | discard =>
    exact ⟨h.1, h.2.trans (runsOf_onLast (f := Rec.dropOne) (fun _ => ⟨rfl, rfl⟩) _).symm⟩
  | abort r ho =>
    obtain ⟨-, before, hq⟩ := openRec_eq_some ho
    rw [lineOk_iff] at *
    obtain ⟨hl, hm⟩ := h
    rw [hq] at hm
    refine ⟨by simp [Channel.dropNewest]; omega, ?_⟩
    simpa [Channel.dropNewest, hq, runTotal] using seqs_take hm
  | writeFalls =>
    rw [lineOk_iff] at *
    refine ⟨h.1, h.2.trans ?_⟩
    simp [runsOf, List.flatMap_map]
  | joinsFirst a n code cold => exact seat (takeOn c h a n) code cold false
  | joinsBridged a n code cold => exact seat (takeOn _ (dropHead_lineOk h) a n) code cold true
  | joins a n => exact takeOn c h a n
  | encroaches t code cold => exact seat (encroached_lineOk t h) code cold false
  | servoRises t => exact encroached_lineOk t h
  | servoOpens t => exact beginFence_lineOk (encroached_lineOk t h)
  | channelReset | reset => simp [Channel.LineOk, Channel.resetBlocks, initialChannel]

/-! ### The records carry the selected head (R36) -/

/-- The slot's law asks for an empty queue at most, and for none with an empty slot. -/
theorem slotOk_queue {r : Relay} {q q' : List Rec} (h : r.SlotOk q) (hq : r.slot = none ∨ (q = [] → q' = [])) :
    r.SlotOk q' := by
  refine ⟨fun hs hp => ?_, h.2⟩
  rcases hq with hq | hq
  · simp [hq] at hs
  · exact hq (h.1 hs hp)

/-- No move fills an empty queue behind an occupied slot, and the relay changes by its own moves alone (R142, R145). -/
theorem slotOk_move {c d : Channel} (hm : Channel.Move c d) (h : c.relay.SlotOk c.queue) : d.relay.SlotOk d.queue := by
  have shrunk {q : List Rec} (hq : c.queue = [] → q = []) : c.relay.SlotOk q := slotOk_queue h (.inr hq)
  have dropped : c.queue = [] → c.dropHead.queue = [] := fun hq => by rw [dropHead_queue, hq]; rfl
  have changed {x : Channel} (f : Rec → Rec) (hx : c.queue = [] → x.queue = []) :
      c.queue = [] → (x.onHead f).queue = [] := fun hq => by rw [onHead_queue, hx hq]
  have encroached (t : Tick) : c.queue = [] → (c.encroached t).queue = [] := fun hq => by
    rw [encroached_queue, hq]
    split <;> rfl
  have same {d : Channel} (hg : d.gear = c.gear) : d.relay.SlotOk d.queue := by
    obtain ⟨-, hq, -, -, -, hs, hp, -⟩ := gear_ext hg
    rw [hq]
    exact slotOk_congr h hs hp
  cases hm with
  | front hg => exact same hg
  | quiet hq =>
    cases hq with
    | same hg => exact same hg
    | clear => exact shrunk fun _ => rfl
    | fence => exact shrunk fun hq => by simp [Channel.beginFence, hq, keptAtFence]
  | relay r hs hh => exact hs h
  | fenceEnds | gateFalls | writeRises | readRises | readFalls | servoFalls => exact h
  | depart code cold b =>
    rw [Channel.seat, onHead_relay, dropHead_relay]
    exact shrunk (changed _ dropped)
  | release n =>
    rw [onHead_relay]
    exact shrunk (changed _ id)
  | tail t =>
    rw [onHead_relay]
    exact shrunk (changed _ id)
  | truncate t r rest hq => simpa [hq] using slotOk_queue (q' := (c.onHead _).queue) h (.inr (changed _ id))
  | send r rest x line hq => simpa [hq] using slotOk_queue (q' := (c.onHead _).queue) h (.inr (changed _ id))
  | store r x ho hl => exact shrunk fun hq => by simp [hq]
  | discard => exact shrunk fun hq => by simp [hq]
  | abort r ho => exact shrunk fun hq => by simp [Channel.dropNewest, hq]
  | writeFalls => exact shrunk fun hq => by simp [hq]
  | joinsFirst a n code cold hq hs hh =>
    rw [Channel.seat, onHead_relay]
    exact slotOk_queue h (.inl hh)
  | joinsBridged a n code cold hw hl hs hh =>
    rw [Channel.seat, onHead_relay, Channel.takeOn, dropHead_relay]
    exact slotOk_queue h (.inl hh)
  | joins a n hw hq hl hs hh => exact slotOk_queue h (.inl hh)
  | encroaches t code cold =>
    rw [Channel.seat, onHead_relay, encroached_relay]
    exact shrunk (changed _ (encroached t))
  | servoRises t =>
    rw [encroached_relay]
    exact shrunk (encroached t)
  | servoOpens t =>
    rw [Channel.beginFence, encroached_relay]
    exact shrunk fun hq => by simp [encroached t hq, keptAtFence]
  | channelReset => exact shrunk fun _ => rfl
  | reset t phase lrdy pfi lks accums hp => exact slotOk_of_empty rfl hp.1 hp.2

/-- The selected head changes by a move of the relay or a reset alone. -/
theorem selected_move {c d : Channel} (hm : Channel.Move c d) (h : c.relay.SlotOk c.queue) :
    d.relay.selected = c.relay.selected ∨ d.queue = [] := by
  have same {d : Channel} (hg : d.gear = c.gear) : d.relay.selected = c.relay.selected := by
    obtain ⟨-, -, -, -, hs, -⟩ := gear_ext hg
    exact hs
  cases hm with
  | front hg => exact .inl (same hg)
  | quiet hq =>
    cases hq with
    | same hg => exact .inl (same hg)
    | clear | fence => exact .inl rfl
  | relay r hs hh => exact hh.imp id fun hq => hq h
  | reset => exact .inr rfl
  | depart | joinsBridged | encroaches | joinsFirst => simp [Channel.seat, Channel.takeOn]
  | servoOpens => simp [Channel.beginFence]
  | _ => simp [Channel.takeOn, Channel.resetBlocks, Channel.removeAll, Channel.dropGate, Channel.dropNewest]

/-- The queue holds records of the selected head after every move (R36, R142). -/
theorem oneHead_move {c d : Channel} (hm : Channel.Move c d) (h : c.OneHead) : d.OneHead := by
  rw [oneHead_iff] at *
  obtain ⟨hh, hs⟩ := h
  refine ⟨?_, slotOk_move hm hs⟩
  rcases selected_move hm hs with hsel | hq
  · rw [hsel]
    refine forall_queue_move (P := fun r => c.relay.selected = some r.head) hm ?_ ?_ ?_ ?_ ?_ ?_ ?_ ?_ ?_ hh
    · exact fun _ _ _ _ h => h
    · exact fun _ _ h => h
    · exact fun _ _ h => h
    · exact fun _ h => h
    · exact fun _ _ h => h
    · exact fun _ h => h
    · exact fun _ h => h
    · exact fun _ h => h
    · exact fun _ _ h => h
  · simp [hq]

/-! ### The shape of the queue (R36, R42) -/

/-- The law of the queue but for the state of its head record: what a departure leaves before the next record is seated. -/
def Trails (q : List Rec) (wg : Bool) : Prop :=
  q.length ≤ 8 ∧ (∀ r ∈ q.tail, r.state = .queued) ∧ (∀ r ∈ q.dropLast, r.inputOpen = false) ∧
    ∀ r ∈ q, r.inputOpen = true → wg = true

theorem queueOk_iff (c : Channel) :
    c.QueueOk ↔ Trails c.queue c.wg.level ∧ ∀ r ∈ c.queue.head?, r.state ≠ .queued := by
  unfold Channel.QueueOk Trails
  tauto

@[simp] theorem trails_nil (wg : Bool) : Trails [] wg := by simp [Trails]

/-- The queue of one record. -/
theorem trails_cons (r : Rec) (q : List Rec) (wg : Bool) :
    Trails (r :: q) wg ↔ q.length ≤ 7 ∧ (∀ x ∈ q, x.state = .queued) ∧ (q ≠ [] → r.inputOpen = false) ∧
      (∀ x ∈ q.dropLast, x.inputOpen = false) ∧ (r.inputOpen = true → wg = true) ∧
      ∀ x ∈ q, x.inputOpen = true → wg = true := by
  cases q with
  | nil => simp [Trails]
  | cons x q =>
    simp only [Trails, List.length_cons, List.tail_cons, List.dropLast_cons_cons, List.mem_cons, forall_eq_or_imp]
    constructor
    · rintro ⟨hl, hq, hd, ho⟩
      exact ⟨by omega, hq, fun _ => hd.1, hd.2, ho.1, ho.2⟩
    · rintro ⟨hl, hq, hr, hd, ho, hx⟩
      exact ⟨by omega, hq, ⟨hr (by simp), hd⟩, ho, hx⟩

theorem trails_tail {q : List Rec} {wg : Bool} (h : Trails q wg) : Trails q.tail wg := by
  cases q with
  | nil => exact h
  | cons r q =>
    obtain ⟨hl, hq, -, hd, -, hx⟩ := (trails_cons r q wg).1 h
    exact ⟨by simp; omega, fun x hx => hq x (List.mem_of_mem_tail hx), hd, hx⟩

/-- A change of the head record that opens no input. -/
theorem trails_onHead {c : Channel} {f : Rec → Rec} {wg : Bool} (hf : ∀ r, (f r).inputOpen = r.inputOpen)
    (h : Trails c.queue wg) : Trails (c.onHead f).queue wg := by
  rw [onHead_queue]
  cases hq : c.queue with
  | nil => simp
  | cons r q =>
    rw [hq, trails_cons] at h
    simpa [trails_cons, hf r] using h

/-- A change of the newest record that opens no input and leaves its state. -/
theorem trails_onLast {f : Rec → Rec} {q : List Rec} {wg : Bool}
    (hf : ∀ r, (f r).inputOpen = r.inputOpen ∧ (f r).state = r.state) (h : Trails q wg) : Trails (onLast f q) wg := by
  rcases List.eq_nil_or_concat q with rfl | ⟨before, r, rfl⟩
  · simp
  rw [List.concat_eq_append] at *
  rw [onLast_concat]
  obtain ⟨hl, hq, hd, ho⟩ := h
  refine ⟨by simpa using hl, ?_, by simpa using hd, ?_⟩
  · cases before with
    | nil => simp
    | cons x before => simpa [List.tail_append_of_ne_nil, or_imp, forall_and, hf r] using hq
  · simpa [or_imp, forall_and, hf r] using ho

theorem trails_dropLast {q : List Rec} {wg : Bool} (h : Trails q wg) : Trails q.dropLast wg := by
  obtain ⟨hl, hq, hd, ho⟩ := h
  refine ⟨by simp; omega, fun r hr => hq r ?_, fun r hr => hd r (List.mem_of_mem_dropLast hr),
    fun r hr => ho r (List.mem_of_mem_dropLast hr)⟩
  rw [List.tail_dropLast] at hr
  exact List.mem_of_mem_dropLast hr

/-- The newest record gone, the head record is as before, if one is left. -/
theorem head?_of_dropLast {q : List Rec} {r : Rec} (h : r ∈ q.dropLast.head?) : r ∈ q.head? := by
  match q, h with
  | _ :: _ :: _, h => exact h

/-- A fence beginning leaves one released record or none (R53). -/
theorem keptAtFence_cases (q : List Rec) :
    keptAtFence q = [] ∨
      ∃ r ∈ q.head?, (r.state = .releasing ∨ r.state = .tail) ∧ keptAtFence q = [r] := by
  cases q with
  | nil => exact .inl rfl
  | cons r q =>
    by_cases h : r.state = .releasing ∨ r.state = .tail
    · exact .inr ⟨r, rfl, h, by simp [keptAtFence, h]⟩
    · exact .inl (by simp [keptAtFence, h])

theorem beginFence_queueOk {c : Channel} (h : Trails c.queue c.wg.level) : c.beginFence.QueueOk := by
  rw [queueOk_iff]
  change Trails (keptAtFence c.queue) c.wg.level ∧ ∀ r ∈ (keptAtFence c.queue).head?, r.state ≠ .queued
  rcases keptAtFence_cases c.queue with e | ⟨r, hr, hs, e⟩ <;> rw [e]
  · simp
  · refine ⟨by simpa [Trails] using h.2.2.2 r (List.mem_of_mem_head? hr), ?_⟩
    rcases hs with hs | hs <;> simp [hs]

/-- A record seated at the head is PREPARING (R44). -/
theorem seat_queueOk {c : Channel} {code : Code} {cold : Nat} {b : Bool} (h : Trails c.queue c.wg.level) :
    (c.seat code cold b).QueueOk := by
  rw [queueOk_iff]
  refine ⟨?_, ?_⟩
  · rw [Channel.seat, onHead_wg]
    exact trails_onHead (fun _ => rfl) h
  · rw [Channel.seat, onHead_queue]
    cases c.queue <;> simp [Rec.asHead]

/-- A new record behind records that are all closed (R41). -/
theorem takeOn_trails {c : Channel} {wg : Bool} {a : Admission} {n : Seq} (h : Trails c.queue wg)
    (hw : wg = false ∨ c.queue = []) (hl : c.queue.length < 8) :
    Trails (c.takeOn (newRecord a n)).queue (c.takeOn (newRecord a n)).wg.level := by
  obtain ⟨-, hq, -, ho⟩ := h
  refine ⟨by simp [Channel.takeOn]; omega, ?_, ?_, fun _ _ _ => rfl⟩
  · rcases List.eq_nil_or_concat c.queue with e | ⟨_, _, e⟩
    · simp [Channel.takeOn, e]
    · have : c.queue ≠ [] := by simp [e]
      simpa [Channel.takeOn, List.tail_append_of_ne_nil this, or_imp, forall_and, newRecord] using hq
  · rcases hw with rfl | e
    · simpa [Channel.takeOn] using ho
    · simp [Channel.takeOn, e]

theorem encroached_trails {c : Channel} (t : Tick) (h : Trails c.queue c.wg.level) :
    Trails (c.encroached t).queue (c.encroached t).wg.level := by
  rw [encroached_queue, encroached_wg]
  split
  · exact trails_tail h
  · exact h

/-- The queue keeps its law after every move (R36, R42). -/
theorem queueOk_move {c d : Channel} (hm : Channel.Move c d) (h : c.QueueOk) : d.QueueOk := by
  obtain ⟨ht, hh⟩ := (queueOk_iff c).1 h
  have changed {f : Rec → Rec} (hf : ∀ r, (f r).inputOpen = r.inputOpen) (hs : ∀ r, r.state ≠ .queued → (f r).state ≠ .queued) :
      (c.onHead f).QueueOk := by
    rw [queueOk_iff, onHead_wg]
    refine ⟨trails_onHead hf ht, ?_⟩
    rw [onHead_queue]
    cases hq : c.queue with
    | nil => simp
    | cons r q => simpa using hs r (hh r (by simp [hq]))
  have newest {f : Rec → Rec} (hf : ∀ r, (f r).inputOpen = r.inputOpen ∧ (f r).state = r.state) :
      ∀ r ∈ (onLast f c.queue).head?, r.state ≠ .queued := by
    rcases List.eq_nil_or_concat c.queue with e | ⟨before, r, e⟩
    · simp [e]
    · rw [e, List.concat_eq_append, onLast_concat]
      rw [e, List.concat_eq_append] at hh
      cases before with
      | nil => simpa [hf r] using hh
      | cons => simpa using hh
  have dropped : Trails c.dropHead.queue c.dropHead.wg.level := by
    rw [dropHead_queue, dropHead_wg]
    exact trails_tail ht
  have same {d : Channel} (hg : d.gear = c.gear) : d.QueueOk := by
    obtain ⟨-, hq, hw, -⟩ := gear_ext hg
    rwa [Channel.QueueOk, hq, hw]
  cases hm with
  | front hg => exact same hg
  | quiet hq =>
    cases hq with
    | same hg => exact same hg
    | clear => simp [queueOk_iff]
    | fence => exact beginFence_queueOk ht
  | fenceEnds | relay | gateFalls | readRises | readFalls | servoFalls => exact h
  | depart code cold b => exact seat_queueOk dropped
  | release n => exact changed (fun _ => rfl) fun r _ => by simp [Rec.asReleased]
  | tail t => exact changed (fun _ => rfl) fun r _ => by simp [Rec.enterTail]
  | truncate t r rest hq => exact changed (f := fun r => r.truncate.enterTail t) (fun _ => rfl) fun r _ => by simp [Rec.enterTail]
  | send r rest x line hq => exact changed (f := Rec.sendOne) (fun _ => rfl) fun r h => h
  | store r x ho hl =>
    exact (queueOk_iff _).2 ⟨trails_onLast (fun _ => ⟨rfl, rfl⟩) ht, newest fun _ => ⟨rfl, rfl⟩⟩
  | discard => exact (queueOk_iff _).2 ⟨trails_onLast (fun _ => ⟨rfl, rfl⟩) ht, newest fun _ => ⟨rfl, rfl⟩⟩
  | abort r ho =>
    exact (queueOk_iff _).2 ⟨trails_dropLast ht, fun x hx => hh x (head?_of_dropLast hx)⟩
  | writeFalls =>
    obtain ⟨hl, hq, hd, -⟩ := ht
    refine (queueOk_iff _).2 ⟨⟨by simpa using hl, ?_, ?_, by simp⟩, ?_⟩
    · simpa [← List.map_tail] using hq
    · simp [← List.map_dropLast]
    · cases hq : c.queue with
      | nil => simp
      | cons r q => simpa [hq] using hh
  | writeRises => exact (queueOk_iff _).2 ⟨⟨ht.1, ht.2.1, ht.2.2.1, fun _ _ _ => rfl⟩, hh⟩
  | joinsFirst a n code cold hq => exact seat_queueOk (takeOn_trails ht (.inr hq) (by simp [hq]))
  | joinsBridged a n code cold hw hl =>
    refine seat_queueOk (takeOn_trails dropped (.inl (by rw [dropHead_wg, hw])) ?_)
    rw [dropHead_queue, List.length_tail]
    omega
  | joins a n hw hq hl =>
    refine (queueOk_iff _).2 ⟨takeOn_trails ht (.inl hw) hl, ?_⟩
    simpa [Channel.takeOn, List.head?_append_of_ne_nil _ hq] using hh
  | encroaches t code cold => exact seat_queueOk (encroached_trails t ht)
  | servoRises t hf hr =>
    refine (queueOk_iff _).2 ⟨encroached_trails t ht, ?_⟩
    simpa [encroached_queue, hr] using hh
  | servoOpens t => exact beginFence_queueOk (encroached_trails t ht)
  | channelReset | reset => simp [queueOk_iff, Channel.resetBlocks, initialChannel]

/-- What every move keeps, every step keeps. -/
theorem step_keeps {P : Channel → Prop} (hP : ∀ c d, Channel.Move c d → P c → P d) {s t : State} (h : step s = .next t)
    (ch : Ch) (hs : P (s.chan ch)) : P (t.chan ch) := by
  have hm := step_moves h ch
  generalize t.chan ch = d at hm
  induction hm with
  | refl => exact hs
  | tail _ hm ih => exact hP _ _ hm ih

/-- Settles O54: the delay line, the counts, the queue and its head are each kept by every move. -/
theorem burstQueueLaw : Obligations.BurstQueueLaw := by
  intro s t hs h ch
  obtain ⟨hl, hc, hq, ho⟩ := hs ch
  exact ⟨step_keeps (fun _ _ => lineOk_move) h ch hl,
    step_keeps (P := fun c => ∀ r ∈ c.queue, r.CountsOk) (fun _ _ => countsOk_move) h ch hc,
    step_keeps (fun _ _ => queueOk_move) h ch hq, step_keeps (fun _ _ => oneHead_move) h ch ho⟩

/-! ### The gates (R7, R54) -/

theorem isReleasing_iff (c : Channel) : c.isReleasing = true ↔ ∃ r ∈ c.queue.head?, r.state = .releasing := by
  unfold Channel.isReleasing Channel.headRec
  cases c.queue.head? <;> simp

/-- RELEASING is read off the state of the head record alone. -/
theorem isReleasing_congr {c d : Channel} (h : d.queue.head?.map Rec.state = c.queue.head?.map Rec.state) :
    d.isReleasing = c.isReleasing := by
  unfold Channel.isReleasing Channel.headRec
  cases hd : d.queue.head? <;> cases hc : c.queue.head? <;> simp_all

/-- A change of the newest record that leaves its state leaves the state of the head record. -/
theorem head?_onLast_state {f : Rec → Rec} (hf : ∀ r, (f r).state = r.state) (q : List Rec) :
    (onLast f q).head?.map Rec.state = q.head?.map Rec.state := by
  match q with
  | [] => rfl
  | [r] => simp [onLast, hf r]
  | _ :: _ :: _ => rfl

/-- A changed head record that is not RELEASING. -/
theorem isReleasing_onHead {c : Channel} {f : Rec → Rec} (hf : ∀ r, (f r).state ≠ .releasing) :
    (c.onHead f).isReleasing = false := by
  rw [Bool.eq_false_iff, Ne, isReleasing_iff, onHead_queue]
  cases c.queue <;> simp [hf]

/-- The window begins to a head record that is RELEASING only if it was before. -/
theorem isReleasing_beginFence {c : Channel} (h : c.beginFence.isReleasing = true) : c.isReleasing = true := by
  rw [isReleasing_iff] at *
  obtain ⟨r, hr, hs⟩ := h
  change r ∈ (keptAtFence c.queue).head? at hr
  rcases keptAtFence_cases c.queue with e | ⟨q, hq, -, e⟩ <;> rw [e] at hr
  · simp at hr
  · obtain rfl : q = r := by simpa using hr
    exact ⟨q, hq, hs⟩

/-- Behind an encroachment no record is RELEASING: the head record it drops is the only one outside QUEUED (R54). -/
theorem isReleasing_encroached {c : Channel} (t : Tick) (hq : c.QueueOk) : (c.encroached t).isReleasing = false := by
  rw [Bool.eq_false_iff, Ne, isReleasing_iff, encroached_queue]
  rintro ⟨r, hr, hs⟩
  split at hr
  · have := hq.2.1 r (List.mem_of_mem_head? hr)
    simp [hs] at this
  · next h => exact h ((isReleasing_iff c).2 ⟨r, hr, hs⟩)

/-- The law of the gates follows for a channel whose PWGx and head record claim no more than before, with PRGx as before and
the window open under SGx. -/
theorem gates_of_le {c d : Channel} (hs : c.ServoOk) (hp : c.PairOk) (hsg : d.sg.level = true → c.sg.level = true)
    (hf : d.sg.level = true → c.wedge.fence = true → d.wedge.fence = true) (hw : d.pwg = true → c.pwg = true)
    (hr : d.isReleasing = true → c.isReleasing = true) (hg : d.prg = true → c.prg = true) : d.ServoOk ∧ d.PairOk := by
  unfold Channel.ServoOk Channel.PairOk at *
  simp only [Bool.or_eq_true] at *
  refine ⟨fun h => ?_, fun h => ?_⟩
  · obtain ⟨hf', hw', hr'⟩ := hs (hsg h)
    refine ⟨hf h hf', ?_, ?_⟩
    · exact Bool.eq_false_iff.2 fun e => by simp [hw e] at hw'
    · exact Bool.eq_false_iff.2 fun e => by simp [hr e] at hr'
  · have := hp (h.imp hw hr)
    exact Bool.eq_false_iff.2 fun e => by simp [hg e] at this

/-- PRGx and PWGx, and the servo gate, keep their law after every move (R7, R54). -/
theorem gates_move {c d : Channel} (hm : Channel.Move c d) (hq : c.QueueOk) (hs : c.ServoOk) (hp : c.PairOk) :
    d.ServoOk ∧ d.PairOk := by
  have le := @gates_of_le c d hs hp
  have low (h : d.pwg = false) (hr : d.isReleasing = false) (hf : d.wedge.fence = true) : d.ServoOk ∧ d.PairOk :=
    ⟨fun _ => ⟨hf, h, hr⟩, fun h' => by simp [h, hr] at h'⟩
  have same {d : Channel} (hg : d.gear = c.gear) : d.ServoOk ∧ d.PairOk := by
    obtain ⟨-, hq, -, hsg, -, -, -, hf, hw, hr⟩ := gear_ext hg
    refine gates_of_le hs hp ?_ ?_ ?_ ?_ ?_ <;>
      simp [hsg, hf, hw, hr, isReleasing_congr (congrArg _ (congrArg _ hq))]
  cases hm with
  | front hg => exact same hg
  | quiet hm =>
    cases hm with
    | same hg => exact same hg
    | clear => exact le id (fun _ h => h) (by simp) (by simp [isReleasing_iff]) id
    | fence => exact le id (fun _ _ => rfl) id isReleasing_beginFence id
  | fenceEnds hsg => exact le id (fun h => by simp [hsg] at h) id id id
  | relay | writeRises => exact le id (fun _ h => h) id id id
  | depart code cold b =>
    refine le ?_ ?_ ?_ ?_ ?_ <;>
      simp [Channel.seat, isReleasing_onHead, Rec.asHead, dropHead_wedge]
  | release n hprg hf =>
    refine ⟨fun h => ?_, fun _ => by rw [onHead_prg, hprg]⟩
    rw [onHead_sg] at h
    have := (hs h).1
    simp [hf] at this
  | tail t =>
    refine le ?_ ?_ ?_ ?_ ?_ <;> simp [isReleasing_onHead, Rec.enterTail]
  | truncate t r rest hq =>
    have hr : (c.onHead fun r => r.truncate.enterTail t).isReleasing = false :=
      isReleasing_onHead fun r => by simp [Rec.enterTail]
    refine le ?_ ?_ ?_ (fun h => ?_) ?_
    · simp
    · simp
    · simp
    · exact absurd (hr.symm.trans h) (by simp)
    · simp
  | send r rest x line hq hr h1 hl =>
    have hc : c.isReleasing = true := (isReleasing_iff c).2 ⟨r, by simp [hq], hr⟩
    have hprg : c.prg = false := hp (by simp [hc])
    refine ⟨fun h => ?_, fun _ => by simpa using hprg⟩
    have := (hs (by simpa using h)).2.2
    simp [hc] at this
  | gateFalls => exact le id (fun _ h => h) (by simp) id id
  | store => exact le id (fun _ h => h) id ((isReleasing_congr (head?_onLast_state (f := Rec.storeOne) (fun _ => rfl) _)).symm.trans ·) id
  | discard => exact le id (fun _ h => h) id ((isReleasing_congr (head?_onLast_state (f := Rec.dropOne) (fun _ => rfl) _)).symm.trans ·) id
  | abort r ho =>
    refine le id (fun _ h => h) id (fun h => ?_) id
    rw [isReleasing_iff] at *
    obtain ⟨r, hr, hs⟩ := h
    exact ⟨r, head?_of_dropLast hr, hs⟩
  | writeFalls => exact le id (fun _ h => h) id ((isReleasing_congr (by cases c.queue <;> rfl)).symm.trans ·) id
  | joinsFirst | joinsBridged =>
    refine le ?_ ?_ ?_ ?_ ?_ <;>
      simp [Channel.seat, Channel.takeOn, isReleasing_onHead, Rec.asHead, dropHead_wedge]
  | joins a n hw hq =>
    refine le id (fun _ h => h) id (fun h => ?_) id
    rw [isReleasing_iff] at *
    simpa [Channel.takeOn, List.head?_append_of_ne_nil _ hq] using h
  | readRises hw hr =>
    refine ⟨hs, fun h => ?_⟩
    change (c.pwg || c.isReleasing) = true at h
    simp [hw, hr] at h
  | readFalls => exact ⟨hs, fun _ => rfl⟩
  | encroaches t code cold hf =>
    exact low (by simp [Channel.seat]) (isReleasing_onHead fun _ => by simp [Rec.asHead])
      (by simp [Channel.seat, encroached_wedge, hf])
  | servoRises t hf => exact low (by simp) (isReleasing_encroached t hq) (by simp [encroached_wedge, hf])
  | servoOpens t =>
    refine low (by simp [Channel.beginFence]) (Bool.eq_false_iff.2 fun h => ?_) rfl
    have := isReleasing_beginFence h
    simp [isReleasing_encroached t hq] at this
  | servoFalls => exact le (by simp [filterAt]) (by simp [filterAt]) id id id
  | channelReset t =>
    refine le id ?_ ?_ ?_ id
    · exact fun h hf => by simpa [Channel.resetBlocks, Channel.removeAll, Channel.dropGate, hf] using h
    · simp [Channel.resetBlocks]
    · simp [isReleasing_iff, Channel.resetBlocks]
  | reset => simp [Channel.ServoOk, Channel.PairOk, initialChannel, initialFilter, Channel.isReleasing, Channel.headRec]

/-- Settles O55: the queue's law and the law of the gates together are kept by every move. -/
theorem gateLaw : Obligations.GateLaw := by
  intro s t hs h ch
  exact (step_keeps (P := fun c => c.QueueOk ∧ c.ServoOk ∧ c.PairOk)
    (fun c d hm hc => ⟨queueOk_move hm hc.1, gates_move hm hc.1 hc.2.1 hc.2.2⟩) h ch (hs ch)).2

end Sys2Proof.Machine
end

section
/-! PROOFS. Settles O6, O7, O60, O14 and O5: the resets, the inputs of the preamplifier, and a channel that takes no input. -/

namespace Sys2Proof.Machine

/-! ### The blocks of the reset states -/

/-- The power-on table gives a code twice its number of half-mA (R134). -/
theorem current_of_initialLevels {s : State} (h : s.levels = initialLevels) (c : Code) : s.current c = 2 * c.toNat := by
  have hc : c.toNat < 64 := c.isLt
  simp [State.current, h, initialLevels, hc]

/-- With no incident no channel is in LOCKOUT (R169). -/
theorem lockedOut_of_none {s : State} (hi : s.incidents = []) (hd : s.deferred = []) (ch : Ch) : s.lockedOut ch = false := by
  simp [State.lockedOut, hi, hd]

/-- A channel as a reset leaves it is PARKED: code settled, no force, no record, no context (R85). -/
theorem seqState_of_initial {s : State} {ch : Ch} (hl : s.lockedOut ch = false) {t phase lrdy pfi lks accums}
    (hc : s.chan ch = initialChannel t phase lrdy pfi lks accums) : s.seqState ch = .parked := by
  simp [State.seqState, State.targetOf, hl, hc, initialChannel, initialSequencer, initialRelay, Channel.headRec,
    Channel.context, Sequencer.isSettled]

/-! ### Power-on and the fall of RSTN -/

theorem powerUp_eq (s : State) : s.powerUp = { State.reset with
    pending := s.pending, straps := s.straps, freeCount := s.freeCount
    a := initialChannel 0 .wire s.a.lrdy s.a.pfi s.a.lks (List.replicate 8 0)
    b := initialChannel 0 .wire s.b.lrdy s.b.pfi s.b.lks (List.replicate 8 0) } := rfl

theorem holdReset_eq (s : State) : s.holdReset = { State.reset with
    pending := s.pending, now := s.now, heatTaken := s.heatTaken, straps := s.straps, freeCount := s.freeCount
    a := initialChannel s.now .wire s.a.lrdy s.a.pfi s.a.lks (s.a.heads.map fun h => h.accum)
    b := initialChannel s.now .wire s.b.lrdy s.b.pfi s.b.lks (s.b.heads.map fun h => h.accum) } := rfl

theorem holdReset_chan (s : State) (ch : Ch) :
    s.holdReset.chan ch = (s.chan ch).atReset s.now .wire (s.chan ch).accums := by
  cases ch <;> rfl

/-- While RSTN is low the two ends of each link line are joined (R149). -/
theorem holdReset_link (s : State) (ch : Ch) (up down : Bool) :
    s.holdReset.lkcLevel ch up down = (up && down) ∧ s.holdReset.plkcLevel ch up down = (up && down) ∧
      s.holdReset.lkdLevel ch up down = (up && down) ∧ s.holdReset.plkdLevel ch up down = (up && down) := by
  have hr : s.holdReset.rstnLow = true := rfl
  refine wired_levels s.holdReset ch ?_ ?_ up down
  · simp [State.wired, hr, holdReset_chan, Channel.atReset, initialChannel, initialRelay]
  · simp [State.lkcHeld, State.live, hr]

/-- Settles O6. -/
theorem resetStates : Obligations.ResetStates := by
  refine ⟨fun s lcA lcB => ⟨s.powerUp, rfl, powerUp_eq s, rfl⟩, fun s hs => ?_⟩
  have hr : s.holdReset.rstnLow = true := rfl
  refine ⟨s.holdReset, by simp [exec, execRstnLow, hs], holdReset_eq s, by simp [State.rpt, hr], fun ch => ?_⟩
  refine ⟨by simp [State.lc, hr], by simp [State.len, State.live, hr], by simp [State.wfo, hr], ?_, holdReset_link s ch⟩
  simp [State.plks, hr, holdReset_chan, Channel.atReset, initialChannel, initialRelay]

/-! ### The release of RSTN -/

theorem leaveReset_eq (s : State) (lcA lcB : BitVec 6) : s.leaveReset lcA lcB = { State.reset with
    pending := s.pending, now := s.now, heatTaken := s.heatTaken, freeCount := s.freeCount
    rstnLow := false, selectReg := lcA.setWidth 7
    straps :=
      { register := lcA, twoChannels := lcB.getLsbD 0, bench := lcB.getLsbD 1
        faultLow := lcB.getLsbD 2 }
    a := initialChannel s.now (if s.a.lks then .idle else .wire) s.a.lrdy s.a.pfi s.a.lks
      (s.a.heads.map fun h => h.accum)
    b := initialChannel s.now (if !lcB.getLsbD 0 || s.b.lks then .idle else .wire) s.b.lrdy s.b.pfi
      s.b.lks (s.b.heads.map fun h => h.accum) } := rfl

theorem leaveReset_lockedOut (s : State) (lcA lcB : BitVec 6) (ch : Ch) : (s.leaveReset lcA lcB).lockedOut ch = false :=
  lockedOut_of_none rfl rfl ch

/-- Settles O7. -/
theorem resetReleaseState : Obligations.ResetReleaseState := by
  intro s lcA lcB hs
  have hl := leaveReset_lockedOut s lcA lcB
  have hr : (s.leaveReset lcA lcB).rstnLow = false := rfl
  have hp : (s.leaveReset lcA lcB).present .B = lcB.getLsbD 0 := rfl
  have hf : (s.leaveReset lcA lcB).straps.faultLow = lcB.getLsbD 2 := rfl
  have hi : (s.leaveReset lcA lcB).incidents = [] := rfl
  refine ⟨s.leaveReset lcA lcB, by simp [exec, execResetRelease, hs], leaveReset_eq s lcA lcB, rfl, ?_, ?_, ?_, ?_, ?_, ?_⟩
  · simp [State.len, State.live, hr, hl, State.present]
  · simp [State.len, State.live, hr, hl, hp]
  · simp only [State.wfo, State.writeFault, hl, hi, hr, hf]
    simp [State.present, show ((s.leaveReset lcA lcB).chan .A).pfi = s.a.pfi from rfl]
  · simp only [State.wfo, State.writeFault, hl, hi, hr, hf, hp]
    simp [show ((s.leaveReset lcA lcB).chan .B).pfi = s.b.pfi from rfl]
  · simp [State.pwck, hr, hp]
  · intro ch
    refine ⟨?_, ?_⟩
    · cases ch <;> rfl
    · cases ch <;> exact seqState_of_initial (hl _) rfl

/-! ### The laws at power-on -/

/-- A channel as a reset leaves it meets every law of a channel (R60, R102, R124, R138, R149). -/
theorem initialChannel_lawful (t : Tick) (phase : LinkPhase) (lrdy pfi lks : Bool) (accums : List Nat)
    (hp : phase ≠ .hold ∧ phase ≠ .replay) (ha : accums.length = 8 ∧ ∀ x ∈ accums, x ≤ 65535) :
    let c := initialChannel t phase lrdy pfi lks accums
    c.LineOk ∧ (∀ r ∈ c.queue, r.CountsOk) ∧ c.QueueOk ∧ c.OneHead ∧ c.ServoOk ∧ c.PairOk ∧ c.HeatOk ∧ c.RangesOk := by
  intro c
  have hr : c.ranges = [] := by simp [c, Channel.ranges, Channel.context, initialChannel, initialRelay]
  refine ⟨?_, by simp [c, initialChannel], ?_, ?_, ?_, ?_, ?_, ?_⟩
  · simp [c, Channel.LineOk, initialChannel]
  · simp [c, Channel.QueueOk, initialChannel]
  · rw [oneHead_iff]
    exact ⟨by simp [c, initialChannel], slotOk_of_empty rfl hp.1 hp.2⟩
  · simp [c, Channel.ServoOk, initialChannel, initialFilter]
  · simp [c, Channel.PairOk, initialChannel]
  · simpa [c, Channel.HeatOk, initialChannel, initialHead] using ha
  · have clear (x : Code) : clearOf c.ranges x := by rw [hr]; rfl
    exact ⟨by simp [c, initialChannel, initialHead, Head.CodesOk, Pending.waits], fun _ _ => clear _, clear _,
      fun _ _ => clear _, clear _⟩

/-- Settles O60. -/
theorem resetMeetsTheLaws : Obligations.ResetMeetsTheLaws := by
  have hl : ∀ ch, State.reset.lockedOut ch = false := lockedOut_of_none rfl rfl
  have hc : ∀ c, State.reset.current c = 2 * c.toNat := current_of_initialLevels rfl
  have laws : ∀ ch, (State.reset.chan ch).LineOk ∧ (∀ r ∈ (State.reset.chan ch).queue, r.CountsOk) ∧
      (State.reset.chan ch).QueueOk ∧ (State.reset.chan ch).OneHead ∧ (State.reset.chan ch).ServoOk ∧
      (State.reset.chan ch).PairOk ∧ (State.reset.chan ch).HeatOk ∧ (State.reset.chan ch).RangesOk := by
    intro ch
    cases ch <;> exact initialChannel_lawful 0 .wire false false true (List.replicate 8 0) (by simp) (by simp)
  refine ⟨?_, ?_, ?_, ?_, fun ch => ?_⟩
  · simp [State.IncidentsOk, State.reset]
  · simp [State.DeferredOk, State.reset]
  · intro c d h
    rw [hc, hc]
    omega
  · have hcode : ∀ ch, State.reset.code ch = 0 := fun ch => by cases ch <;> rfl
    rw [State.SupplyOk, State.used, hcode, hcode, hc]
    decide
  · obtain ⟨hline, hcount, hqueue, hone, hservo, hpair, hheat, hranges⟩ := laws ch
    refine ⟨fun h => ?_, hline, hcount, hqueue, hone, hservo, hpair, ?_, hheat, hranges⟩
    · simp [hl ch] at h
    · cases ch <;> simp [State.ForceOk, State.reset, State.chan, initialChannel, initialSequencer]

/-! ### The preamplifier's inputs and WFOx -/

/-- The class of a kind, by the lists of R164 and R165. -/
theorem cls_eq (k : Kind) : k.cls =
    if k ∈ [Kind.thermalTrip, .laserLost] then 3
    else if k ∈ [Kind.refused, .fenceCut, .truncated, .encroachment, .delayOverflow, .readyTimeout, .headSwitchForced]
    then 2 else 1 := by
  cases k <;> rfl

/-- A channel is in LOCKOUT while a class-3 incident of it is stored or deferred (R169). -/
theorem lockedOut_iff (s : State) (ch : Ch) : s.lockedOut ch = true ↔
    (∃ x ∈ s.incidents, x.incident.ch = ch ∧ x.incident.kind.cls = 3) ∨
      ∃ d ∈ s.deferred, d.incident.ch = ch ∧ d.incident.kind.cls = 3 := by
  simp [State.lockedOut, Incident.locks]

/-- The write fault of a channel (R168). -/
theorem writeFault_iff (s : State) (ch : Ch) : s.writeFault ch = true ↔ s.present ch = true ∧
    ((s.chan ch).pfi = true ∨
      (∃ x ∈ s.incidents, x.incident.ch = ch ∧ (s.chan ch).setup.faultMask < x.incident.kind.cls) ∨
      (∃ x ∈ s.incidents, x.incident.ch = ch ∧ x.incident.kind.cls = 3) ∨
      ∃ d ∈ s.deferred, d.incident.ch = ch ∧ d.incident.kind.cls = 3) := by
  simp only [State.writeFault, Bool.and_eq_true, Bool.or_eq_true, lockedOut_iff, List.any_eq_true, beq_iff_eq,
    decide_eq_true_eq, or_assoc]

/-- Settles O14. -/
theorem preamplifierInputs : Obligations.PreamplifierInputs := by
  intro s ch
  refine ⟨rfl, fun _ => rfl, ?_, fun h => ?_⟩
  · simp only [← cls_eq, ← writeFault_iff]
    refine ⟨fun hr => by simp [State.wfo, hr], fun hr hw => ?_, fun hr hw => ?_⟩
    · simp [State.wfo, hr, hw]
    · simp [State.wfo, hr, Bool.eq_false_iff.2 hw]
  · have hl : s.laserLost ch = none := by
      unfold State.laserLost
      dsimp only
      split
      · next r hr => rcases h r hr with h | h <;> simp [h]
      · rfl
    simp [exec, execLrdyFall, hl]

/-! ### A channel that takes no input -/

/-- A state as it stands is what a dead channel's command leaves, if the levels of the input lines are followed. -/
theorem onChan_levels_self (s : State) (ch : Ch) :
    s = s.onChan ch fun x => { x with lrdy := (s.chan ch).lrdy, pfi := (s.chan ch).pfi, lks := (s.chan ch).lks } := by
  cases ch <;> rfl

/-- A command that leaves the state. -/
theorem inert_of_eq {s : State} {c : Instr} (ch : Ch) (h : exec c s = .next s) : ∃ t, exec c s = .next t ∧
    t = s.onChan ch fun x => { x with lrdy := (t.chan ch).lrdy, pfi := (t.chan ch).pfi, lks := (t.chan ch).lks } :=
  ⟨s, h, onChan_levels_self s ch⟩

/-- A level that is followed, and nothing else. -/
theorem inert_of_level {s : State} {c : Instr} (ch : Ch) (f : Channel → Channel) (h : exec c s = .next (s.onChan ch f))
    (hf : ∀ x : Channel, f x = { x with lrdy := (f x).lrdy, pfi := (f x).pfi, lks := (f x).lks }) :
    ∃ t, exec c s = .next t ∧
      t = s.onChan ch fun x => { x with lrdy := (t.chan ch).lrdy, pfi := (t.chan ch).pfi, lks := (t.chan ch).lks } := by
  refine ⟨_, h, onChan_congr s ch ?_⟩
  rw [chan_onChan]
  exact hf _

theorem rateComplete_dead {s : State} {ch : Ch} (hl : s.live ch = false) : s.rateComplete ch = false := by
  unfold State.rateComplete
  split <;> simp [hl]

theorem rateExpired_dead {s : State} {ch : Ch} (hl : s.live ch = false) : s.rateExpired ch = false := by
  unfold State.rateExpired
  split <;> simp [hl]

/-- Settles O5: each command of a channel asks first whether the channel is live, but for the levels of three lines. -/
theorem deadChannelIsInert : Obligations.DeadChannelIsInert := by
  intro c ch s hc hl
  have hlost : s.laserLost ch = none := by
    unfold State.laserLost
    dsimp only
    split <;> simp [hl]
  cases c with
  | powerOn | rstnLow | resetRelease | stepGrant | heatTick | headContext | releaseContext | levelTable | channelSetup
  | globalSetup | report | clear | deferredIncidentStore | channelReset | forceLevel | forceEnd | unknownKind
  | reportFrameEnd => simp [channelOf] at hc
  | lrdyRise =>
    cases hc
    exact inert_of_level ch _ rfl fun _ => rfl
  | lrdyFall =>
    cases hc
    exact inert_of_level ch (fun x => { x with lrdy := false }) (by simp [exec, execLrdyFall, hlost]) fun _ => rfl
  | pfiChange =>
    cases hc
    exact inert_of_level ch _ rfl fun _ => rfl
  | linkFrameStart =>
    cases hc
    exact inert_of_level ch (fun x => { x with lks := false }) (by simp [exec, execLinkFrameStart, hl]) fun _ => rfl
  | linkFrameEnd =>
    cases hc
    exact inert_of_level ch (fun x => { x with lks := true }) (by simp [exec, execLinkFrameEnd, hl]) fun _ => rfl
  | writeGateRise =>
    cases hc
    exact inert_of_eq ch (by simp [exec, execWriteGateRise, hl])
  | writeGateFall =>
    cases hc
    exact inert_of_eq ch (by simp [exec, execWriteGateFall, hl])
  | symbolIntake =>
    cases hc
    exact inert_of_eq ch (by simp [exec, execSymbolIntake, hl])
  | symbolRelease =>
    cases hc
    exact inert_of_eq ch (by simp [exec, execSymbolRelease, hl])
  | release =>
    cases hc
    exact inert_of_eq ch (by simp [exec, execRelease, State.releaseDue, hl])
  | tailExpiry =>
    cases hc
    exact inert_of_eq ch (by simp [exec, execTailExpiry, State.tailDue, hl])
  | promotion =>
    cases hc
    exact inert_of_eq ch (by simp [exec, execPromotion, State.promotionDue, hl])
  | readyTimeout =>
    cases hc
    exact inert_of_eq ch (by simp [exec, execReadyTimeout, State.readyTimeoutDue, hl])
  | rampStep =>
    cases hc
    exact inert_of_eq ch (by simp [exec, execRampStep, State.rampStepDue, hl])
  | rampComplete =>
    cases hc
    exact inert_of_eq ch (by simp [exec, execRampComplete, State.rampCompleteDue, hl])
  | parkExpiry =>
    cases hc
    exact inert_of_eq ch (by simp [exec, execParkExpiry, State.parkDue, hl])
  | readGateRise =>
    cases hc
    exact inert_of_eq ch (by simp [exec, execReadGateRise, hl])
  | readGateFall =>
    cases hc
    exact inert_of_eq ch (by simp [exec, execReadGateFall, hl])
  | prgRise =>
    cases hc
    exact inert_of_eq ch (by simp [exec, execPrgRise, State.prgDue, hl])
  | servoGateRise =>
    cases hc
    exact inert_of_eq ch (by simp [exec, execServoGateRise, hl])
  | servoGateFall =>
    cases hc
    exact inert_of_eq ch (by simp [exec, execServoGateFall, hl])
  | fenceTickReached =>
    cases hc
    exact inert_of_eq ch (by simp [exec, execFenceTickReached, State.fenceDue, hl])
  | acquisitionAbandon =>
    cases hc
    exact inert_of_eq ch (by simp [exec, execAcquisitionAbandon, State.abandonDue, hl])
  | wedgeMissExpiry =>
    cases hc
    exact inert_of_eq ch (by simp [exec, execWedgeMissExpiry, State.missDue, hl])
  | rateWindowComplete =>
    cases hc
    exact inert_of_eq ch (by simp [exec, execRateWindowComplete, rateComplete_dead hl])
  | rateWindowAbandon =>
    cases hc
    exact inert_of_eq ch (by simp [exec, execRateWindowAbandon, rateExpired_dead hl])
  | linkHeaderTaken =>
    cases hc
    exact inert_of_eq ch (by simp [exec, execLinkHeaderTaken, hl])
  | catchUpComplete =>
    cases hc
    exact inert_of_eq ch (by simp [exec, execCatchUpComplete, State.catchUpDue, hl])
  | heldFrameReplay =>
    cases hc
    exact inert_of_eq ch (by simp [exec, execHeldFrameReplay, State.replayDue, hl])
  | replayComplete =>
    cases hc
    exact inert_of_eq ch (by simp [exec, execReplayComplete, State.replayEnds, hl])
  | waitingFrameRelease =>
    cases hc
    exact inert_of_eq ch (by simp [exec, execWaitingFrameRelease, State.waitingDue, hl])
  | holdLimitExpiry =>
    cases hc
    exact inert_of_eq ch (by simp [exec, execHoldLimitExpiry, State.holdLimitDue, hl])
  | directiveFrame =>
    cases hc
    exact inert_of_eq ch (by simp [exec, execDirectiveFrame, hl])
  | waitingClearJoin =>
    cases hc
    exact inert_of_eq ch (by simp [exec, execWaitingClearJoin, State.clearJoinDue, hl])

end Sys2Proof.Machine
end

section
/-! PROOFS. Settles O18 and O19: the intake side of a write-clock edge, and a full delay line. -/

namespace Sys2Proof.Machine

open Relation

/-! ### What the release side leaves of the front -/

theorem onHead_front (c : Channel) (f : Rec → Rec) : (c.onHead f).front = c.front := by
  unfold Channel.onHead
  split <;> rfl

theorem dropHead_front (c : Channel) : c.dropHead.front = c.front := by
  unfold Channel.dropHead
  split <;> rfl

theorem departHead_front (s : State) (ch : Ch) (b : Bool) (is : List Incident) :
    ((s.departHead ch b is).chan ch).front = (s.chan ch).front := by
  unfold State.departHead
  obtain ⟨code, cold, h⟩ := afterDeparture_settles ((s.onChan ch Channel.dropHead).postAll is) ch b
  rw [h.front ch, chan_onChan, Channel.seat, onHead_front, chan_postAll, chan_onChan, dropHead_front]

theorem releaseHead_front (s : State) (ch : Ch) : ((s.releaseHead ch).chan ch).front = (s.chan ch).front := by
  unfold State.releaseHead
  dsimp only
  split
  · rfl
  · split
    · exact departHead_front _ _ _ _
    · rw [chan_onChan]
      exact onHead_front _ _

theorem normalEnd_front (s : State) (ch : Ch) : ((s.normalEnd ch).chan ch).front = (s.chan ch).front := by
  unfold State.normalEnd
  dsimp only
  split
  · rw [departHead_front, chan_onChan]
    rfl
  · rw [chan_onChan, onHead_front, chan_onChan]
    rfl

theorem truncateHead_front (s : State) (ch : Ch) (r : Rec) : ((s.truncateHead ch r).chan ch).front = (s.chan ch).front := by
  unfold State.truncateHead
  rw [chan_post, chan_onChan]
  exact onHead_front _ _

theorem sendSymbol_front (s : State) (ch : Ch) (r : Rec) : ((s.sendSymbol ch r).chan ch).front = (s.chan ch).front := by
  have after (t : State) (r : Rec) : ((t.afterSymbol ch r).chan ch).front = (t.chan ch).front := by
    unfold State.afterSymbol
    split
    · exact normalEnd_front t ch
    · split
      · exact truncateHead_front t ch r
      · rfl
  unfold State.sendSymbol
  split
  · rfl
  · rw [after, chan_onChan]
    exact onHead_front _ _

/-- The release side of an edge marks itself taken, and leaves what the intake side samples and counts (R11). -/
theorem releaseEdge_front (s : State) (ch : Ch) :
    ((s.releaseEdge ch).chan ch).front = { (s.chan ch).front with releaseTaken := true } := by
  have hs : ((s.onChan ch fun c => { c with releaseTaken := true }).chan ch).front
      = { (s.chan ch).front with releaseTaken := true } := by
    rw [chan_onChan]
    rfl
  unfold State.releaseEdge
  dsimp only
  generalize s.onChan ch _ = u at hs ⊢
  rw [← hs]
  split
  · rw [chan_onChan]
    split
    · exact releaseHead_front u ch
    · rfl
  · split
    · exact sendSymbol_front u ch _
    · rw [chan_onChan]
      rfl

/-! ### A quiet edge -/

theorem rateExpired_congr {s t : State} {ch : Ch} (hn : t.now = s.now) (hl : t.live ch = s.live ch)
    (hr : (t.chan ch).rate = (s.chan ch).rate) : t.rateExpired ch = s.rateExpired ch := by
  simp only [State.rateExpired, State.passed, hn, hl, hr]

theorem rateComplete_congr {s t : State} {ch : Ch} (hn : t.now = s.now) (hl : t.live ch = s.live ch)
    (hr : (t.chan ch).rate = (s.chan ch).rate) : t.rateComplete ch = s.rateComplete ch := by
  simp only [State.rateComplete, State.passed, hn, hl, hr]

theorem live_congr {s t : State} (hr : t.rstnLow = s.rstnLow) (hs : t.straps = s.straps) (ch : Ch) :
    t.live ch = s.live ch := by
  cases ch <;> simp only [State.live, State.present, hr, hs]

theorem edgesQuiet_iff (s : State) (ch : Ch) : s.edgesQuiet ch = true ↔
    (s.chan ch).wg.run < 3 ∧ (s.chan ch).sg.run < 3 ∧ (s.chan ch).rg.run < 3 ∧ s.rateComplete ch = false ∧
      s.rateExpired ch = false := by
  simp [State.edgesQuiet, and_assoc]

/-- A quiet edge leaves nothing to take before it (R3, R4). -/
theorem settleEdges_quiet {s : State} {ch : Ch} (h : s.edgesQuiet ch = true) : s.settleEdges ch = s := by
  obtain ⟨hw, hs, hr, hc, -⟩ := (edgesQuiet_iff s ch).1 h
  simp [State.settleEdges, State.settleGate, hw, hs, hr, hc]

/-- A quiet edge's intake side, its release side taken, is what SYMBOL_INTAKE does. -/
theorem exec_symbolIntake_quiet {s : State} {ch : Ch} (wd wg sg rg : Bool) (hl : s.live ch = true)
    (ht : (s.chan ch).releaseTaken = true) (hq : s.edgesQuiet ch = true) :
    exec (.symbolIntake ch wd wg sg rg) s = .next (s.intakeEdge ch wd wg sg rg) := by
  simp [exec, execSymbolIntake, hl, settleEdges_quiet hq, ht]

/-- An edge left quiet stays quiet behind its release side. -/
theorem edgesQuiet_releaseEdge {s : State} {ch : Ch} (hq : s.edgesQuiet ch = true) :
    (s.releaseEdge ch).edgesQuiet ch = true := by
  have hm := releaseEdge_moves s ch
  obtain ⟨hwg, hsg, hrg, -, hrate, -⟩ : _ ∧ _ ∧ _ ∧ _ ∧ _ ∧ _ :=
    front_ext (c := { s.chan ch with releaseTaken := true }) (releaseEdge_front s ch)
  have hl := live_congr hm.rstnLow hm.straps ch
  rw [edgesQuiet_iff] at *
  rwa [hwg, hsg, hrg, rateComplete_congr hm.now hl hrate, rateExpired_congr hm.now hl hrate]

/-- SYMBOL_INTAKE takes the release side first if that has not been taken (R11). -/
theorem exec_symbolIntake_release {s : State} {ch : Ch} (wd wg sg rg : Bool) (hl : s.live ch = true)
    (ht : (s.chan ch).releaseTaken = false) (hq : s.edgesQuiet ch = true) :
    ((s.releaseEdge ch).chan ch).releaseTaken = true ∧
      exec (.symbolIntake ch wd wg sg rg) s = exec (.symbolIntake ch wd wg sg rg) (s.releaseEdge ch) := by
  have hm := releaseEdge_moves s ch
  have htaken : ((s.releaseEdge ch).chan ch).releaseTaken = true := congrArg Front.releaseTaken (releaseEdge_front s ch)
  refine ⟨htaken, ?_⟩
  rw [exec_symbolIntake_quiet wd wg sg rg (by rw [live_congr hm.rstnLow hm.straps, hl]) htaken (edgesQuiet_releaseEdge hq)]
  simp [exec, execSymbolIntake, hl, settleEdges_quiet hq, ht]

/-! ### The intake side -/

theorem chan_announceEmpty_front (s : State) (ch : Ch) : ((s.announceEmpty ch).chan ch).front = (s.chan ch).front :=
  (announceEmpty_settles s ch).front ch

theorem overflowAbort_front (s : State) (ch : Ch) (r : Rec) : ((s.overflowAbort ch r).chan ch).front = (s.chan ch).front := by
  have hs : (((s.onChan ch fun c => (if r.state == .releasing then c.dropGate s.now else c).dropNewest r).post
      (r.incident ch .delayOverflow r.symOut)).chan ch).front = (s.chan ch).front := by
    rw [chan_post, chan_onChan]
    split <;> rfl
  unfold State.overflowAbort
  dsimp only
  generalize (s.onChan ch _).post _ = u at hs ⊢
  rw [← hs]
  split
  · rw [chan_announceEmpty_front, chan_onChan]
    rfl
  · rfl

/-- A symbol that leaves the hold leaves the front (R4). -/
theorem routeSymbol_front (s : State) (ch : Ch) (b : Bool) : ((s.routeSymbol ch b).chan ch).front = (s.chan ch).front := by
  unfold State.routeSymbol
  split
  · exact (handSymbol_settles s ch b).front ch
  · unfold State.storeSymbol
    split
    · rfl
    · split
      · rw [chan_onChan]
        rfl
      · exact overflowAbort_front _ _ _
  · unfold State.discardSymbol
    split
    · rfl
    · rw [chan_onChan]
      rfl

/-- The hold is the only part of the front that its advance changes. -/
theorem advanceHold_front (s : State) (ch : Ch) (wd : Bool) :
    ∃ hold, ((s.advanceHold ch wd).chan ch).front = { (s.chan ch).front with hold := hold } := by
  unfold State.advanceHold
  split
  · rw [routeSymbol_front, chan_onChan]
    exact ⟨_, rfl⟩
  · rw [chan_onChan]
    exact ⟨_, rfl⟩

/-- The gates that the rate meter leaves. -/
theorem rateEdge_gates (s : State) (ch : Ch) :
    ((s.rateEdge ch).chan ch).wg = (s.chan ch).wg ∧ ((s.rateEdge ch).chan ch).sg = (s.chan ch).sg ∧
      ((s.rateEdge ch).chan ch).rg = (s.chan ch).rg := by
  have abandon : ((s.abandonRate ch).chan ch).wg = (s.chan ch).wg ∧ ((s.abandonRate ch).chan ch).sg = (s.chan ch).sg ∧
      ((s.abandonRate ch).chan ch).rg = (s.chan ch).rg := by
    unfold State.abandonRate
    dsimp only
    split <;> simp
  unfold State.rateEdge
  dsimp only
  rw [chan_onChan]
  split
  · exact abandon
  · exact ⟨rfl, rfl, rfl⟩

/-- The gates behind the intake side have taken one sample each (R2). -/
theorem intakeEdge_gates (s : State) (ch : Ch) (wd wg sg rg : Bool) :
    ((s.intakeEdge ch wd wg sg rg).chan ch).wg = (s.chan ch).wg.sample wg ∧
      ((s.intakeEdge ch wd wg sg rg).chan ch).sg = (s.chan ch).sg.sample sg ∧
      ((s.intakeEdge ch wd wg sg rg).chan ch).rg = (s.chan ch).rg.sample rg := by
  obtain ⟨hold, ha⟩ := advanceHold_front s ch wd
  obtain ⟨hwg, hsg, hrg, -⟩ := front_ext (c := { s.chan ch with hold := hold }) ha
  obtain ⟨hw, hs, hr⟩ := rateEdge_gates (s.advanceHold ch wd) ch
  unfold State.intakeEdge
  rw [chan_onChan]
  simp only [Channel.sampleGates, hw, hs, hr, hwg, hsg, hrg]
  trivial

/-- The steps that are due of a live channel begin with the recognised edges of its gates (R2). -/
theorem dueGate_of_three {f : Filter} (h : f.run = 3) (rise fall : Instr) :
    (if f.level = true then fall else rise) ∈ dueGate f rise fall := by
  simp [dueGate, h]

theorem mem_dueSteps_of_gates {t : State} {ch : Ch} {i : Instr} (hl : t.live ch = true)
    (h : i ∈ dueGate (t.chan ch).wg (.writeGateRise ch) (.writeGateFall ch)
      ++ dueGate (t.chan ch).sg (.servoGateRise ch) (.servoGateFall ch)
      ++ dueGate (t.chan ch).rg (.readGateRise ch) (.readGateFall ch)) : i ∈ t.dueSteps := by
  have hd : i ∈ t.dueOf ch := by
    unfold State.dueOf
    simp only [hl, if_true, List.mem_append] at h ⊢
    tauto
  unfold State.dueSteps
  cases ch <;> simp [hd]

/-- A gate whose third sample in a row disagrees has its edge due (R2). -/
theorem intakeEdge_dueSteps {s : State} {ch : Ch} (wd wg sg rg : Bool) (hl : s.live ch = true) :
    let t := s.intakeEdge ch wd wg sg rg
    ((t.chan ch).wg.run = 3 →
      (if (s.chan ch).wg.level = true then .writeGateFall ch else .writeGateRise ch) ∈ t.dueSteps) ∧
    ((t.chan ch).sg.run = 3 →
      (if (s.chan ch).sg.level = true then .servoGateFall ch else .servoGateRise ch) ∈ t.dueSteps) ∧
    ((t.chan ch).rg.run = 3 →
      (if (s.chan ch).rg.level = true then .readGateFall ch else .readGateRise ch) ∈ t.dueSteps) := by
  intro t
  have hm : s.Moves t := intakeEdge_moves s ch wd wg sg rg
  obtain ⟨hw, hs, hr⟩ := intakeEdge_gates s ch wd wg sg rg
  have live : t.live ch = true := by rw [live_congr hm.rstnLow hm.straps, hl]
  have level {f g : Filter} {b : Bool} (h : g = f.sample b) : f.level = g.level := by rw [h, sample_level]
  refine ⟨fun h => ?_, fun h => ?_, fun h => ?_⟩ <;> refine mem_dueSteps_of_gates live ?_
  · rw [level hw]
    exact List.mem_append_left _ (List.mem_append_left _ (dueGate_of_three h _ _))
  · rw [level hs]
    exact List.mem_append_left _ (List.mem_append_right _ (dueGate_of_three h _ _))
  · rw [level hr]
    exact List.mem_append_right _ (dueGate_of_three h _ _)

/-! ### The exact effect of an edge -/

/-- What the meter and the filters make of a channel at an edge that runs no window out (R2, R20). -/
def Channel.sampled (c : Channel) (now : Tick) (wg sg rg : Bool) : Channel :=
  { c.sampleGates wg sg rg with rate := c.rate.countEdge now, releaseTaken := false }

/-- Behind the hold a quiet edge counts itself and samples the gates. -/
theorem intakeEdge_eq {s : State} {ch : Ch} (wd wg sg rg : Bool) (hq : s.edgesQuiet ch = true) :
    s.intakeEdge ch wd wg sg rg = (s.advanceHold ch wd).onChan ch fun c => c.sampled s.now wg sg rg := by
  have hm := advanceHold_moves s ch wd
  obtain ⟨hold, hf⟩ := advanceHold_front s ch wd
  have hr : ((s.advanceHold ch wd).chan ch).rate = (s.chan ch).rate := congrArg Front.rate hf
  have he : (s.advanceHold ch wd).rateExpired ch = false := by
    rw [rateExpired_congr hm.now (live_congr hm.rstnLow hm.straps ch) hr]
    exact ((edgesQuiet_iff s ch).1 hq).2.2.2.2
  simp only [State.intakeEdge, State.rateEdge, he, Bool.false_eq_true, if_false, onChan_onChan, hm.now]
  rfl

/-- A filter that has not recognised an edge takes a sample by counting it. -/
theorem sample_eq {f : Filter} (b : Bool) (h : f.run < 3) :
    f.sample b = { f with run := if b = f.level then 0 else f.run + 1 } := by
  unfold Filter.sample
  by_cases hb : b = f.level
  · simp [hb]
  · simp [hb, show min 3 (f.run + 1) = f.run + 1 by omega]

/-- An edge whose filters have recognised nothing before it, in the words of R2. -/
theorem sampled_eq {c : Channel} (now : Tick) (wg sg rg : Bool) (hw : c.wg.run < 3) (hs : c.sg.run < 3)
    (hr : c.rg.run < 3) : c.sampled now wg sg rg = { c with
      releaseTaken := false, rate := c.rate.countEdge now
      wg := { c.wg with run := if wg = c.wg.level then 0 else c.wg.run + 1 }
      sg := { c.sg with run := if sg = c.sg.level then 0 else c.sg.run + 1 }
      rg := { c.rg with run := if rg = c.rg.level then 0 else c.rg.run + 1 } } := by
  unfold Channel.sampled Channel.sampleGates
  rw [sample_eq wg hw, sample_eq sg hs, sample_eq rg hr]

/-! ### A symbol handed to the receiver beside a change of the hold -/

theorem post_onChan (s : State) (ch : Ch) (f : Channel → Channel) (i : Incident) :
    (s.onChan ch f).post i = (s.post i).onChan ch f := by
  unfold State.post
  simp only [onChan_incidents, onChan_nextIncident, onChan_deferred]
  split
  · cases ch <;> rfl
  · split <;> cases ch <;> rfl

theorem join_onChan (s : State) (ch : Ch) (f : Channel → Channel) (e : Entry) :
    (s.onChan ch f).join e = (s.join e).onChan ch f := by
  have next (t : State) : (t.onChan ch f).takeNext = t.takeNext.onChan ch f := by
    unfold State.takeNext
    rw [onChan_directives]
    split <;> cases ch <;> rfl
  let added : State := { s with directives := s.directives ++ [e] }
  have joined : (s.onChan ch f).join e
      = if s.engine.isNone then (added.onChan ch f).takeNext else added.onChan ch f := by cases ch <;> rfl
  rw [joined, next]
  unfold State.join
  dsimp only
  split <;> rfl

/-- The receiver neither reads nor writes the hold (R4, R150). -/
theorem handSymbol_hold (s : State) (ch : Ch) (hold : List Bool) (b : Bool) :
    (s.onChan ch fun c => { c with hold := hold }).handSymbol ch b
      = (s.handSymbol ch b).onChan ch fun c => { c with hold := hold } := by
  have offer (t : State) (e : Entry) : (t.onChan ch fun c => { c with hold := hold }).offer ch e
      = (t.offer ch e).onChan ch fun c => { c with hold := hold } := by
    have keep : (t.onChan ch fun c => { c with hold := hold }).keepClear ch e
        = (t.keepClear ch e).onChan ch fun c => { c with hold := hold } := by
      unfold State.keepClear
      rw [chan_onChan]
      dsimp only
      split
      · rfl
      · rw [onChan_onChan, onChan_onChan]
    unfold State.offer
    simp only [onChan_overrun, onChan_directives, chan_onChan, join_onChan, keep]
    split
    · split
      · rfl
      · split
        · split <;> rfl
        · rfl
    · split
      · rfl
      · rw [← post_onChan]
        cases ch <;> rfl
  have received (t : State) (r : Received) : (t.onChan ch fun c => { c with hold := hold }).received ch r
      = (t.received ch r).onChan ch fun c => { c with hold := hold } := by
    cases r with
    | nothing => rfl
    | bad detail => exact post_onChan _ _ _ _
    | good header payload => exact offer _ _
  unfold State.handSymbol
  dsimp only
  rw [← received, onChan_onChan, onChan_onChan, chan_onChan]

/-! ### The symbol that leaves the hold -/

/-- The oldest of three held symbols leaves (R4). -/
theorem advanceHold_full {s : State} {ch : Ch} {x y z wd : Bool} (h : (s.chan ch).hold = [x, y, z]) :
    s.advanceHold ch wd = (s.onChan ch fun c => { c with hold := [y, z, wd] }).routeSymbol ch x := by
  simp only [State.advanceHold, h]

/-- A symbol that leaves the hold is routed by the intake state (R4). -/
theorem routeSymbol_gap {s : State} {ch : Ch} (b : Bool) (h : (s.chan ch).intake = .gap) :
    s.routeSymbol ch b = s.handSymbol ch b := by
  simp only [State.routeSymbol, h]

theorem routeSymbol_storing {s : State} {ch : Ch} (b : Bool) (h : (s.chan ch).intake = .storing) :
    s.routeSymbol ch b = s.storeSymbol ch b := by
  simp only [State.routeSymbol, h]

theorem routeSymbol_discarding {s : State} {ch : Ch} (b : Bool) (h : (s.chan ch).intake = .discarding) :
    s.routeSymbol ch b = s.discardSymbol ch := by
  simp only [State.routeSymbol, h]

/-- The newest record with its input open is the open record (R42). -/
theorem openRec_of_concat {c : Channel} {before : List Rec} {r : Rec} (hq : c.queue = before ++ [r])
    (ho : r.inputOpen = true) : c.openRec = some r := by
  simp [Channel.openRec, hq, ho]

/-- A symbol is stored behind the others, for the open record (R42). -/
theorem storeSymbol_eq {s : State} {ch : Ch} (b : Bool) {before : List Rec} {r : Rec}
    (hq : (s.chan ch).queue = before ++ [r]) (ho : r.inputOpen = true) (hl : (s.chan ch).line.length < 4096) :
    s.storeSymbol ch b = s.onChan ch fun c =>
      { c with line := c.line ++ [{ seq := r.seq, value := b }], queue := before ++ [r.storeOne] } := by
  simp only [State.storeSymbol, openRec_of_concat hq ho, hl, if_true]
  exact onChan_congr s ch (by simp only [hq, onLast_concat])

/-- A symbol that meets a full delay line aborts the open record (R43). -/
theorem storeSymbol_full {s : State} {ch : Ch} (b : Bool) {before : List Rec} {r : Rec}
    (hq : (s.chan ch).queue = before ++ [r]) (ho : r.inputOpen = true) (hl : (s.chan ch).line.length = 4096) :
    s.storeSymbol ch b = s.overflowAbort ch r := by
  simp only [State.storeSymbol, openRec_of_concat hq ho, hl, Nat.lt_irrefl, if_false]

/-- A symbol is dropped uncounted without an open record (R42). -/
theorem discardSymbol_none {s : State} {ch : Ch} (h : (s.chan ch).openRec = none) : s.discardSymbol ch = s := by
  simp only [State.discardSymbol, h]

/-- A symbol is dropped, and counted for the open record (R42). -/
theorem discardSymbol_eq {s : State} {ch : Ch} {before : List Rec} {r : Rec} (hq : (s.chan ch).queue = before ++ [r])
    (ho : r.inputOpen = true) :
    s.discardSymbol ch = s.onChan ch fun c => { c with queue := before ++ [r.dropOne] } := by
  simp only [State.discardSymbol, openRec_of_concat hq ho]
  exact onChan_congr s ch (by simp only [hq, onLast_concat])

/-! ### The statements -/

/-- Settles O18. -/
theorem symbolIntake : Obligations.SymbolIntake := by
  refine ⟨fun s ch wd wg sg rg hl ht hq => ?_, ?_⟩
  · obtain ⟨htaken, he⟩ := exec_symbolIntake_release wd wg sg rg hl ht hq
    exact ⟨s.releaseEdge ch, by simp [exec, execSymbolRelease, hl, ht, settleEdges_quiet hq], htaken, he⟩
  intro s ch wd wg sg rg hl ht hq sampled counted edge
  obtain ⟨hw, hs, hr, -, -⟩ := (edgesQuiet_iff s ch).1 hq
  have effect : exec (.symbolIntake ch wd wg sg rg) s
      = .next ((s.advanceHold ch wd).onChan ch fun c => c.sampled s.now wg sg rg) := by
    rw [exec_symbolIntake_quiet wd wg sg rg hl ht hq, intakeEdge_eq wd wg sg rg hq]
  have hedge (c : Channel) (hc : c.wg = (s.chan ch).wg ∧ c.sg = (s.chan ch).sg ∧ c.rg = (s.chan ch).rg) :
      c.sampled s.now wg sg rg = edge c.hold c := by
    obtain ⟨ew, es, er⟩ := hc
    rw [sampled_eq s.now wg sg rg (ew ▸ hw) (es ▸ hs) (er ▸ hr)]
    simp only [edge, sampled, counted, RateMeter.countEdge]
    cases c.rate.window <;> rfl
  refine ⟨fun t he => ?_, fun hlen => ?_, fun x y z hhold => ⟨fun hin => ?_, ?_, ?_, ?_⟩⟩
  · rw [exec_symbolIntake_quiet wd wg sg rg hl ht hq] at he
    cases he
    exact intakeEdge_dueSteps wd wg sg rg hl
  · have ha : s.advanceHold ch wd = s.onChan ch fun c => { c with hold := c.hold ++ [wd] } := by
      unfold State.advanceHold
      split
      · next h =>
        simp only [h, List.length_cons] at hlen
        omega
      · rfl
    rw [effect, ha, onChan_onChan]
    exact congrArg _ (onChan_congr s ch (hedge _ ⟨rfl, rfl, rfl⟩))
  · have ha : s.advanceHold ch wd = (s.handSymbol ch x).onChan ch fun c => { c with hold := [y, z, wd] } := by
      rw [advanceHold_full hhold, routeSymbol_gap x (by rw [chan_onChan]; exact hin), handSymbol_hold]
    obtain ⟨ew, es, er, -⟩ := front_ext ((handSymbol_settles s ch x).front ch)
    rw [effect, ha, onChan_onChan]
    exact congrArg _ (onChan_congr _ ch (hedge _ ⟨ew, es, er⟩))
  · intro before r hqueue ho hin hline
    have ha : s.advanceHold ch wd = s.onChan ch fun c => { c with
        hold := [y, z, wd], line := c.line ++ [{ seq := r.seq, value := x }]
        queue := before ++ [r.storeOne] } := by
      rw [advanceHold_full hhold, routeSymbol_storing x (by rw [chan_onChan]; exact hin), storeSymbol_eq x (by rw [chan_onChan]; exact hqueue) ho (by rw [chan_onChan]; exact hline), onChan_onChan]
    rw [effect, ha, onChan_onChan]
    exact congrArg _ (onChan_congr s ch (hedge _ ⟨rfl, rfl, rfl⟩))
  · intro before r hqueue ho hin
    have ha : s.advanceHold ch wd = s.onChan ch fun c => { c with
        hold := [y, z, wd], queue := before ++ [r.dropOne] } := by
      rw [advanceHold_full hhold, routeSymbol_discarding x (by rw [chan_onChan]; exact hin), discardSymbol_eq (by rw [chan_onChan]; exact hqueue) ho, onChan_onChan]
    rw [effect, ha, onChan_onChan]
    exact congrArg _ (onChan_congr s ch (hedge _ ⟨rfl, rfl, rfl⟩))
  · intro ho hin
    have ha : s.advanceHold ch wd = s.onChan ch fun c => { c with hold := [y, z, wd] } := by
      rw [advanceHold_full hhold, routeSymbol_discarding x (by rw [chan_onChan]; exact hin),
        discardSymbol_none (by rw [chan_onChan]; exact ho)]
    rw [effect, ha, onChan_onChan]
    exact congrArg _ (onChan_congr s ch (hedge _ ⟨rfl, rfl, rfl⟩))

/-- With no promotion of the selected head waiting, the emptying of the queue is announced to the laser alone (R36). -/
theorem announceEmpty_of_quiet {s : State} {ch : Ch} (h : (s.chan ch).selectedPending = none) :
    s.announceEmpty ch = s.retarget ch := by
  rcases announceEmpty_cases s ch with ⟨-, e⟩ | ⟨hd, hp, -⟩
  · exact e
  · rw [h] at hp
    contradiction

/-- What is pending for the selected head is read off the relay and the heads. -/
theorem selectedPending_congr {c d : Channel} (hr : d.relay = c.relay) (hh : d.heads = c.heads) :
    d.selectedPending = c.selectedPending := by
  unfold Channel.selectedPending Channel.headAt
  rw [hr, hh]

/-- The channel of an aborted record: its run and the record are gone, and a RELEASING record takes PWGx with it (R43). -/
def Channel.aborted (c : Channel) (now : Tick) (r : Rec) : Channel :=
  (if r.state == .releasing then c.dropGate now else c).dropNewest r

theorem aborted_queue (c : Channel) (now : Tick) (r : Rec) : (c.aborted now r).sansLaser.queue = c.queue.dropLast := by
  unfold Channel.aborted
  split <;> rfl

theorem aborted_line (c : Channel) (now : Tick) (r : Rec) :
    (c.aborted now r).sansLaser.line = c.line.take (c.line.length - r.run) := by
  unfold Channel.aborted
  split <;> rfl

theorem aborted_intake (c : Channel) (now : Tick) (r : Rec) : (c.aborted now r).sansLaser.intake = c.intake.discard := by
  unfold Channel.aborted
  split <;> rfl

/-- An overflow aborts the open record and, no promotion waiting, touches the laser alone beside it (R43). -/
theorem overflowAbort_view {s : State} {ch : Ch} (r : Rec) (hp : (s.chan ch).selectedPending = none) :
    (s.overflowAbort ch r).sansLaser =
      ((s.onChan ch fun c => c.aborted s.now r).post (r.incident ch .delayOverflow r.symOut)).sansLaser := by
  have hk : ((s.chan ch).aborted s.now r).relay = (s.chan ch).relay ∧ ((s.chan ch).aborted s.now r).heads = (s.chan ch).heads := by
    unfold Channel.aborted
    split <;> exact ⟨rfl, rfl⟩
  have hu : (((s.onChan ch fun c => c.aborted s.now r).post (r.incident ch .delayOverflow r.symOut)).chan ch).selectedPending
      = none := by
    rw [chan_post, chan_onChan, selectedPending_congr hk.1 hk.2, hp]
  change State.sansLaser (if (((s.onChan ch fun c => c.aborted s.now r).post
    (r.incident ch .delayOverflow r.symOut)).chan ch).queue.isEmpty then
      (((s.onChan ch fun c => c.aborted s.now r).post (r.incident ch .delayOverflow r.symOut)).onChan ch fun c =>
        { c with laser := { c.laser with ready := none } }).announceEmpty ch
    else (s.onChan ch fun c => c.aborted s.now r).post (r.incident ch .delayOverflow r.symOut)) = _
  generalize (s.onChan ch fun c => c.aborted s.now r).post (r.incident ch .delayOverflow r.symOut) = u at hu ⊢
  split
  · rw [announceEmpty_of_quiet (by rw [chan_onChan]; exact hu), retarget_sansLaser]
    exact onChan_laser_sansLaser _ _ _ fun _ => rfl
  · rfl

/-- Incidents are stored by what the incident queue holds alone (R166). -/
theorem post_incidents_congr {s t : State} (i : Incident) (hi : t.incidents = s.incidents)
    (hn : t.nextIncident = s.nextIncident) : (t.post i).incidents = (s.post i).incidents := by
  unfold State.post
  rw [hi, hn]
  split
  · rfl
  · split <;> split <;> rfl

/-- Settles O19. -/
theorem delayOverflow : Obligations.DelayOverflow := by
  intro s ch wd wg sg rg x y z before r hl ht hq hhold hin hqueue ho hline hpend
  let u := s.onChan ch fun c => { c with hold := [y, z, wd] }
  let i := r.incident ch .delayOverflow r.symOut
  have hu : u.chan ch = { s.chan ch with hold := [y, z, wd] } := chan_onChan _ _ _
  have ha : s.advanceHold ch wd = u.overflowAbort ch r := by
    rw [advanceHold_full hhold, routeSymbol_storing x (by rw [hu]; exact hin),
      storeSymbol_full x (by rw [hu]; exact hqueue) ho (by rw [hu]; exact hline)]
  have hv := overflowAbort_view (s := u) (ch := ch) r (by rw [hu]; exact hpend)
  have hc : ((u.overflowAbort ch r).chan ch).sansLaser = ((u.chan ch).aborted u.now r).sansLaser := by
    rw [sansLaser_chan hv ch, chan_post, chan_onChan]
  have hi : (u.overflowAbort ch r).incidents = (s.post i).incidents := by
    rw [sansLaser_incidents hv]
    exact post_incidents_congr i (by simp [u]) (by simp [u])
  refine ⟨_, (exec_symbolIntake_quiet wd wg sg rg hl ht hq).trans
    (congrArg _ ((intakeEdge_eq wd wg sg rg hq).trans (by rw [ha]))), ?_, ?_, ?_, ?_, ?_, ?_⟩
  · rw [chan_onChan]
    refine (congrArg Channel.queue hc :).trans ?_
    rw [aborted_queue, hu]
    simp [hqueue]
  · rw [chan_onChan]
    refine (congrArg Channel.line hc :).trans ?_
    rw [aborted_line, hu]
    simp [hline]
  · rw [chan_onChan]
    refine (congrArg Channel.intake hc :).trans ?_
    rw [aborted_intake, hu]
    simp [hin, Intake.discard]
  · intro hr
    rw [chan_onChan]
    refine ⟨(congrArg Channel.pwg hc :).trans ?_, (congrArg Channel.pwd hc :).trans ?_⟩ <;>
      simp [Channel.aborted, hr, Channel.dropNewest, Channel.sansLaser]
  · intro hr
    rw [chan_onChan]
    refine (congrArg Channel.pwg hc :).trans ?_
    simp [Channel.aborted, hr, Channel.dropNewest, Channel.sansLaser, hu]
  · exact (onChan_incidents _ _ _).trans hi

end Sys2Proof.Machine
end

section
/-! PROOFS. What a recomputation of the target does to the laser: the code meets its target, and a new head record is met (R62 to R69, R72). -/

namespace Sys2Proof.Machine

/-! ### The target by the table of R62 -/

/-- The case of R62 that applies gives the target of the table's first row that does. -/
theorem targetOf_eq_firstTarget (s : State) (ch : Ch) : (s.targetOf ch).2 = s.firstTarget ch := by
  unfold State.targetOf State.firstTarget State.targetCases Channel.headRec
  dsimp only
  cases s.lockedOut ch with
  | true => rfl
  | false =>
    cases (s.chan ch).laser.force with
    | some f => rfl
    | none =>
      cases (s.chan ch).queue with
      | cons r rest => rfl
      | nil =>
        cases (s.chan ch).context with
        | none => rfl
        | some x =>
          cases (s.chan ch).wedge.fence <;> cases (s.chan ch).rg.level <;> cases (s.chan ch).laser.park <;> rfl

/-! ### Motions -/

theorem stepIsDue_eq (s : State) (ch : Ch) :
    s.stepIsDue ch = (s.chan ch).laser.motion.since.elapsed s.now (s.chan ch).laser.motion.wait := by
  unfold State.stepIsDue
  cases (s.chan ch).laser.motion <;> rfl

/-- A motion turned toward a target that the code stands at (R64, R67). -/
theorem turn_true (m : Motion) :
    m.turn true = if m.holdsZero = true then .settled m.since m.wait else .ramp m.since m.wait none false := by
  cases m with
  | settled since hold => rfl
  | ramp last dwell want held => cases held <;> rfl

/-- A motion turned toward another target (R64, R67, R69). -/
theorem turn_false (m : Motion) : m.turn false = .ramp m.since m.wait none m.holdsZero := by
  cases m <;> rfl

theorem waitFor_turn_false (m : Motion) (b : Code) : (m.turn false).waitFor b = .ramp m.since m.wait (some b) false := by
  cases m <;> rfl

/-! ### Where an operation leaves the laser -/

/-- From `s` to `t` the laser of `ch` comes to the values given, and the other channel's laser stays. -/
structure State.Lands (ch : Ch) (s t : State) (code target : Code) (m : Motion) (ready : Option Tick) : Prop where
  other  : (t.chan (otherCh ch)).laser = (s.chan (otherCh ch)).laser
  code   : (t.chan ch).laser.code = code
  target : (t.chan ch).laser.target = target
  motion : (t.chan ch).laser.motion = m
  ready  : (t.chan ch).laser.ready = ready

/-- The park count is all that a state outside IDLE changes (R76). -/
theorem State.Lands.leaveIdle {ch : Ch} {s t : State} {code target : Code} {m : Motion} {ready : Option Tick}
    (h : State.Lands ch s t code target m ready) : State.Lands ch s (t.leaveIdle ch) code target m ready := by
  unfold State.leaveIdle
  split
  · exact h
  · refine ⟨by rw [chan_onChan_other, h.other], ?_, ?_, ?_, ?_⟩ <;> rw [chan_onChan]
    · exact h.code
    · exact h.target
    · exact h.motion
    · exact h.ready

/-- A change of target that takes no step turns the motion alone (R64). -/
theorem turn_lands {s : State} {ch : Ch} (h : (s.chan ch).laser.code = (s.chan ch).laser.target ∨ s.stepIsDue ch = false) :
    State.Lands ch s (s.turn ch) (s.chan ch).laser.code (s.chan ch).laser.target
      ((s.chan ch).laser.motion.turn ((s.chan ch).laser.code == (s.chan ch).laser.target)) (s.chan ch).laser.ready := by
  have hs : ((s.chan ch).laser.code != (s.chan ch).laser.target && s.stepIsDue ch) = false := by
    rcases h with h | h <;> simp [h]
  unfold State.turn
  simp only [hs, Bool.false_eq_true, if_false]
  refine ⟨by rw [chan_onChan_other], ?_, ?_, ?_, ?_⟩ <;> rw [chan_onChan]

/-- The target of a sequencer set to a new value. -/
def State.aimed (s : State) (ch : Ch) (goal : Code) : State :=
  s.onChan ch fun c => { c with laser := { c.laser with target := goal } }

theorem aimed_laser (s : State) (ch : Ch) (goal : Code) :
    ((s.aimed ch goal).chan ch).laser = { (s.chan ch).laser with target := goal } := by
  rw [State.aimed, chan_onChan]

theorem aimed_due (s : State) (ch : Ch) (goal : Code) : (s.aimed ch goal).stepIsDue ch = s.stepIsDue ch := by
  rw [stepIsDue_eq, stepIsDue_eq, aimed_laser]
  simp [State.aimed]

/-- A recomputation that finds the same target leaves the laser as it was (R64). -/
theorem retarget_same {s : State} {ch : Ch} (h : s.firstTarget ch = (s.chan ch).laser.target) :
    State.Lands ch s (s.retarget ch) (s.chan ch).laser.code (s.chan ch).laser.target (s.chan ch).laser.motion
      (s.chan ch).laser.ready := by
  have hs : State.Lands ch s s (s.chan ch).laser.code (s.chan ch).laser.target (s.chan ch).laser.motion
      (s.chan ch).laser.ready := ⟨rfl, rfl, rfl, rfl, rfl⟩
  unfold State.retarget
  simp only [targetOf_eq_firstTarget, h, beq_self_eq_true, if_true]
  exact hs.leaveIdle

/-- A new target is turned to from the present code (R64). -/
theorem retarget_new {s : State} {ch : Ch} (h : s.firstTarget ch ≠ (s.chan ch).laser.target) :
    s.retarget ch = ((s.aimed ch (s.firstTarget ch)).turn ch).leaveIdle ch := by
  unfold State.retarget
  simp [targetOf_eq_firstTarget, h, State.aimed]

/-- A new target that the code stands at, or whose first step is not due, turns the motion alone (R64, R67, R69). -/
theorem retarget_turns {s : State} {ch : Ch} (h : s.firstTarget ch ≠ (s.chan ch).laser.target)
    (hd : (s.chan ch).laser.code = s.firstTarget ch ∨ s.stepIsDue ch = false) :
    State.Lands ch s (s.retarget ch) (s.chan ch).laser.code (s.firstTarget ch)
      ((s.chan ch).laser.motion.turn ((s.chan ch).laser.code == s.firstTarget ch)) (s.chan ch).laser.ready := by
  have ht := turn_lands (s := s.aimed ch (s.firstTarget ch)) (ch := ch) (by rwa [aimed_due, aimed_laser])
  rw [aimed_laser] at ht
  rw [retarget_new h]
  exact State.Lands.leaveIdle ⟨ht.other.trans (by rw [State.aimed, chan_onChan_other]), ht.code, ht.target, ht.motion,
    ht.ready⟩

/-! ### A step taken or asked for at once -/

/-- The test of R105 reads the levels, the ceiling and the two codes alone. -/
theorem fits_congr {s t : State} (ch : Ch) (b : Code) (hl : t.levels = s.levels) (hc : t.ceiling = s.ceiling)
    (hcode : ∀ x, t.code x = s.code x) : t.fits ch b = s.fits ch b := by
  have hcur : ∀ c, t.current c = s.current c := fun c => by simp only [State.current, hl]
  simp only [State.fits, State.stepCost, State.used, hcur, hcode, hc]
  rfl

/-- What a ramp reads is read off the selected head's context and the force (R65). -/
theorem rampParams_congr {c d : Channel} (hr : d.relay.selected = c.relay.selected) (hh : d.heads = c.heads)
    (hf : d.laser.force = c.laser.force) : d.rampParams = c.rampParams := by
  have hx : d.context = c.context := by
    simp only [Channel.context, hr]
    exact congrArg _ (funext fun h => by simp only [Channel.contextOf, Channel.headAt, hh])
  unfold Channel.rampParams
  rw [hx, hf]

/-- The step that a new target asks for, when it is due and no re-check comes before it (R65, R66, R105). -/
theorem takeStep_lands {s : State} {ch : Ch} (hr : s.recheckDue = false)
    (hc : (s.chan ch).laser.code ≠ (s.chan ch).laser.target) :
    let q := (s.chan ch).laser
    let b := nextCode (s.chan ch).rampParams q.code q.target
    if q.target.toNat < q.code.toNat ∨ s.fits ch b = true then
      State.Lands ch s (s.takeStep ch) b q.target (.ramp (stampAt s.now) (s.chan ch).rampParams.dwell none false) none
    else State.Lands ch s (s.takeStep ch) q.code q.target (q.motion.waitFor b) q.ready := by
  intro q b
  have hne : (q.target == q.code) = false := by simpa using Ne.symm hc
  unfold State.takeStep
  simp only [State.settleRecheck, hr, Bool.false_eq_true, if_false, Bool.or_eq_true, decide_eq_true_eq]
  change if _ then State.Lands ch s (if (q.target == q.code) = true then s else if _ then s.stepTo ch b else _) _ _ _ _ else _
  rw [hne]
  simp only [Bool.false_eq_true, if_false]
  split
  · refine ⟨by rw [chan_stepTo_other], ?_, ?_, ?_, ?_⟩ <;> rw [chan_stepTo] <;> rfl
  · refine ⟨by rw [chan_onChan_other], ?_, ?_, ?_, ?_⟩ <;> rw [chan_onChan]

/-- A new target whose first step is due takes it, or asks for it, at once (R64 to R66). -/
theorem retarget_steps {s : State} {ch : Ch} (hr : s.recheckDue = false)
    (h : s.firstTarget ch ≠ (s.chan ch).laser.target) (hc : (s.chan ch).laser.code ≠ s.firstTarget ch)
    (hd : s.stepIsDue ch = true) :
    let q := (s.chan ch).laser
    let b := nextCode (s.chan ch).rampParams q.code (s.firstTarget ch)
    if (s.firstTarget ch).toNat < q.code.toNat ∨ s.fits ch b = true then
      State.Lands ch s (s.retarget ch) b (s.firstTarget ch)
        (.ramp (stampAt s.now) (s.chan ch).rampParams.dwell none false) none
    else State.Lands ch s (s.retarget ch) q.code (s.firstTarget ch) (.ramp q.motion.since q.motion.wait (some b) false)
      q.ready := by
  intro q b
  let w := (s.aimed ch (s.firstTarget ch)).onChan ch fun c =>
    { c with laser := { q with target := s.firstTarget ch, motion := q.motion.turn false } }
  have hw : w.chan ch = { s.chan ch with laser := { q with target := s.firstTarget ch, motion := q.motion.turn false } } := by
    simp only [w, State.aimed, onChan_onChan, chan_onChan]
  have hcode : ∀ x, w.code x = s.code x := by
    intro x
    rcases ch_cases ch x with rfl | rfl
    · rw [State.code, hw]
      rfl
    · simp only [State.code, w, State.aimed, chan_onChan_other]
  have hturn : s.retarget ch = (w.takeStep ch).leaveIdle ch := by
    have hb : (q.code == s.firstTarget ch) = false := by simpa using hc
    rw [retarget_new h]
    unfold State.turn
    simp only [aimed_due, aimed_laser, hd, Bool.and_true]
    rw [if_pos (by simpa using hc)]
    simp only [w]
    rw [hb]
  have hp : (w.chan ch).rampParams = (s.chan ch).rampParams := by rw [hw]; exact rampParams_congr rfl rfl rfl
  have hs := takeStep_lands (s := w) (ch := ch) (by simpa [w, State.aimed] using hr) (by rw [hw]; exact hc)
  rw [hp, hw] at hs
  have hfit : w.fits ch b = s.fits ch b := fits_congr ch b (by simp [w, State.aimed]) (by simp [w, State.aimed]) hcode
  have hother : (w.chan (otherCh ch)).laser = (s.chan (otherCh ch)).laser := by
    simp only [w, State.aimed, chan_onChan_other]
  have hnow : w.now = s.now := by simp [w, State.aimed]
  rw [hturn]
  dsimp only at hs
  change if _ ∨ w.fits ch b = true then _ else _ at hs
  rw [hfit, waitFor_turn_false, hnow] at hs
  split at hs
  · rw [if_pos (by assumption)]
    exact State.Lands.leaveIdle ⟨hs.other.trans hother, hs.code, hs.target, hs.motion, hs.ready⟩
  · rw [if_neg (by assumption)]
    exact State.Lands.leaveIdle ⟨hs.other.trans hother, hs.code, hs.target, hs.motion, hs.ready⟩

/-! ### A recomputation of the target meets it -/

theorem retarget_firstTarget (s : State) (ch : Ch) :
    (s.retarget ch).firstTarget ch = s.firstTarget ch ∧
      ((s.retarget ch).chan ch).laser.target = s.firstTarget ch ∧
      ((s.retarget ch).chan ch).rampParams = (s.chan ch).rampParams := by
  have hv := retarget_sansLaser s ch
  obtain ⟨ht, hf, hp⟩ := retarget_target s ch
  have hc := targetOf_congr hv ch hf hp
  refine ⟨by rw [← targetOf_eq_firstTarget, ← targetOf_eq_firstTarget, hc], by rw [ht, hc, targetOf_eq_firstTarget], ?_⟩
  exact rampParams_congr (by rw [sansLaser_chan_relay hv]) (sansLaser_chan_heads hv ch) hf

/-- The test of R105, on the current differences. -/
theorem fits_iff (s : State) (ch : Ch) (b : Code) : s.fits ch b = true ↔
    (s.current b : Int) - (s.current (s.chan ch).laser.code : Int) ≤ 0 ∨
      (s.used : Int) + ((s.current b : Int) - (s.current (s.chan ch).laser.code : Int)) ≤ s.ceiling := by
  unfold State.fits
  rw [Bool.or_eq_true, decide_eq_true_iff, decide_eq_true_iff]
  rfl

/-- The first step toward a new target is taken when it is due and goes down, costs nothing or fits (R65, R105). -/
theorem takesStep_retarget_iff (s : State) (ch : Ch) : s.takesStep (s.retarget ch) ch ↔
    s.firstTarget ch ≠ (s.chan ch).laser.target ∧ s.firstTarget ch ≠ (s.chan ch).laser.code ∧
      s.stepIsDue ch = true ∧ ((s.firstTarget ch).toNat < (s.chan ch).laser.code.toNat ∨
        s.fits ch (nextCode (s.chan ch).rampParams (s.chan ch).laser.code (s.firstTarget ch)) = true) := by
  obtain ⟨-, ht, hp⟩ := retarget_firstTarget s ch
  simp only [State.takesStep, ht, hp, stepIsDue_eq, fits_iff]

/-- No re-check being due, a recomputation makes the code meet its target (R64 to R67). -/
theorem retarget_meetsTarget {s : State} {ch : Ch} (hr : s.recheckDue = false) : s.meetsTarget (s.retarget ch) ch := by
  obtain ⟨-, ht, hp⟩ := retarget_firstTarget s ch
  have hsteps := takesStep_retarget_iff s ch
  unfold State.meetsTarget State.movesTo
  simp only [ht, hp, ← stepIsDue_eq]
  by_cases h : s.firstTarget ch = (s.chan ch).laser.target
  · have l := retarget_same h
    have no : ¬ s.takesStep (s.retarget ch) ch := fun x => (hsteps.1 x).1 h
    simp [h, no, l.other, l.code, l.motion, l.ready]
  by_cases hc : (s.chan ch).laser.code = s.firstTarget ch
  · have l := retarget_turns h (.inl hc)
    have no : ¬ s.takesStep (s.retarget ch) ch := fun x => (hsteps.1 x).2.1 hc.symm
    rw [beq_iff_eq.2 hc, turn_true] at l
    simp [h, hc, no, l.other, l.code, l.motion, l.ready]
  cases hd : s.stepIsDue ch with
  | false =>
    have l := retarget_turns h (.inr hd)
    have no : ¬ s.takesStep (s.retarget ch) ch := fun x => by simp [hd] at hsteps; exact hsteps x
    rw [beq_eq_false_iff_ne.2 hc, turn_false] at l
    simp [h, Ne.symm hc, no, l.other, l.code, l.motion, l.ready]
  | true =>
    have l := retarget_steps hr h hc hd
    dsimp only at l
    split at l
    · next hf =>
      have yes : s.takesStep (s.retarget ch) ch := hsteps.2 ⟨h, Ne.symm hc, hd, hf⟩
      simp [h, Ne.symm hc, yes, l.other, l.code, l.motion, l.ready, stampAt]
    · next hf =>
      have no : ¬ s.takesStep (s.retarget ch) ch := fun x => hf (hsteps.1 x).2.2.2
      simp [h, Ne.symm hc, no, l.other, l.code, l.motion, l.ready]

/-! ### What no step of a laser starts -/

/-- A property of a sequencer that a step, a turn, a new target and the end of IDLE keep: they set the code, the
target and the motion, and stop the ready timer and the park count (R65, R72, R76). -/
structure Steady (P : Sequencer → Prop) : Prop where
  aim  : ∀ q goal, P q → P { q with target := goal }
  turn : ∀ q m, P q → P { q with motion := m }
  step : ∀ q b m, P q → P { q with code := b, motion := m, ready := none }
  idle : ∀ q, P q → P { q with parkCount := 0, parkDue := false }

section
variable {P : Sequencer → Prop}

theorem stepTo_keeps (hP : Steady P) {s : State} (y ch : Ch) (b : Code) (h : P (s.chan ch).laser) :
    P ((s.stepTo y b).chan ch).laser := by
  rcases ch_cases y ch with rfl | rfl
  · rw [chan_stepTo]
    exact hP.step _ _ _ h
  · rwa [chan_stepTo_other]

theorem grant_keeps (hP : Steady P) {s : State} (y ch : Ch) (h : P (s.chan ch).laser) :
    P ((s.grant y).1.chan ch).laser := by
  rcases grant_cases s y with ⟨b, -, -, e⟩ | ⟨e, -⟩ <;> rw [e]
  · exact stepTo_keeps hP y ch b h
  · exact h

theorem settleRecheck_keeps (hP : Steady P) {s : State} {ch : Ch} (h : P (s.chan ch).laser) :
    P (s.settleRecheck.chan ch).laser := by
  have h' : P (({ s with recheckDue := false } : State).chan ch).laser := by rwa [chan_with_recheckDue]
  unfold State.settleRecheck State.recheck
  split
  · dsimp only
    split
    · exact h'
    · exact grant_keeps hP _ _ h'
    · exact grant_keeps hP _ _ h'
    · unfold State.contest
      dsimp only
      rw [chan_with_loser]
      exact grant_keeps hP _ _ (grant_keeps hP _ _ h')
  · exact h

theorem takeStep_keeps (hP : Steady P) {s : State} {ch : Ch} (h : P (s.chan ch).laser) :
    P ((s.takeStep ch).chan ch).laser := by
  have hs := settleRecheck_keeps hP h
  unfold State.takeStep
  dsimp only
  split
  · exact hs
  · split
    · exact stepTo_keeps hP ch ch _ hs
    · rw [chan_onChan]
      exact hP.turn _ _ hs

theorem turn_keeps (hP : Steady P) {s : State} {ch : Ch} (h : P (s.chan ch).laser) : P ((s.turn ch).chan ch).laser := by
  have ht (m : Motion) : P ((s.onChan ch fun c => { c with laser := { c.laser with motion := m } }).chan ch).laser := by
    rw [chan_onChan]
    exact hP.turn _ _ h
  unfold State.turn
  dsimp only
  split
  · exact takeStep_keeps hP (ht _)
  · exact ht _

theorem leaveIdle_keeps (hP : Steady P) {s : State} {ch : Ch} (h : P (s.chan ch).laser) :
    P ((s.leaveIdle ch).chan ch).laser := by
  unfold State.leaveIdle
  split
  · exact h
  · rw [chan_onChan]
    exact hP.idle _ h

/-- A recomputation of the target keeps what is steady (R64). -/
theorem retarget_keeps (hP : Steady P) {s : State} {ch : Ch} (h : P (s.chan ch).laser) :
    P ((s.retarget ch).chan ch).laser := by
  by_cases hn : s.firstTarget ch = (s.chan ch).laser.target
  · unfold State.retarget
    simp only [targetOf_eq_firstTarget, hn, beq_self_eq_true, if_true]
    exact leaveIdle_keeps hP h
  · rw [retarget_new hn]
    refine leaveIdle_keeps hP (turn_keeps hP ?_)
    rw [aimed_laser]
    exact hP.aim _ _ h

end

theorem steady_ready : Steady fun q => q.ready = none :=
  ⟨fun _ _ h => h, fun _ _ h => h, fun _ _ _ _ => rfl, fun _ h => h⟩

theorem steady_parkCount : Steady fun q => q.parkCount = 0 :=
  ⟨fun _ _ h => h, fun _ _ h => h, fun _ _ _ h => h, fun _ _ => rfl⟩

/-! ### A new head record, or an empty queue -/

/-- The head record is one for which the ready timer starts: PREPARING in READY mode, the code settled at its write
code (R72). -/
def Channel.startsReady (c : Channel) : Prop :=
  ∃ r, c.headRec = some r ∧ r.state = .preparing ∧ c.readyMode r = true ∧ c.laser.isSettled = true ∧
    c.laser.code = r.writeCode

theorem startReady_pos {s : State} {ch : Ch} (h : (s.chan ch).startsReady) :
    s.startReady ch = s.onChan ch fun c => { c with laser := { c.laser with ready := some s.now } } := by
  obtain ⟨r, hr, hs, hm, hset, hc⟩ := h
  simp [State.startReady, hr, hs, hm, hset, hc]

theorem startReady_neg {s : State} {ch : Ch} (h : ¬ (s.chan ch).startsReady) : s.startReady ch = s := by
  unfold State.startReady
  dsimp only
  split
  · next r hr =>
    refine if_neg fun hc => h ?_
    simp only [Bool.and_eq_true, beq_iff_eq] at hc
    obtain ⟨⟨⟨hs, hm⟩, hset⟩, hw⟩ := hc
    exact ⟨r, hr, hs, hm, hset, hw⟩
  · rfl

end Sys2Proof.Machine
end

section
/-! PROOFS. A new head record, or an empty queue: the code meets the target of the new situation, and the ready timer
stops or starts again (R36, R44, R72, R74). -/

namespace Sys2Proof.Machine

/-! ### What the laws of a move read -/

/-- `w` offers a move of the laser of `ch` the same start as `s`: clock, table, ceiling, codes and motion. -/
structure State.SameStart (ch : Ch) (s w : State) : Prop where
  now     : w.now = s.now
  levels  : w.levels = s.levels
  ceiling : w.ceiling = s.ceiling
  recheck : w.recheckDue = s.recheckDue
  other   : (w.chan (otherCh ch)).laser = (s.chan (otherCh ch)).laser
  code    : (w.chan ch).laser.code = (s.chan ch).laser.code
  target  : (w.chan ch).laser.target = (s.chan ch).laser.target
  motion  : (w.chan ch).laser.motion = (s.chan ch).laser.motion

/-- What decides the target of a channel beside the lockout (R62), with the sequencer itself, its ready timer apart. -/
structure Channel.SameAim (c d : Channel) : Prop where
  code   : d.laser.code = c.laser.code
  target : d.laser.target = c.laser.target
  motion : d.laser.motion = c.laser.motion
  force  : d.laser.force = c.laser.force
  park   : d.laser.park = c.laser.park
  heads  : d.heads = c.heads
  select : d.relay.selected = c.relay.selected
  queue  : d.queue = c.queue
  fence  : d.wedge.fence = c.wedge.fence
  rg     : d.rg.level = c.rg.level

/-- The move that ends at `t` ends at `u` too: the clock, the incidents and what decides the targets are the same. -/
structure State.SameEnd (ch : Ch) (t u : State) : Prop where
  now       : u.now = t.now
  incidents : u.incidents = t.incidents
  deferred  : u.deferred = t.deferred
  other     : (u.chan (otherCh ch)).laser = (t.chan (otherCh ch)).laser
  aim       : (t.chan ch).SameAim (u.chan ch)

theorem State.SameEnd.refl (ch : Ch) (t : State) : State.SameEnd ch t t :=
  ⟨rfl, rfl, rfl, rfl, ⟨rfl, rfl, rfl, rfl, rfl, rfl, rfl, rfl, rfl, rfl⟩⟩

theorem State.SameStart.trans {ch : Ch} {s w v : State} (h : State.SameStart ch s w) (k : State.SameStart ch w v) :
    State.SameStart ch s v :=
  ⟨k.now.trans h.now, k.levels.trans h.levels, k.ceiling.trans h.ceiling, k.recheck.trans h.recheck,
    k.other.trans h.other, k.code.trans h.code, k.target.trans h.target, k.motion.trans h.motion⟩

theorem sameStart_onChan (s : State) (ch : Ch) (f : Channel → Channel)
    (hc : (f (s.chan ch)).laser.code = (s.chan ch).laser.code)
    (ht : (f (s.chan ch)).laser.target = (s.chan ch).laser.target)
    (hm : (f (s.chan ch)).laser.motion = (s.chan ch).laser.motion) : State.SameStart ch s (s.onChan ch f) :=
  ⟨by simp, by simp, by simp, by simp, by rw [chan_onChan_other], by rwa [chan_onChan], by rwa [chan_onChan],
    by rwa [chan_onChan]⟩

theorem sameEnd_onChan (t : State) (ch : Ch) (f : Channel → Channel) (h : (t.chan ch).SameAim (f (t.chan ch))) :
    State.SameEnd ch t (t.onChan ch f) :=
  ⟨by simp, by simp, by simp, by rw [chan_onChan_other], by rwa [chan_onChan]⟩

theorem Channel.SameAim.isSettled {c d : Channel} (h : c.SameAim d) : d.laser.isSettled = c.laser.isSettled := by
  unfold Sequencer.isSettled
  rw [h.motion]

theorem contextOf_congr {c d : Channel} (h : d.heads = c.heads) : d.contextOf = c.contextOf :=
  funext fun x => by simp only [Channel.contextOf, Channel.headAt, h]

theorem Channel.SameAim.context {c d : Channel} (h : c.SameAim d) : d.context = c.context := by
  simp only [Channel.context, h.select, contextOf_congr h.heads]

theorem Channel.SameAim.readyMode {c d : Channel} (h : c.SameAim d) (r : Rec) : d.readyMode r = c.readyMode r := by
  simp only [Channel.readyMode, contextOf_congr h.heads]

theorem Channel.SameAim.rampParams {c d : Channel} (h : c.SameAim d) : d.rampParams = c.rampParams :=
  rampParams_congr h.select h.heads h.force

theorem State.SameEnd.firstTarget {ch : Ch} {t u : State} (h : State.SameEnd ch t u) :
    u.firstTarget ch = t.firstTarget ch := by
  have hr : (u.chan ch).ranges = (t.chan ch).ranges := by simp only [Channel.ranges, h.aim.context]
  simp only [State.firstTarget, State.targetCases, State.lockedOut, h.incidents, h.deferred, h.aim.context, hr,
    h.aim.force, h.aim.park, h.aim.queue, h.aim.fence, h.aim.rg]

/-- The same start makes the same move. -/
theorem State.SameStart.movesTo {ch : Ch} {s w : State} (h : State.SameStart ch s w) (t : State) :
    w.movesTo t ch = s.movesTo t ch := by
  have hcur : ∀ c, w.current c = s.current c := fun c => by simp only [State.current, h.levels]
  have hcode : ∀ x, w.code x = s.code x := by
    intro x
    rcases ch_cases ch x with rfl | rfl
    · exact h.code
    · exact congrArg Sequencer.code h.other
  simp only [State.movesTo, State.takesStep, State.used, hcur, hcode, h.now, h.ceiling, h.other, h.code, h.target,
    h.motion]

/-- The same end is met by the same move. -/
theorem State.SameEnd.movesTo {ch : Ch} {t u : State} (h : State.SameEnd ch t u) (s : State) :
    s.movesTo u ch = s.movesTo t ch := by
  simp only [State.movesTo, State.takesStep, h.other, h.aim.code, h.aim.target, h.aim.motion,
    h.aim.rampParams]

/-- A change of the head record reads the start and the end alone. -/
theorem State.headChanges.congr {ch : Ch} {s w t u : State} (h : w.headChanges t ch) (hs : State.SameStart ch s w)
    (ht : State.SameEnd ch t u) (hr : (u.chan ch).laser.ready = (t.chan ch).laser.ready) : s.headChanges u ch := by
  obtain ⟨htarget, hmoves, hstart, hstop⟩ := h
  unfold State.headChanges
  simp only [Channel.headRec, ht.movesTo, ht.firstTarget, ht.now, ht.aim.code, ht.aim.target,
    ht.aim.isSettled, ht.aim.queue, ht.aim.readyMode, hr, ← hs.movesTo, ← hs.recheck]
  exact ⟨htarget, hmoves, hstart, hstop⟩

/-! ### A recomputation behind a new head -/

/-- With the ready timer stopped, a recomputation of the target and a start of the ready timer are what a new head
record brings (R44, R72, R74). -/
theorem retarget_startReady_headChanges {w : State} {ch : Ch} (h : (w.chan ch).laser.ready = none) :
    w.headChanges ((w.retarget ch).startReady ch) ch := by
  have hready : ((w.retarget ch).chan ch).laser.ready = none := retarget_keeps steady_ready h
  obtain ⟨hfirst, htarget, -⟩ := retarget_firstTarget w ch
  have hmoves (hr : w.recheckDue = false) : w.movesTo (w.retarget ch) ch := (retarget_meetsTarget hr).1
  generalize w.retarget ch = v at *
  rw [← hfirst] at htarget
  by_cases hs : (v.chan ch).startsReady
  · have hend : State.SameEnd ch v (v.startReady ch) := by
      rw [startReady_pos hs]
      exact sameEnd_onChan v ch _ ⟨rfl, rfl, rfl, rfl, rfl, rfl, rfl, rfl, rfl, rfl⟩
    have hnow : ((v.startReady ch).chan ch).laser.ready = some (v.startReady ch).now := by
      rw [startReady_pos hs, chan_onChan, onChan_now]
    obtain ⟨r, hr, hp, hm, hset, hc⟩ := hs
    refine ⟨by rw [hend.aim.target, hend.firstTarget, htarget], fun hw => by rw [hend.movesTo]; exact hmoves hw,
      fun _ _ _ _ _ _ => hnow, fun no => ?_⟩
    have := no r (by rwa [Channel.headRec, hend.aim.queue])
    simp [hp, hend.aim.readyMode, hm, hend.aim.isSettled, hset, hend.aim.code, hc] at this
  · rw [startReady_neg hs]
    exact ⟨htarget, hmoves, fun r hr hp hm hset hc => absurd ⟨r, hr, hp, hm, hset, hc⟩ hs, fun _ => hready⟩

/-! ### The head record leaves -/

/-- An incident moves nothing that a step of a laser reads (R166, R167). -/
theorem sameStart_postAll (is : List Incident) (s : State) (ch : Ch) : State.SameStart ch s (s.postAll is) := by
  induction is generalizing s with
  | nil => exact ⟨rfl, rfl, rfl, rfl, rfl, rfl, rfl, rfl⟩
  | cons i is ih =>
    obtain ⟨hn, hl, hc, hr, -, -, -, -⟩ := ih (s.post i)
    have hp : (s.post i).now = s.now ∧ (s.post i).levels = s.levels ∧ (s.post i).ceiling = s.ceiling ∧
        (s.post i).recheckDue = s.recheckDue := by
      rcases post_cases s i with ⟨-, h⟩ | ⟨-, -, -, h⟩ | ⟨-, -, h⟩ <;> simp [h]
    obtain ⟨pn, pl, pc, pr⟩ := hp
    exact ⟨hn.trans pn, hl.trans pl, hc.trans pc, hr.trans pr, by rw [chan_postAll], by rw [chan_postAll],
      by rw [chan_postAll], by rw [chan_postAll]⟩

/-- The first record of a queue becomes the head record: the code meets its target (R36, R44). -/
theorem becomeHead_headChanges {s : State} {ch : Ch} (b : Bool) (h : (s.chan ch).queue ≠ []) :
    s.headChanges (s.becomeHead ch b) ch := by
  unfold State.becomeHead
  dsimp only
  split
  · contradiction
  · next r rest hq =>
    refine (retarget_startReady_headChanges ?_).congr (sameStart_onChan s ch _ rfl rfl rfl) (.refl ch _) rfl
    rw [chan_onChan]

/-- The queue runs empty with no promotion waiting: the code meets its target (R44). -/
theorem retarget_headChanges {s : State} {ch : Ch} (hq : (s.chan ch).queue = []) (h : (s.chan ch).laser.ready = none) :
    s.headChanges (s.retarget ch) ch := by
  have hn : ¬ ((s.retarget ch).chan ch).startsReady := by
    rintro ⟨r, hr, -⟩
    rw [Channel.headRec, sansLaser_chan_queue (retarget_sansLaser s ch), hq] at hr
    contradiction
  have := retarget_startReady_headChanges h
  rwa [startReady_neg hn] at this

theorem dropHead_laser (c : Channel) (h : c.queue ≠ []) : c.dropHead.laser = { c.laser with ready := none } := by
  unfold Channel.dropHead
  split
  · contradiction
  · rfl

theorem dropHead_heads (c : Channel) : c.dropHead.heads = c.heads := by
  unfold Channel.dropHead
  split <;> rfl

/-- The head record leaves: the next one, or the empty queue with no promotion waiting, meets its target (R44). -/
theorem departHead_headChanges {s : State} {ch : Ch} (b : Bool) (is : List Incident) (hq : (s.chan ch).queue ≠ [])
    (hp : (s.chan ch).selectedPending = none) : s.headChanges (s.departHead ch b is) ch := by
  have hl := dropHead_laser _ hq
  let w := (s.onChan ch Channel.dropHead).postAll is
  have hw : w.chan ch = (s.chan ch).dropHead := by simp only [w, chan_postAll, chan_onChan]
  have hs : State.SameStart ch s w :=
    (sameStart_onChan s ch _ (by rw [hl]) (by rw [hl]) (by rw [hl])).trans (sameStart_postAll is _ ch)
  rcases departHead_cases s ch b is with ⟨ht, e⟩ | ⟨ht, e⟩ <;> rw [e]
  · rw [announceEmpty_of_quiet (by rw [hw, selectedPending_congr (dropHead_relay _) (dropHead_heads _), hp])]
    exact (retarget_headChanges (by rw [hw, dropHead_queue, ht]) (by rw [hw, hl])).congr hs (.refl ch _) rfl
  · exact (becomeHead_headChanges b (by rw [hw, dropHead_queue]; exact ht)).congr hs (.refl ch _) rfl

end Sys2Proof.Machine
end

section
/-! PROOFS. O16: the release side of a write-clock edge (R6, R11, R45 to R50). -/

namespace Sys2Proof.Machine

/-! ### The edge -/

theorem exec_symbolRelease_quiet {s : State} {ch : Ch} (hl : s.live ch = true) (ht : (s.chan ch).releaseTaken = false)
    (hq : s.edgesQuiet ch = true) : exec (.symbolRelease ch) s = .next (s.releaseEdge ch) := by
  simp [exec, execSymbolRelease, hl, ht, settleEdges_quiet hq]

/-- The release side of the edge is marked as taken. -/
def State.edgeTaken (s : State) (ch : Ch) : State := s.onChan ch fun c => { c with releaseTaken := true }

theorem edgeTaken_chan (s : State) (ch : Ch) : (s.edgeTaken ch).chan ch = { s.chan ch with releaseTaken := true } :=
  chan_onChan _ _ _

theorem edgeTaken_now (s : State) (ch : Ch) : (s.edgeTaken ch).now = s.now := onChan_now _ _ _

theorem edgeTaken_writeReady (s : State) (ch : Ch) (r : Rec) : (s.edgeTaken ch).writeReady ch r = s.writeReady ch r := by
  simp only [State.writeReady, edgeTaken_chan, State.elapsed, edgeTaken_now]
  rfl

theorem edgeTaken_releaseDue (s : State) (ch : Ch) : (s.edgeTaken ch).releaseDue ch = s.releaseDue ch := by
  have hl : (s.edgeTaken ch).live ch = s.live ch := by simp [State.live, State.edgeTaken, State.present]
  simp only [State.releaseDue, hl, edgeTaken_writeReady, edgeTaken_chan]
  rfl

theorem edgeTaken_sendingRec (s : State) (ch : Ch) : (s.edgeTaken ch).sendingRec ch = s.sendingRec ch := by
  simp only [State.sendingRec, edgeTaken_writeReady, edgeTaken_chan]
  rfl

theorem releaseEdge_fall {s : State} {ch : Ch} (h : (s.chan ch).pwgFallDue = true) :
    s.releaseEdge ch = (if s.releaseDue ch = true then (s.edgeTaken ch).releaseHead ch else s.edgeTaken ch).onChan ch
      fun c => c.dropGate s.now := by
  rw [← edgeTaken_releaseDue]
  unfold State.releaseEdge
  simp only [chan_onChan, h, if_true, onChan_now]
  rfl

theorem releaseEdge_none {s : State} {ch : Ch} (h : (s.chan ch).pwgFallDue = false) (hs : s.sendingRec ch = none) :
    s.releaseEdge ch = s.onChan ch fun c => { c with releaseTaken := true, pwd := false } := by
  rw [← edgeTaken_sendingRec] at hs
  unfold State.edgeTaken at hs
  unfold State.releaseEdge
  simp [h, hs]

theorem releaseEdge_some {s : State} {ch : Ch} {r : Rec} (h : (s.chan ch).pwgFallDue = false)
    (hs : s.sendingRec ch = some r) : s.releaseEdge ch = (s.edgeTaken ch).sendSymbol ch r := by
  rw [← edgeTaken_sendingRec] at hs
  unfold State.edgeTaken at hs
  unfold State.releaseEdge
  simp [h, hs, State.edgeTaken]

/-! ### Who may send, and what may be released -/

/-- The record that sends is the head record, RELEASING, with a symbol and write ready (R47). -/
theorem sendingRec_iff (s : State) (ch : Ch) (r : Rec) : s.sendingRec ch = some r ↔
    (s.chan ch).headRec = some r ∧ r.state = .releasing ∧ 1 ≤ r.run ∧ s.mayWrite ch r := by
  constructor
  · intro h
    obtain ⟨hr, hs, hrun, hw⟩ := sendingRec_eq_some h
    exact ⟨hr, hs, hrun, ((State.writeReady_iff s ch r).1 hw).2⟩
  · rintro ⟨hr, hs, hrun, hw⟩
    have hready := (State.writeReady_iff s ch r).2 ⟨.inr hs, hw⟩
    simp [State.sendingRec, hr, hs, hrun, hready]

/-- A release is due by R45 when the model finds it due. -/
theorem isDue_release_iff (s : State) (ch : Ch) : s.isDue (.release ch) ↔ s.releaseDue ch = true := by
  unfold State.isDue State.releaseDue
  dsimp only
  cases (s.chan ch).headRec with
  | none => simp
  | some r =>
    have hw : r.state = .preparing ∧ s.mayWrite ch r ↔ r.state = .preparing ∧ s.writeReady ch r = true := by
      rw [State.writeReady_iff]
      exact ⟨fun h => ⟨h.1, .inl h.1, h.2⟩, fun h => ⟨h.1, h.2.2⟩⟩
    simp [hw, and_assoc]

/-- The allowance at a release, from the fence tick and the rate (R46). -/
theorem allowanceNow_eq (s : State) (ch : Ch) : s.allowanceNow ch =
    let ahead := ((s.chan ch).wedge.fenceTick - s.now).toInt
    if (s.chan ch).wedge.lock.predicts = true then
      if ahead ≤ 0 then 0 else min 1048575 (ahead.toNat * 1024 / (s.chan ch).rate.p)
    else 1048575 := rfl

/-! ### A symbol leaves -/

/-- A symbol that is neither the last nor the one that reaches the allowance leaves, and nothing follows from it. -/
theorem sendSymbol_more {s : State} {ch : Ch} {r : Rec} {rest : List Rec} {x : Symbol} {line : List Symbol}
    (hq : (s.chan ch).queue = r :: rest) (hline : (s.chan ch).line = x :: line)
    (hmore : 2 ≤ r.run ∨ r.inputOpen = true) (ha : r.allowance ≠ some (min 1048575 (r.symOut + 1))) :
    s.sendSymbol ch r = s.onChan ch fun c =>
      { c with
        pwd := x.value, pwg := true, line := line
        queue := { r with symOut := min 1048575 (r.symOut + 1), run := r.run - 1 } :: rest } := by
  have hsent : ∀ u : State, u.afterSymbol ch r.sendOne = u := by
    intro u
    have hlast : (r.sendOne.run == 0 && !r.sendOne.inputOpen) = false := by
      rcases hmore with h | h
      · have : ¬ r.run - 1 = 0 := by omega
        simp [Rec.sendOne, this]
      · simp [Rec.sendOne, h]
    have hallow : (r.sendOne.allowance == some r.sendOne.symOut) = false :=
      beq_eq_false_iff_ne.2 ha
    simp [State.afterSymbol, hlast, hallow]
  unfold State.sendSymbol
  rw [hline]
  dsimp only
  rw [hsent]
  refine onChan_congr s ch ?_
  simp only [Channel.onHead, hq]
  rfl

/-! ### A release at the edge -/

theorem releaseHead_releases {s : State} {ch : Ch} {r : Rec} {rest : List Rec} (hq : (s.chan ch).queue = r :: rest)
    (hn : s.allowanceNow ch ≠ 0) : s.releaseHead ch = s.onChan ch fun c =>
      { c with queue := r.asReleased (s.allowanceNow ch) :: rest, laser := { c.laser with ready := none } } := by
  unfold State.releaseHead
  simp only [Channel.headRec, hq, List.head?_cons, beq_eq_false_iff_ne.2 hn, Bool.false_eq_true, if_false]
  refine onChan_congr s ch ?_
  simp only [Channel.onHead, hq]

theorem releaseHead_cuts {s : State} {ch : Ch} {r : Rec} {rest : List Rec} (hq : (s.chan ch).queue = r :: rest)
    (hn : s.allowanceNow ch = 0) : s.releaseHead ch = s.departHead ch false [r.incident ch .fenceCut 0] := by
  unfold State.releaseHead
  simp [Channel.headRec, hq, hn]

/-- The head record leaves with its run, and with no promotion waiting the record behind it is seated: beside the laser
nothing else changes (R44). -/
theorem departHead_view {s : State} {ch : Ch} (b : Bool) (is : List Incident) (hp : (s.chan ch).selectedPending = none) :
    ∃ code cold, (s.departHead ch b is).sansLaser =
      (((s.onChan ch Channel.dropHead).postAll is).onChan ch fun c => c.seat code cold b).sansLaser := by
  have hw : ((s.onChan ch Channel.dropHead).postAll is).chan ch = (s.chan ch).dropHead := by
    rw [chan_postAll, chan_onChan]
  have hd := departHead_cases s ch b is
  generalize (s.onChan ch Channel.dropHead).postAll is = w at hw hd ⊢
  rw [← dropHead_queue, ← hw] at hd
  rcases hd with ⟨ht, e⟩ | ⟨ht, e⟩ <;> rw [e]
  · refine ⟨0, 0, ?_⟩
    rw [announceEmpty_of_quiet (by rw [hw, selectedPending_congr (dropHead_relay _) (dropHead_heads _), hp]),
      retarget_sansLaser, State.onChan, show (w.chan ch).seat 0 0 b = w.chan ch by simp [Channel.seat, Channel.onHead, ht],
      setChan_chan]
  · obtain ⟨r, rest, hq⟩ := List.exists_cons_of_ne_nil ht
    refine ⟨(w.chan ch).laser.code, (w.chan ch).coldLeadOf r, (becomeHead_sansLaser w ch b r rest hq).trans ?_⟩
    refine congrArg State.sansLaser (onChan_congr w ch ?_)
    simp [Channel.seat, Channel.onHead, hq]

/-- With a release due at the edge and an allowance of 0 the head record is cut, and PWGx falls (R45, R46). -/
theorem releaseEdge_cuts {s : State} {ch : Ch} {r : Rec} {rest : List Rec} (hfall : (s.chan ch).pwgFallDue = true)
    (hdue : s.releaseDue ch = true) (hq : (s.chan ch).queue = r :: rest) (hn : s.allowanceNow ch = 0) :
    s.releaseEdge ch = ((s.edgeTaken ch).departHead ch false [r.incident ch .fenceCut 0]).onChan ch
      fun c => c.dropGate s.now := by
  have hn' : (s.edgeTaken ch).allowanceNow ch = 0 := by
    rw [← hn]
    simp only [State.allowanceNow, edgeTaken_chan, edgeTaken_now]
  rw [releaseEdge_fall hfall, if_pos hdue, releaseHead_cuts (by rw [edgeTaken_chan]; exact hq) hn']

theorem releaseEdge_releases {s : State} {ch : Ch} {r : Rec} {rest : List Rec} (hfall : (s.chan ch).pwgFallDue = true)
    (hdue : s.releaseDue ch = true) (hq : (s.chan ch).queue = r :: rest) (hn : s.allowanceNow ch ≠ 0) :
    s.releaseEdge ch = s.onChan ch fun c =>
      { c with
        releaseTaken := true, pwd := false, pwg := false, pwgFallDue := false
        pwgFall := if c.pwg then stampAt s.now else c.pwgFall
        queue := r.asReleased (s.allowanceNow ch) :: rest, laser := { c.laser with ready := none } } := by
  have hn' : (s.edgeTaken ch).allowanceNow ch = s.allowanceNow ch := by
    simp only [State.allowanceNow, edgeTaken_chan, edgeTaken_now]
  rw [releaseEdge_fall hfall, if_pos hdue, releaseHead_releases (by rw [edgeTaken_chan]; exact hq) (by rwa [hn']), hn',
    State.edgeTaken, onChan_onChan, onChan_onChan]
  rfl

/-- The channel behind a departure with no promotion waiting: the record and its run are gone, the gates stay (R44). -/
theorem departHead_chan {s : State} {ch : Ch} {r : Rec} {rest : List Rec} (b : Bool) (is : List Incident)
    (hq : (s.chan ch).queue = r :: rest) (hp : (s.chan ch).selectedPending = none) :
    let d := (s.departHead ch b is).chan ch
    d.releaseTaken = (s.chan ch).releaseTaken ∧ d.pwg = (s.chan ch).pwg ∧ d.pwgFall = (s.chan ch).pwgFall ∧
      d.line = (s.chan ch).line.drop r.run ∧ d.queue.length = rest.length ∧ d.queue.tail = rest.tail := by
  intro d
  obtain ⟨code, cold, hv⟩ := departHead_view b is hp
  have hd := sansLaser_chan hv ch
  rw [chan_onChan, chan_postAll, chan_onChan] at hd
  change d.sansLaser = _ at hd
  simp only [Channel.dropHead, hq] at hd
  cases rest <;> exact ⟨(congrArg Channel.releaseTaken hd :), (congrArg Channel.pwg hd :),
    (congrArg Channel.pwgFall hd :), (congrArg Channel.line hd :),
    (congrArg (fun c : Channel => c.queue.length) hd :), (congrArg (fun c : Channel => c.queue.tail) hd :)⟩

theorem departHead_incidents {s : State} {ch : Ch} (b : Bool) (i : Incident) (hp : (s.chan ch).selectedPending = none) :
    (s.departHead ch b [i]).incidents = (s.post i).incidents := by
  obtain ⟨code, cold, hv⟩ := departHead_view b [i] hp
  rw [sansLaser_incidents hv, onChan_incidents]
  exact post_incidents_congr i (onChan_incidents _ _ _) (onChan_nextIncident _ _ _)

/-- Settles O16. -/
theorem symbolRelease : Obligations.SymbolRelease := by
  refine ⟨fun s ch hl ht hq hfall => ⟨fun hno => ?_, ?_⟩, fun s ch hl ht hq hfall hdue => ?_, ?_⟩
  · rw [exec_symbolRelease_quiet hl ht hq]
    have hs : s.sendingRec ch = none := by
      refine Option.eq_none_iff_forall_ne_some.2 fun r h => ?_
      obtain ⟨hr, hst, hrun, hw⟩ := (sendingRec_iff s ch r).1 h
      rcases hno r hr with h | h | h
      · exact h hst
      · omega
      · exact h hw
    rw [releaseEdge_none hfall hs]
  · intro r rest x line hqueue hline hst hrun hw hmore ha
    have hs : s.sendingRec ch = some r :=
      (sendingRec_iff s ch r).2 ⟨by simp [Channel.headRec, hqueue], hst, hrun, hw⟩
    rw [exec_symbolRelease_quiet hl ht hq, releaseEdge_some hfall hs,
      sendSymbol_more (by rw [edgeTaken_chan]; exact hqueue) (by rw [edgeTaken_chan]; exact hline) hmore ha,
      State.edgeTaken, onChan_onChan]
  · rw [isDue_release_iff] at hdue
    rw [exec_symbolRelease_quiet hl ht hq, releaseEdge_fall hfall, if_neg hdue, State.edgeTaken, onChan_onChan]
    rfl
  · intro s ch r rest hl ht hq hfall hdue hqueue ahead n fall
    rw [isDue_release_iff] at hdue
    have hn : s.allowanceNow ch = n := allowanceNow_eq s ch
    rw [exec_symbolRelease_quiet hl ht hq, ← hn]
    refine ⟨fun h0 => ?_, fun h0 hp => ?_⟩
    · rw [releaseEdge_releases hfall hdue hqueue h0]
      exact congrArg _ (onChan_congr s ch rfl)
    · let i := r.incident ch .fenceCut 0
      have hw : (s.edgeTaken ch).chan ch = { s.chan ch with releaseTaken := true } := edgeTaken_chan s ch
      have hwq : ((s.edgeTaken ch).chan ch).queue = r :: rest := by rw [hw]; exact hqueue
      have hwp : ((s.edgeTaken ch).chan ch).selectedPending = none := by rw [hw]; exact hp
      obtain ⟨htaken, hpwg, hpwgFall, hline, hlen, htail⟩ := departHead_chan false [i] hwq hwp
      have hhead := departHead_headChanges false [i] (by rw [hwq]; exact List.cons_ne_nil r rest) hwp
      have hinc := departHead_incidents false i hwp
      rw [hw] at htaken hpwg hpwgFall hline
      refine ⟨_, congrArg _ (releaseEdge_cuts hfall hdue hqueue h0), ?_⟩
      rw [chan_onChan, onChan_incidents]
      refine ⟨htaken, rfl, rfl, rfl, ?_, hline, hlen, htail, ?_, ?_⟩
      · change (if (((s.edgeTaken ch).departHead ch false [i]).chan ch).pwg = true then stampAt s.now
          else (((s.edgeTaken ch).departHead ch false [i]).chan ch).pwgFall) = fall
        rw [hpwg, hpwgFall]
        rfl
      · exact hhead.congr (sameStart_onChan s ch _ rfl rfl rfl)
          (sameEnd_onChan _ ch _ ⟨rfl, rfl, rfl, rfl, rfl, rfl, rfl, rfl, rfl, rfl⟩) (by rw [chan_onChan]; rfl)
      · exact hinc.trans (post_incidents_congr i (onChan_incidents _ _ _) (onChan_nextIncident _ _ _))

end Sys2Proof.Machine
end

section
/-! PROOFS. O50: CHANNEL RESET (R13, R16, R58, R69, R85, R161). -/

namespace Sys2Proof.Machine

/-! ### A direct set to 0 -/

/-- A step is not due before one tick has passed since the present one (R65, R69). -/
theorem not_due_of_stamp {s : State} {ch : Ch} {n : Nat} (h : (s.chan ch).laser.motion = .settled s.stamp n)
    (hn : 1 ≤ n) : s.stepIsDue ch = false := by
  have hz : ticksFrom s.now s.now = 0 := by simp [ticksFrom]
  rw [stepIsDue_eq, h]
  simp [Motion.since, Motion.wait, Stamp.elapsed, State.stamp, stampAt, hz, Nat.one_le_iff_ne_zero.1 hn]

theorem directZero_eq (s : State) (ch : Ch) : ((s.directZero ch).chan ch).laser =
    { (s.settleRecheck.chan ch).laser with
      code := 0, target := 0, motion := .settled s.stamp (s.chan ch).rampParams.dwell, ready := none } := by
  have hv := settleRecheck_sansLaser s
  have hp : (s.settleRecheck.chan ch).rampParams = (s.chan ch).rampParams :=
    rampParams_congr (by rw [sansLaser_chan_relay hv]) (sansLaser_chan_heads hv ch) (settleRecheck_marks s ch).1
  simp only [State.directZero, State.freed, chan_with_recheckDue, chan_onChan, hp, State.stamp, sansLaser_now hv]

/-- After a direct set to 0 the dwell of the ramp is one tick or more, the context's own being so (R60, R69). -/
theorem one_le_dwell {c : Channel} (h : ∀ x, c.context = some x → 1 ≤ x.dwell) : 1 ≤ c.rampParams.dwell := by
  unfold Channel.rampParams
  cases hx : c.context with
  | some x => exact h x hx
  | none =>
    cases c.laser.force with
    | some f => exact Nat.le_of_ble_eq_true rfl
    | none => exact le_max_left 1 _

/-- The code set directly to 0 and the target recomputed: it is held at 0 (R69). -/
theorem directZero_retarget_held {s : State} {ch : Ch} (h : ∀ x, (s.chan ch).context = some x → 1 ≤ x.dwell) :
    ((s.directZero ch).retarget ch).heldAtZero ch := by
  let w := s.directZero ch
  have hl := directZero_eq s ch
  have hv : (w.retarget ch).sansLaser = s.sansLaser := (retarget_sansLaser w ch).trans (directZero_sansLaser s ch)
  have hnow : (w.retarget ch).now = s.now := sansLaser_now hv
  have hforce : ((w.retarget ch).chan ch).laser.force = (s.chan ch).laser.force := by
    obtain ⟨-, hf, -⟩ := retarget_target w ch
    rw [hf, hl]
    exact (settleRecheck_marks s ch).1
  have hx : ((w.retarget ch).chan ch).context = (s.chan ch).context := by
    simp only [Channel.context, sansLaser_chan_relay hv, contextOf_congr (sansLaser_chan_heads hv ch)]
  have hp : ((w.retarget ch).chan ch).rampParams = (s.chan ch).rampParams :=
    rampParams_congr (by rw [sansLaser_chan_relay hv]) (sansLaser_chan_heads hv ch) hforce
  have hstamp : w.stamp = s.stamp := by
    simp only [State.stamp, sansLaser_now (directZero_sansLaser s ch), w]
  have held {m : Motion} {goal : Code} (l : State.Lands ch w (w.retarget ch) 0 goal m none)
      (hm : m = if goal = 0 then .settled s.stamp (s.chan ch).rampParams.dwell
        else .ramp s.stamp (s.chan ch).rampParams.dwell none true) : (w.retarget ch).heldAtZero ch := by
    have hw : m.wait = (s.chan ch).rampParams.dwell := by
      rw [hm]
      split <;> rfl
    unfold State.heldAtZero
    simp only [l.code, l.target, l.motion, l.ready, hp, hx, hforce, hnow, hw]
    refine ⟨trivial, trivial, trivial, fun x hc => ?_, fun hc hf => ?_, hm⟩
    · simp [Channel.rampParams, hc, Context.ramp]
    · simp [Channel.rampParams, hc, hf, forcedRamp]
  by_cases hz : w.firstTarget ch = 0
  · have l := retarget_same (s := w) (ch := ch) (by rw [hl, hz])
    rw [hl] at l
    exact held l rfl
  · have hd : w.stepIsDue ch = false := not_due_of_stamp (by rw [hl, hstamp]) (one_le_dwell h)
    have l := retarget_turns (s := w) (ch := ch) (by rw [hl]; exact hz) (.inr hd)
    rw [hl] at l
    refine held l ?_
    rw [if_neg hz, beq_eq_false_iff_ne.2 (Ne.symm hz), turn_false]
    rfl

/-! ### The directive -/

/-- Two changes of a channel that agree beside its laser agree in the view. -/
theorem onChan_sansLaser_congr (s : State) (ch : Ch) {f g : Channel → Channel}
    (h : (f (s.chan ch)).sansLaser = (g (s.chan ch)).sansLaser) :
    (s.onChan ch f).sansLaser = (s.onChan ch g).sansLaser := by
  cases ch
  · exact congrArg (fun a => { s.sansLaser with a := a }) h
  · exact congrArg (fun b => { s.sansLaser with b := b }) h

/-- A frame that no check of R157 refuses passes the checks of CHANNEL RESET. -/
theorem generalCheck_channelReset {s : State} {e : Entry} (h : s.firstRefusal e = none) (hk : e.kind = 8) :
    s.generalCheck .channelReset e = none := by
  have hk' : e.kind.toNat = 8 := by rw [hk]; rfl
  have hchecks : e.payload = [] ∧ (e.target = .B → s.straps.twoChannels = true) := by
    simpa [State.firstRefusal, State.directiveChecks, hk'] using h
  obtain ⟨hpayload, hstrap⟩ := hchecks
  have hpresent : s.present e.target = true := by
    cases ht : e.target with
    | A => rfl
    | B => exact hstrap ht
  simp [State.generalCheck, Directive.lengthOk, Directive.namesHead, Directive.quiet, hpayload, hpresent]

/-- The frame behind the one applied is taken up (R155, R156). -/
theorem takeNext_eq (s : State) : s.takeNext = s.nextFrame := by
  unfold State.takeNext State.nextFrame
  split <;> simp_all [applicationTime]

theorem nextFrame_sansLaser {s t : State} (h : t.sansLaser = s.sansLaser) :
    t.nextFrame.sansLaser = s.nextFrame.sansLaser := congrArg State.nextFrame h

theorem nextFrame_chan (s : State) (ch : Ch) : s.nextFrame.chan ch = s.chan ch := by
  cases ch <;> rfl

theorem sameEnd_nextFrame (s : State) (ch : Ch) : State.SameEnd ch s s.nextFrame :=
  ⟨rfl, rfl, rfl, by rw [nextFrame_chan], by rw [nextFrame_chan]; exact (State.SameEnd.refl ch s).aim⟩

theorem exec_channelReset {s : State} {e : Entry} (ha : s.applying = some e) (hr : s.firstRefusal e = none)
    (hk : e.kind = 8) : exec .channelReset s = .next (s.resetChannel e.target).nextFrame := by
  have hkind : s.applyingKind .channelReset anyEntry = some e := by
    simp [State.applyingKind, ha, hk, kindOf, anyEntry]
  rw [← takeNext_eq]
  simp [exec, execChannelReset, State.applyKind, hkind, State.apply, generalCheck_channelReset hr hk]

/-! ### The channel -/

theorem discard_eq (i : Intake) : i.discard = if i = .storing then .discarding else i := by
  cases i <;> rfl

theorem resetChannel_of_quiet {s : State} {ch : Ch} (h : (s.chan ch).selectedPending = none) :
    s.resetChannel ch = ((s.onChan ch fun c => c.resetBlocks s.now).directZero ch).retarget ch := by
  have hv := directZero_sansLaser (s.onChan ch fun c => c.resetBlocks s.now) ch
  have hp : (((s.onChan ch fun c => c.resetBlocks s.now).directZero ch).chan ch).selectedPending = none := by
    rw [selectedPending_congr (sansLaser_chan_relay hv ch) (sansLaser_chan_heads hv ch), chan_onChan, ← h]
    exact selectedPending_congr rfl rfl
  unfold State.resetChannel
  dsimp only
  rw [announceEmpty_of_quiet hp, ite_self]

/-- Settles O50. -/
theorem channelReset : Obligations.ChannelReset := by
  intro s e ha hr hk hp hx
  let ch := e.target
  let u := s.onChan ch fun c => c.resetBlocks s.now
  let v := (u.directZero ch).retarget ch
  have hu : u.chan ch = (s.chan ch).resetBlocks s.now := chan_onChan _ _ _
  have hv : v.sansLaser = u.sansLaser := (retarget_sansLaser _ ch).trans (directZero_sansLaser u ch)
  obtain ⟨-, hforce, hpark⟩ := retarget_target (u.directZero ch) ch
  have hzero := directZero_eq u ch
  obtain ⟨hforce', hpark', -⟩ := settleRecheck_marks u ch
  obtain ⟨hgoal, htarget, -⟩ := retarget_firstTarget (u.directZero ch) ch
  have hend := sameEnd_nextFrame v ch
  refine ⟨v.nextFrame, by rw [exec_channelReset ha hr hk, resetChannel_of_quiet hp], ?_, ?_, ?_, ?_, ?_, ?_⟩
  · refine nextFrame_sansLaser (hv.trans ?_)
    refine onChan_sansLaser_congr s ch ?_
    simp only [Channel.resetBlocks, Channel.removeAll, Channel.dropGate, Wedge.restart, discard_eq]
    rfl
  · obtain ⟨hc, hrd, hw, hctx, hnone, hm⟩ := directZero_retarget_held (s := u) (ch := ch)
      (by rw [hu]; exact hx)
    unfold State.heldAtZero
    rw [nextFrame_chan]
    exact ⟨hc, hrd, hw, hctx, hnone, hm⟩
  · rw [nextFrame_chan]
    exact hforce.trans (by rw [hzero, hforce', hu]; rfl)
  · rw [nextFrame_chan]
    exact hpark.trans (by rw [hzero, hpark', hu]; rfl)
  · rw [nextFrame_chan]
    refine retarget_keeps steady_parkCount ?_
    rw [hzero]
    refine settleRecheck_keeps steady_parkCount ?_
    rw [hu]
    rfl
  · rw [nextFrame_chan, hend.firstTarget, hgoal, htarget]

end Sys2Proof.Machine
end

section
/-! PROOFS. The supply: what each shared operation keeps of a used sum within the ceiling (R104, R105). -/

namespace Sys2Proof.Machine

/-! ### The used sum -/

/-- The levels do not fall and the used sum is within the ceiling (R104, R134). -/
def State.Supplied (s : State) : Prop := s.LevelsRise ∧ s.SupplyOk

theorem used_eq (s : State) (ch : Ch) : s.used = s.current (s.code ch) + s.current (s.code (otherCh ch)) := by
  cases ch
  · rfl
  · exact Nat.add_comm _ _

theorem current_congr {s t : State} (h : t.levels = s.levels) (c : Code) : t.current c = s.current c := by
  simp only [State.current, h]

/-- A landing below the present one costs nothing over levels that do not fall (R105). -/
theorem fits_of_le {s : State} (h : s.LevelsRise) {ch : Ch} {b : Code} (hb : b.toNat ≤ (s.code ch).toNat) :
    s.fits ch b = true := by
  have hcost : s.current b ≤ s.current (s.chan ch).laser.code := h b _ hb
  rw [fits_iff]
  exact .inl (by omega)

theorem Range.has_iff (r : Range) (c : Nat) : r.has c = true ↔ r.lo ≤ c ∧ c ≤ r.hi := by
  simp [Range.has]

/-- A code that falls out of the ranges comes down. -/
theorem escapeDown_le (rs : List Range) (n c : Nat) : escapeDown rs n c ≤ c := by
  induction n generalizing c with
  | zero => exact le_rfl
  | succ n ih =>
    unfold escapeDown
    split
    · exact le_rfl
    · next r hr =>
      have hin := (Range.has_iff r c).1 (by simpa using List.find?_some hr)
      exact (ih _).trans (by omega)

/-- A step toward a lower target goes down (R27). -/
theorem nextCode_le {p : RampParams} {c t : Code} (h : t.toNat < c.toNat) : (nextCode p c t).toNat ≤ c.toNat := by
  have hdown := escapeDown_le p.ranges p.ranges.length (max (c.toNat - p.step) t.toNat)
  have hstart : max (c.toNat - p.step) t.toNat ≤ c.toNat := by omega
  unfold nextCode
  rw [if_neg (by omega), if_pos h, BitVec.toNat_ofNat]
  exact (Nat.mod_le _ _).trans (hdown.trans hstart)

namespace State.Supplied

variable {s t : State}

/-- The levels, the ceiling and the two codes are all that the law reads. -/
theorem congr (h : s.Supplied) (hl : t.levels = s.levels) (hc : t.ceiling = s.ceiling)
    (hcode : ∀ ch, t.code ch = s.code ch) : t.Supplied := by
  have hcur := current_congr hl
  have hused : t.used = s.used := by simp only [State.used, hcur, hcode]
  refine ⟨fun c d hcd => ?_, ?_⟩
  · rw [hcur, hcur]
    exact h.1 c d hcd
  · rw [State.SupplyOk, hused, hc]
    exact h.2

/-- A change of shared fields beside the levels and the ceiling. -/
theorem shared (h : s.Supplied) (ha : t.a = s.a) (hb : t.b = s.b) (hl : t.levels = s.levels)
    (hc : t.ceiling = s.ceiling) : t.Supplied :=
  h.congr hl hc fun ch => by rw [State.code, State.code, chan_congr ha hb]

/-- A change of one channel that leaves its code. -/
theorem onChan (h : s.Supplied) (ch : Ch) (f : Channel → Channel)
    (hf : (f (s.chan ch)).laser.code = (s.chan ch).laser.code) : (s.onChan ch f).Supplied := by
  refine h.congr (by simp) (by simp) fun x => ?_
  rcases ch_cases ch x with rfl | rfl
  · rw [State.code, chan_onChan, hf]
    rfl
  · rw [State.code, chan_onChan_other]
    rfl

/-- A change of one channel to a code that fits (R105). -/
theorem land (h : s.Supplied) {ch : Ch} {f : Channel → Channel}
    (hf : s.fits ch (f (s.chan ch)).laser.code = true) : (s.onChan ch f).Supplied := by
  have hcur := current_congr (onChan_levels s ch f)
  have hother : (s.onChan ch f).code (otherCh ch) = s.code (otherCh ch) := by
    rw [State.code, chan_onChan_other]
    rfl
  have hcode : (s.onChan ch f).code ch = (f (s.chan ch)).laser.code := by rw [State.code, chan_onChan]
  have hnow : s.used ≤ s.ceiling := h.2
  refine ⟨fun c d hcd => ?_, ?_⟩
  · rw [hcur, hcur]
    exact h.1 c d hcd
  · rw [fits_iff] at hf
    rw [used_eq s ch] at hf hnow
    rw [State.SupplyOk, onChan_ceiling, used_eq _ ch, hcur, hcur, hother, hcode]
    change _ ∨ (((s.current (s.chan ch).laser.code + _ : Nat) : Int) + _ ≤ _) at hf
    change s.current (s.chan ch).laser.code + _ ≤ _ at hnow
    omega

theorem ite {p : Prop} [Decidable p] (ht : p → s.Supplied) (he : ¬ p → t.Supplied) :
    State.Supplied (if p then s else t) := by
  split
  · next hp => exact ht hp
  · next hp => exact he hp

theorem foldl {α : Type} {f : State → α → State} (hf : ∀ {s : State} (x : α), s.Supplied → (f s x).Supplied)
    (xs : List α) (h : s.Supplied) : (xs.foldl f s).Supplied := by
  induction xs generalizing s with
  | nil => exact h
  | cons x xs ih => exact ih (hf x h)

/-! ### Incidents and the headroom -/

theorem post (h : s.Supplied) (i : Incident) : (s.post i).Supplied := by
  rcases post_cases s i with ⟨-, e⟩ | ⟨-, -, -, e⟩ | ⟨-, -, e⟩ <;> rw [e] <;> exact h.shared rfl rfl rfl rfl

theorem postAll (h : s.Supplied) (is : List Incident) : (s.postAll is).Supplied := foldl (fun i h => h.post i) is h

theorem chosen (h : s.Supplied) : s.chosen.Supplied := h.shared rfl rfl rfl rfl

theorem freed (h : s.Supplied) : s.freed.Supplied := h.shared rfl rfl rfl rfl

theorem eitherOrder (h : s.Supplied) {f g : State → State} (hf : ∀ {s : State}, s.Supplied → (f s).Supplied)
    (hg : ∀ {s : State}, s.Supplied → (g s).Supplied) : (s.eitherOrder f g).Supplied := by
  rcases eitherOrder_cases s f g with e | e <;> rw [e]
  · exact hg (hf h.chosen)
  · exact hf (hg h.chosen)

/-- A step that fits is taken within the ceiling (R105). -/
theorem stepTo (h : s.Supplied) {ch : Ch} {b : Code} (hb : s.fits ch b = true) : (s.stepTo ch b).Supplied := by
  have hs : (s.onChan ch fun c => c.stepTo s.now b).Supplied := h.land hb
  exact ite (fun _ => hs.freed) fun _ => hs

theorem grant (h : s.Supplied) (ch : Ch) : (s.grant ch).1.Supplied := by
  rcases grant_cases s ch with ⟨b, -, hb, e⟩ | ⟨e, -⟩ <;> rw [e]
  · exact h.stepTo hb
  · exact h

theorem settleRecheck (h : s.Supplied) : s.settleRecheck.Supplied := by
  have hs : State.Supplied { s with recheckDue := false } := h.shared rfl rfl rfl rfl
  refine ite (fun _ => ?_) fun _ => h
  unfold State.recheck
  dsimp only
  split
  · exact hs
  · exact hs.grant _
  · exact hs.grant _
  · exact ((hs.grant _).grant _).shared rfl rfl rfl rfl

/-! ### The laser code -/

/-- A step of a ramp goes down, fits, or waits (R65, R66, R105). -/
theorem takeStep (h : s.Supplied) (ch : Ch) : (s.takeStep ch).Supplied := by
  have hs := h.settleRecheck
  unfold State.takeStep
  dsimp only
  refine ite (fun _ => hs) fun _ => ite (fun hb => hs.stepTo ?_) fun _ => hs.onChan ch _ (by rfl)
  rw [Bool.or_eq_true, decide_eq_true_iff] at hb
  rcases hb with hb | hb
  · exact fits_of_le hs.1 (nextCode_le hb)
  · exact hb

theorem turn (h : s.Supplied) (ch : Ch) : (s.turn ch).Supplied :=
  ite (fun _ => (h.onChan ch _ (by rfl)).takeStep ch) fun _ => h.onChan ch _ (by rfl)

theorem leaveIdle (h : s.Supplied) (ch : Ch) : (s.leaveIdle ch).Supplied :=
  ite (fun _ => h) fun _ => h.onChan ch _ (by rfl)

theorem retarget (h : s.Supplied) (ch : Ch) : (s.retarget ch).Supplied :=
  leaveIdle (ite (fun _ => h) fun _ => (h.onChan ch _ (by rfl)).turn ch) ch

/-- Code 0 draws least (R69, R134). -/
theorem directZero (h : s.Supplied) (ch : Ch) : (s.directZero ch).Supplied :=
  (h.settleRecheck.land (fits_of_le h.settleRecheck.1 (Nat.zero_le _))).freed

theorem startReady (h : s.Supplied) (ch : Ch) : (s.startReady ch).Supplied := by
  unfold State.startReady
  dsimp only
  split
  · exact ite (fun _ => h.onChan ch _ (by rfl)) fun _ => h
  · exact h

/-! ### Lockout and the thermal monitor -/

theorem enterLockout (h : s.Supplied) (ch : Ch) : (s.enterLockout ch).Supplied :=
  (((h.onChan ch _ (by rfl)).directZero ch).retarget ch).postAll _

theorem raiseFault (h : s.Supplied) (i : Incident) : (s.raiseFault i).Supplied :=
  ite (fun _ => h.post i) fun _ => (h.post i).enterLockout _

theorem evaluate (h : s.Supplied) (ch : Ch) (hd : HeadNo) : (s.evaluate ch hd).Supplied := by
  rcases evaluate_cases s ch hd with ⟨-, e⟩ | ⟨x, -, ⟨-, -, e⟩ | ⟨-, e⟩⟩ <;> rw [e]
  · exact h
  · exact (h.onChan ch _ (by rfl)).raiseFault _
  · exact h.onChan ch _ (by rfl)

theorem evaluateAll (h : s.Supplied) (ch : Ch) : (s.evaluateAll ch).Supplied :=
  foldl (fun hd h => h.evaluate ch hd) allHeads h

/-! ### The fence window and promotion -/

theorem beginFence (h : s.Supplied) (ch : Ch) : (s.beginFence ch).Supplied := (h.onChan ch _ (by rfl)).postAll _

theorem computeFence (h : s.Supplied) (ch : Ch) : (s.computeFence ch).Supplied := h.onChan ch _ (by rfl)

theorem refenceEmpty (h : s.Supplied) (ch : Ch) : (s.refenceEmpty ch).Supplied :=
  ite (fun _ => ite (fun _ => ((h.computeFence ch).beginFence ch).retarget ch) fun _ => h.computeFence ch) fun _ => h

theorem promoteLaser (h : s.Supplied) (ch : Ch) (x : Context) : (s.promoteLaser ch x).Supplied := by
  have hs := (h.onChan ch (fun c =>
    { c with laser := { c.laser with motion := c.laser.motion.turn false } }) rfl).retarget ch
  exact ite (fun _ => (h.directZero ch).retarget ch) fun _ =>
    ite (fun _ => ite (fun _ => hs.takeStep ch) fun _ => hs) fun _ => h.retarget ch

theorem promote (h : s.Supplied) (ch : Ch) (hd : HeadNo) : (s.promote ch hd).Supplied := by
  unfold State.promote
  dsimp only
  split
  · exact h
  · next x _ =>
    have hs := (h.onChan ch (fun c =>
      c.setHead hd { (s.chan ch).headAt hd with active := some x, pending := .none }) rfl).evaluate ch hd
    exact ite (fun _ => (hs.promoteLaser ch x).refenceEmpty ch) fun _ => hs
  · have hs := h.onChan ch (fun c =>
      c.setHead hd { (s.chan ch).headAt hd with active := none, pending := .none, hold := false }) rfl
    exact ite (fun _ => ((hs.directZero ch).retarget ch).refenceEmpty ch) fun _ => hs

theorem settleStore (h : s.Supplied) (ch : Ch) : (s.settleStore ch).Supplied := by
  unfold State.settleStore
  split
  · exact ite (fun _ => h.promote ch _) fun _ => h
  · exact h

theorem announceEmpty (h : s.Supplied) (ch : Ch) : (s.announceEmpty ch).Supplied := by
  rcases announceEmpty_cases s ch with ⟨-, e⟩ | ⟨hd, -, e | e⟩ <;> rw [e]
  · exact h.retarget ch
  · exact (h.chosen.promote ch hd).retarget ch
  · exact h.chosen.retarget ch

theorem openFenceAfter (h : s.Supplied) (ch : Ch) (had : Bool) : (s.openFenceAfter ch had).Supplied := by
  rcases openFenceAfter_cases s ch had with ⟨-, e⟩ | ⟨-, e | e⟩ <;> rw [e]
  · exact h
  · exact (h.beginFence ch).announceEmpty ch
  · exact (h.beginFence ch).retarget ch

theorem openFence (h : s.Supplied) (ch : Ch) : (s.openFence ch).Supplied := h.openFenceAfter ch _

theorem refence (h : s.Supplied) (ch : Ch) : (s.refence ch).Supplied :=
  ite (fun _ => ite (fun _ => (h.computeFence ch).openFence ch) fun _ => h.computeFence ch) fun _ => h

theorem closeFence (h : s.Supplied) (ch : Ch) : (s.closeFence ch).Supplied :=
  ite (fun _ => (h.onChan ch _ (by rfl)).retarget ch) fun _ => h

theorem switchHead (h : s.Supplied) (ch : Ch) (hd : Option HeadNo) : (s.switchHead ch hd).Supplied :=
  (((h.onChan ch _ (by rfl)).directZero ch).retarget ch).refence ch

/-! ### Departures -/

theorem becomeHead (h : s.Supplied) (ch : Ch) (b : Bool) : (s.becomeHead ch b).Supplied := by
  unfold State.becomeHead
  dsimp only
  split
  · exact h
  · exact ((h.onChan ch _ (by rfl)).retarget ch).startReady ch

theorem afterDeparture (h : s.Supplied) (ch : Ch) (b : Bool) : (s.afterDeparture ch b).Supplied :=
  ite (fun _ => h.announceEmpty ch) fun _ => h.becomeHead ch b

end State.Supplied

theorem dropHead_code (c : Channel) : c.dropHead.laser.code = c.laser.code := by
  unfold Channel.dropHead
  split <;> rfl

theorem onHead_laser (c : Channel) (f : Rec → Rec) : (c.onHead f).laser = c.laser := by
  unfold Channel.onHead
  split <;> rfl

theorem State.Supplied.departHead {s : State} (h : s.Supplied) (ch : Ch) (b : Bool) (is : List Incident) :
    (s.departHead ch b is).Supplied :=
  ((h.onChan ch _ (dropHead_code _)).postAll is).afterDeparture ch b

end Sys2Proof.Machine
end

section
/-! PROOFS. Settles O58: what each command keeps of a used sum within the ceiling (R104, R105). -/

namespace Sys2Proof.Machine

namespace State.Supplied

variable {s : State}

/-! ### The gates -/

theorem enqueue (h : s.Supplied) (ch : Ch) (r : Rec) : (s.enqueue ch r).Supplied := by
  unfold State.enqueue
  dsimp only
  split
  · exact (h.onChan ch _ (by rfl)).becomeHead ch _
  · exact ite (fun _ => (h.onChan ch _ (by exact dropHead_code _)).becomeHead ch _) fun _ => h.onChan ch _ (by rfl)

theorem answerRise (h : s.Supplied) (ch : Ch) (n : Seq) : (s.answerRise ch n).Supplied := by
  unfold State.answerRise
  split
  · exact (h.onChan ch _ (by rfl)).enqueue ch _
  · exact (h.onChan ch _ (by rfl)).post _

theorem cutFrame (h : s.Supplied) (ch : Ch) (n : Seq) : (s.cutFrame ch n).Supplied := by
  unfold State.cutFrame
  dsimp only
  split
  · exact h.onChan ch _ (by rfl)
  · exact (h.onChan ch _ (by rfl)).post _

theorem writeRise (h : s.Supplied) (ch : Ch) : (s.writeRise ch).Supplied := by
  have hs := (h.onChan ch (fun c =>
    { c with wg := filterAt true, nextSeq := (s.chan ch).nextSeq + 1 }) rfl).settleStore ch
  exact ite (fun _ => hs.eitherOrder (fun h => h.cutFrame ch _) fun h => h.answerRise ch _)
    fun _ => (hs.cutFrame ch _).answerRise ch _

theorem writeFall (h : s.Supplied) (ch : Ch) : (s.writeFall ch).Supplied := h.onChan ch _ (by rfl)

theorem readRise (h : s.Supplied) (ch : Ch) : (s.readRise ch).Supplied := (h.onChan ch _ (by rfl)).retarget ch

theorem readFall (h : s.Supplied) (ch : Ch) : (s.readFall ch).Supplied := (h.onChan ch _ (by rfl)).retarget ch

theorem encroach (h : s.Supplied) (ch : Ch) : (s.encroach ch).Supplied := by
  unfold State.encroach
  dsimp only
  split
  · exact ite (fun _ => (h.onChan ch _ (by exact dropHead_code _)).post _) fun _ => h.onChan ch _ (by rfl)
  · exact h.onChan ch _ (by rfl)

theorem servoFence (h : s.Supplied) (ch : Ch) : (s.servoFence ch).Supplied :=
  ite (fun _ => ite (fun _ => (h.encroach ch).afterDeparture ch _) fun _ => h.encroach ch)
    fun _ => (h.encroach ch).openFenceAfter ch _

theorem capture (h : s.Supplied) (ch : Ch) : (s.capture ch).Supplied := by
  unfold State.capture
  dsimp only
  split
  · exact h.onChan ch _ (by rfl)
  · exact (h.onChan ch _ (by rfl)).refence ch
  · exact ite (fun _ => (h.onChan ch _ (by rfl)).refence ch) fun _ => (h.onChan ch _ (by rfl)).post _

theorem servoRise (h : s.Supplied) (ch : Ch) : (s.servoRise ch).Supplied := by
  have hs := h.onChan ch (fun c => { c with sg := filterAt true }) rfl
  exact ite (fun _ => hs.eitherOrder (fun h => h.servoFence ch) fun h => h.capture ch)
    fun _ => (hs.servoFence ch).capture ch

theorem servoFall (h : s.Supplied) (ch : Ch) : (s.servoFall ch).Supplied := (h.onChan ch _ (by rfl)).closeFence ch

/-! ### The directive receivers -/

theorem takeNext (h : s.Supplied) : s.takeNext.Supplied := by
  rw [takeNext_eq]
  exact h.shared rfl rfl rfl rfl

theorem join (h : s.Supplied) (e : Entry) : (s.join e).Supplied := by
  have hs : State.Supplied { s with directives := s.directives ++ [e] } := h.shared rfl rfl rfl rfl
  exact ite (fun _ => hs.takeNext) fun _ => hs

theorem offer (h : s.Supplied) (ch : Ch) (e : Entry) : (s.offer ch e).Supplied := by
  have marked : State.Supplied { s with overrun := true } := h.shared rfl rfl rfl rfl
  have kept : (s.keepClear ch e).Supplied := ite (fun _ => h) fun _ => h.onChan ch _ (by rfl)
  exact ite (fun _ => ite (fun _ => h) fun _ => ite (fun _ => ite (fun _ => h) fun _ => h.join e) fun _ => kept)
    fun _ => ite (fun _ => h.join e) fun _ => marked.post _

theorem handSymbol (h : s.Supplied) (ch : Ch) (b : Bool) : (s.handSymbol ch b).Supplied := by
  have hs := h.onChan ch (fun c => { c with recv := { c.recv with hunt := ((s.chan ch).recv.hunt.take b).1 } }) rfl
  unfold State.handSymbol State.received
  dsimp only
  split
  · exact hs
  · exact hs.post _
  · exact hs.offer ch _

theorem handSymbols (h : s.Supplied) (ch : Ch) (bs : List Bool) : (s.handSymbols ch bs).Supplied :=
  foldl (fun b h => h.handSymbol ch b) bs h

theorem joinClear (h : s.Supplied) (ch : Ch) : (s.joinClear ch).Supplied := by
  unfold State.joinClear
  split
  · exact (h.onChan ch _ (by rfl)).join _
  · exact h

/-! ### The write clock -/

theorem completeRate (h : s.Supplied) (ch : Ch) : (s.completeRate ch).Supplied := by
  refine h.onChan ch _ ?_
  split <;> rfl

theorem abandonRate (h : s.Supplied) (ch : Ch) : (s.abandonRate ch).Supplied :=
  ite (fun _ => h.onChan ch _ (by rfl)) fun _ => (h.onChan ch _ (by rfl)).post _

theorem rateEdge (h : s.Supplied) (ch : Ch) : (s.rateEdge ch).Supplied :=
  (ite (fun _ => h.abandonRate ch) fun _ => h).onChan ch _ (by rfl)

theorem settleGate (h : s.Supplied) (f : Filter) {rise fall : State → State} (hr : (rise s).Supplied)
    (hf : (fall s).Supplied) : (s.settleGate f rise fall).Supplied :=
  ite (fun _ => h) fun _ => ite (fun _ => hf) fun _ => hr

theorem settleEdges (h : s.Supplied) (ch : Ch) : (s.settleEdges ch).Supplied := by
  have h1 := h.settleGate (s.chan ch).wg (rise := fun t => t.writeRise ch) (fall := fun t => t.writeFall ch)
    (h.writeRise ch) (h.writeFall ch)
  unfold State.settleEdges
  dsimp only
  generalize s.settleGate _ _ _ = s1 at h1 ⊢
  have h2 := h1.settleGate (s1.chan ch).sg (rise := fun t => t.servoRise ch) (fall := fun t => t.servoFall ch)
    (h1.servoRise ch) (h1.servoFall ch)
  generalize s1.settleGate _ _ _ = s2 at h2 ⊢
  have h3 := h2.settleGate (s2.chan ch).rg (rise := fun t => t.readRise ch) (fall := fun t => t.readFall ch)
    (h2.readRise ch) (h2.readFall ch)
  exact ite (fun _ => h3.completeRate ch) fun _ => h3

theorem releaseHead (h : s.Supplied) (ch : Ch) : (s.releaseHead ch).Supplied := by
  unfold State.releaseHead
  dsimp only
  split
  · exact h
  · exact ite (fun _ => h.departHead ch _ _) fun _ => h.onChan ch _ (congrArg Sequencer.code (onHead_laser _ _) :)

theorem afterSymbol (h : s.Supplied) (ch : Ch) (r : Rec) : (s.afterSymbol ch r).Supplied := by
  have hs := h.onChan ch (fun c => { c with pwgFallDue := true }) rfl
  have normal : (s.normalEnd ch).Supplied := ite (fun _ => hs.departHead ch _ _)
    fun _ => hs.onChan ch _ (congrArg Sequencer.code (onHead_laser _ _) :)
  have truncated : (s.truncateHead ch r).Supplied :=
    (h.onChan ch _ (congrArg Sequencer.code (onHead_laser _ _) :)).post _
  exact ite (fun _ => normal) fun _ => ite (fun _ => truncated) fun _ => h

theorem sendSymbol (h : s.Supplied) (ch : Ch) (r : Rec) : (s.sendSymbol ch r).Supplied := by
  unfold State.sendSymbol
  split
  · exact h
  · exact (h.onChan ch _ (congrArg Sequencer.code (onHead_laser _ _) :)).afterSymbol ch _

theorem releaseEdge (h : s.Supplied) (ch : Ch) : (s.releaseEdge ch).Supplied := by
  have hs := h.onChan ch (fun c => { c with releaseTaken := true }) rfl
  refine ite (fun _ => (ite (fun _ => hs.releaseHead ch) fun _ => hs).onChan ch _ (by rfl)) fun _ => ?_
  split
  · exact hs.sendSymbol ch _
  · exact hs.onChan ch _ (by rfl)

theorem overflowAbort (h : s.Supplied) (ch : Ch) (r : Rec) : (s.overflowAbort ch r).Supplied := by
  have hs := (h.onChan ch (fun c => (if r.state == .releasing then c.dropGate s.now else c).dropNewest r)
    (by split <;> rfl)).post (r.incident ch .delayOverflow r.symOut)
  exact ite (fun _ => (hs.onChan ch _ (by rfl)).announceEmpty ch) fun _ => hs

theorem routeSymbol (h : s.Supplied) (ch : Ch) (b : Bool) : (s.routeSymbol ch b).Supplied := by
  unfold State.routeSymbol State.storeSymbol State.discardSymbol
  split
  · exact h.handSymbol ch b
  · split
    · exact h
    · exact ite (fun _ => h.onChan ch _ (by rfl)) fun _ => h.overflowAbort ch _
  · split
    · exact h
    · exact h.onChan ch _ (by rfl)

theorem intakeEdge (h : s.Supplied) (ch : Ch) (wd wg sg rg : Bool) : (s.intakeEdge ch wd wg sg rg).Supplied := by
  have advanced : (s.advanceHold ch wd).Supplied := by
    unfold State.advanceHold
    split
    · exact (h.onChan ch _ (by rfl)).routeSymbol ch _
    · exact h.onChan ch _ (by rfl)
  exact (advanced.rateEdge ch).onChan ch _ (by rfl)

/-! ### The heat, the wedge timer and the link relay -/

theorem advancePark (h : s.Supplied) (ch : Ch) : (s.advancePark ch).Supplied :=
  ite (fun _ => h.onChan ch _ (by rfl)) fun _ => h

theorem takeHeat (h : s.Supplied) : s.takeHeat.Supplied :=
  (((((h.onChan .A _ (by rfl)).onChan .B _ (by rfl)).evaluateAll .A).evaluateAll .B).advancePark .A).advancePark .B

theorem coast (h : s.Supplied) (ch : Ch) : (s.coast ch).Supplied := by
  have hs := (h.onChan ch (fun c => { c with wedge := c.wedge.coast }) rfl).computeFence ch
  exact ite (fun _ => hs.closeFence ch) fun _ => ite (fun _ => hs.openFence ch) fun _ => hs

theorem secondMiss (h : s.Supplied) (ch : Ch) : (s.secondMiss ch).Supplied :=
  ((h.onChan ch _ (by rfl)).post _).closeFence ch

theorem takeHeader (h : s.Supplied) (ch : Ch) (header : BitVec 8) (fall : BitVec 31) :
    (s.takeHeader ch header fall).Supplied := by
  have hs := h.onChan ch (fun c => c.onRelay fun r => { r with taken := headerBits header }) rfl
  exact ite (fun _ => ite (fun _ => (hs.onChan ch _ (by rfl)).onChan ch _ (by rfl))
    fun _ => (hs.onChan ch _ (by rfl)).onChan ch _ (by rfl))
    fun _ => hs.onChan ch _ (by rfl)

theorem updateHead (h : s.Supplied) (ch : Ch) (bits : List Bool) : (s.updateHead ch bits).Supplied :=
  ite (fun _ => (h.onChan ch _ (by rfl)).switchHead ch _) fun _ => ((h.onChan ch _ (by rfl)).post _).switchHead ch _

theorem endFrame (h : s.Supplied) (ch : Ch) (all : List Bool) : (s.endFrame ch all).Supplied := by
  unfold State.endFrame
  dsimp only
  split
  · exact h.onChan ch _ (by rfl)
  · exact h.onChan ch _ (by rfl)
  · exact h.onChan ch _ (by rfl)
  · exact ite (fun _ => h.onChan ch _ (by rfl))
      fun _ => ite (fun _ => h.updateHead ch all) fun _ => h.onChan ch _ (by rfl)
  · exact ite (fun _ => h.onChan ch _ (by rfl)) fun _ => h.onChan ch _ (by rfl)
  · exact h
  · exact h

theorem forceSwitch (h : s.Supplied) (ch : Ch) : (s.forceSwitch ch).Supplied := by
  unfold State.forceSwitch
  dsimp only
  split
  · exact ((h.onChan ch _ (by rfl)).post _).announceEmpty ch
  · exact h.onChan ch _ (by rfl)

/-! ### Reports and CLEAR -/

theorem beginReport (h : s.Supplied) : s.beginReport.Supplied := h.shared rfl rfl rfl rfl

theorem requestReport (h : s.Supplied) : s.requestReport.Supplied :=
  ite (fun _ => h.beginReport) fun _ => h.shared rfl rfl rfl rfl

theorem finishReport (h : s.Supplied) : s.finishReport.Supplied :=
  ite (fun _ => h.shared rfl rfl rfl rfl) fun _ => h.shared rfl rfl rfl rfl

theorem storeDeferred (h : s.Supplied) (d : Deferred) : (s.storeDeferred d).Supplied :=
  ite (fun _ => h.shared rfl rfl rfl rfl) fun _ => h

theorem examine (h : s.Supplied) (ch : Ch) : (s.examine ch).Supplied := by
  refine foldl (fun {s} hd h => ?_) allHeads h
  unfold State.examineHead
  dsimp only
  split
  · exact h
  · exact ite (fun _ => h.post _) fun _ => h

theorem checkLockout (h : s.Supplied) (ch : Ch) (was : Bool) : (s.checkLockout ch was).Supplied :=
  ite (fun _ => ite (fun _ => h.examine ch) fun _ => ((h.examine ch).onChan ch _ (by rfl)).retarget ch) fun _ => h

theorem applyClear (h : s.Supplied) (e : Entry) : (s.applyClear e).Supplied := by
  have hr : (s.removeIncidents (e.word 1).toNat).Supplied := h.shared rfl rfl rfl rfl
  have hd : (s.removeIncidents (e.word 1).toNat).storeAllDeferred.Supplied :=
    foldl (fun d h => h.storeDeferred d) _ (ite (fun _ => hr.chosen) fun _ => hr)
  have hc : ((s.removeIncidents (e.word 1).toNat).storeAllDeferred.checkLockouts s).Supplied := by
    obtain ⟨first, t, ht, eq⟩ := checkLockouts_cases (s.removeIncidents (e.word 1).toNat).storeAllDeferred s
    have htt : t.Supplied := by
      rcases ht with rfl | rfl
      · exact hd
      · exact hd.chosen
    rw [eq]
    exact (htt.checkLockout _ _).checkLockout _ _
  have cleared : (s.clearIncidents (e.word 1).toNat).Supplied := ite (fun _ => hc.shared rfl rfl rfl rfl) fun _ => hc
  exact cleared.shared rfl rfl rfl rfl

/-! ### The directive engine -/

theorem setPending (h : s.Supplied) (ch : Ch) (hd : HeadNo) (p : Pending) : (s.setPending ch hd p).Supplied :=
  ite (fun _ => h.onChan ch _ (by rfl)) fun _ => (h.onChan ch _ (by rfl)).promote ch hd

theorem applyContext (h : s.Supplied) (e : Entry) : (s.applyContext e).Supplied := by
  have hs : State.Supplied (if reasonOpen e then s.chosen else s) := ite (fun _ => h.chosen) fun _ => h
  unfold State.applyContext State.loadContext
  dsimp only
  split
  · exact hs.post _
  · exact setPending (ite (fun _ => hs) fun _ => hs.post _) _ _ _

theorem applyRelease (h : s.Supplied) (e : Entry) : (s.applyRelease e).Supplied :=
  ite (fun _ => h) fun _ => h.setPending _ _ _

/-- A new ceiling below the used sum is refused (R112). -/
theorem applyGlobal (h : s.Supplied) (e : Entry) : (s.applyGlobal e).Supplied := by
  have hs := h.settleRecheck
  refine ite (fun _ => hs.post _) fun _ => ite (fun _ => hs.post _) fun hused => ?_
  have ht : State.Supplied { s.settleRecheck with
      ceiling := ceilingOf e, reportDiv := reportDivOf e, selectReg := selectRegOf e } :=
    ⟨hs.1, Nat.le_of_not_lt hused⟩
  exact ite (fun _ => ht.freed) fun _ => ht

theorem parkOff (h : s.Supplied) (ch : Ch) : (s.parkOff ch).Supplied :=
  ite (fun _ => ite (fun _ => (h.onChan ch _ (by rfl)).retarget ch) fun _ => h.onChan ch _ (by rfl)) fun _ => h

theorem recheckHead (h : s.Supplied) (ch : Ch) : (s.recheckHead ch).Supplied := by
  unfold State.recheckHead
  dsimp only
  split
  · exact ite (fun _ => (h.post _).switchHead ch _) fun _ => h
  · exact h

theorem applySetup (h : s.Supplied) (e : Entry) : (s.applySetup e).Supplied :=
  ite (fun _ => ite (fun _ => h.chosen.post _) fun _ => h.post _) fun _ =>
    ite (fun _ => h.post _) fun _ => ((h.onChan _ _ (by rfl)).parkOff _).recheckHead _

theorem resetChannel (h : s.Supplied) (ch : Ch) : (s.resetChannel ch).Supplied := by
  have hs := (h.onChan ch (fun c => c.resetBlocks s.now) rfl).directZero ch
  exact ite (fun _ => hs.retarget ch) fun _ => hs.announceEmpty ch

theorem applyForce (h : s.Supplied) (e : Entry) : (s.applyForce e).Supplied :=
  ite (fun _ => (h.onChan _ _ (by rfl)).retarget _) fun _ => h.post _

theorem endForce (h : s.Supplied) (ch : Ch) : (s.endForce ch).Supplied := (h.onChan ch _ (by rfl)).retarget ch

/-- An application keeps the law when its effect does (R156, R157). -/
theorem applyKind (h : s.Supplied) (d : Directive) (pick : Entry → Bool) {effect : State → Entry → State}
    (he : ∀ e, (effect s e).Supplied) : (s.applyKind d pick effect).Supplied := by
  unfold State.applyKind State.apply
  split
  · next e _ =>
    refine takeNext ?_
    split
    · exact h.post _
    · exact he e
  · exact h

end State.Supplied

/-! ### A new level table -/

/-- A table that would take the used sum above the ceiling is refused; what it makes of the levels is not said (R112,
R134). -/
theorem applyLevels_supplyOk {s : State} (h : s.Supplied) (e : Entry) : (s.applyLevels e).SupplyOk := by
  have hs := h.settleRecheck
  unfold State.applyLevels
  dsimp only
  split
  · exact (hs.post _).2
  · split
    · exact (hs.post _).2
    · next hused => split <;> exact Nat.le_of_not_lt hused

theorem execLevelTable_supplyOk {s t : State} (h : s.Supplied) (ht : execLevelTable s = .next t) : t.SupplyOk := by
  cases ht
  unfold State.applyKind State.apply
  split
  · rw [takeNext_eq]
    split
    · exact (h.post _).2
    · exact applyLevels_supplyOk h _
  · exact h.2

/-! ### The resets of the whole part -/

/-- Both codes at 0 over the default levels draw nothing (R85, R134). -/
theorem supplyOk_of_zero {s : State} (hl : s.levels = initialLevels) (hc : ∀ ch, s.code ch = 0) : s.SupplyOk := by
  simp [State.SupplyOk, State.used, hc, current_of_initialLevels hl]

theorem exec_reset_supplyOk {c : Instr} {s t : State} (h : s.SupplyOk) (hc : isReset c = true)
    (ht : exec c s = .next t) : t.SupplyOk := by
  have leave (s : State) (lcA lcB : BitVec 6) : (s.leaveReset lcA lcB).SupplyOk :=
    supplyOk_of_zero rfl fun ch => by cases ch <;> rfl
  cases c with
  | powerOn rstn lcA lcB =>
    cases ht
    cases rstn
    · exact supplyOk_of_zero rfl fun ch => by cases ch <;> rfl
    · exact leave _ lcA lcB
  | rstnLow =>
    cases ht
    split
    · exact h
    · exact supplyOk_of_zero rfl fun ch => by cases ch <;> rfl
  | resetRelease lcA lcB =>
    cases ht
    split
    · exact leave s lcA lcB
    · exact h
  | _ => simp [isReset] at hc

/-! ### Every command -/

namespace State.Supplied

/-- A command whose event may not exist keeps the law when its effect does (log entry 1). -/
theorem guarded {s t : State} (h : s.Supplied) {p : Prop} [Decidable p] (ht : p → t.Supplied) :
    State.Supplied (if p then t else s) := ite ht fun _ => h

theorem execLinkFrameStart {s : State} (h : s.Supplied) (ch : Ch) :
    ∃ t, execLinkFrameStart ch s = .next t ∧ t.Supplied := by
  have low := h.onChan ch (fun c => { c with lks := false }) rfl
  exact ⟨_, rfl, low.guarded fun _ => ite (fun _ => low.onChan ch _ (by rfl))
    fun _ => low.guarded fun _ => low.onChan ch _ (by rfl)⟩

theorem execLinkFrameEnd {s : State} (h : s.Supplied) (ch : Ch) (bits : List Bool) :
    ∃ t, execLinkFrameEnd ch bits s = .next t ∧ t.Supplied := by
  have high := h.onChan ch (fun c => { c with lks := true }) rfl
  exact ⟨_, rfl, high.guarded fun _ => ite (fun _ => high.onChan ch _ (by rfl)) fun _ => high.endFrame ch _⟩

theorem execLrdyFall {s : State} (h : s.Supplied) (ch : Ch) : ∃ t, execLrdyFall ch s = .next t ∧ t.Supplied := by
  refine ⟨_, rfl, ?_⟩
  split
  · exact (h.onChan ch _ (by rfl)).raiseFault _
  · exact h.onChan ch _ (by rfl)

theorem execSymbolIntake {s : State} (h : s.Supplied) (ch : Ch) (wd wg sg rg : Bool) :
    ∃ t, execSymbolIntake ch wd wg sg rg s = .next t ∧ t.Supplied := by
  have hs := h.settleEdges ch
  refine ⟨_, rfl, h.guarded fun _ => intakeEdge ?_ ch wd wg sg rg⟩
  exact ite (fun _ => hs) fun _ => hs.releaseEdge ch

theorem execHeatTick {s : State} (h : s.Supplied) : ∃ t, execHeatTick s = .next t ∧ t.Supplied := by
  have hs : State.Supplied { s with heatTaken := true } := h.shared rfl rfl rfl rfl
  exact ⟨_, rfl, h.guarded fun _ => ite (fun _ => hs) fun _ => hs.takeHeat⟩

theorem execUnknownKind {s : State} (h : s.Supplied) : ∃ t, execUnknownKind s = .next t ∧ t.Supplied := by
  refine ⟨_, rfl, ?_⟩
  split
  · exact h.guarded fun _ => (h.post _).takeNext
  · exact h

theorem execDeferredIncidentStore {s : State} (h : s.Supplied) (ch : Ch) :
    ∃ t, execDeferredIncidentStore ch s = .next t ∧ t.Supplied := by
  refine ⟨_, rfl, ?_⟩
  split
  · exact h.storeDeferred _
  · exact h

/-- Every command but a reset and a new level table keeps the used sum within the ceiling, and the levels. -/
theorem exec {s : State} (h : s.Supplied) (c : Instr) (hc : isReset c = false) (hl : c ≠ .levelTable) :
    ∃ t, exec c s = .next t ∧ t.Supplied := by
  cases c with
  | powerOn | rstnLow | resetRelease => simp [isReset] at hc
  | levelTable => exact absurd rfl hl
  | writeGateRise ch => exact ⟨_, rfl, h.guarded fun _ => h.writeRise ch⟩
  | writeGateFall ch => exact ⟨_, rfl, h.guarded fun _ => h.writeFall ch⟩
  | symbolIntake ch wd wg sg rg => exact h.execSymbolIntake ch wd wg sg rg
  | symbolRelease ch => exact ⟨_, rfl, h.guarded fun _ => (h.settleEdges ch).releaseEdge ch⟩
  | release ch => exact ⟨_, rfl, h.guarded fun _ => h.releaseHead ch⟩
  | tailExpiry ch => exact ⟨_, rfl, h.guarded fun _ => h.departHead ch _ _⟩
  | promotion ch head => exact ⟨_, rfl, h.guarded fun _ => h.promote ch head⟩
  | readyTimeout ch => exact ⟨_, rfl, h.guarded fun _ => h.departHead ch _ _⟩
  | lrdyRise ch => exact ⟨_, rfl, h.onChan ch _ (by rfl)⟩
  | lrdyFall ch => exact h.execLrdyFall ch
  | pfiChange ch level => exact ⟨_, rfl, h.onChan ch _ (by rfl)⟩
  | rampStep ch => exact ⟨_, rfl, h.guarded fun _ => h.takeStep ch⟩
  | stepGrant => exact ⟨_, rfl, h.settleRecheck⟩
  | rampComplete ch => exact ⟨_, rfl, h.guarded fun _ => ((h.onChan ch _ (by rfl)).startReady ch).leaveIdle ch⟩
  | heatTick => exact h.execHeatTick
  | parkExpiry ch => exact ⟨_, rfl, h.guarded fun _ => (h.onChan ch _ (by rfl)).retarget ch⟩
  | readGateRise ch => exact ⟨_, rfl, h.guarded fun _ => h.readRise ch⟩
  | readGateFall ch => exact ⟨_, rfl, h.guarded fun _ => h.readFall ch⟩
  | prgRise ch => exact ⟨_, rfl, h.guarded fun _ => h.onChan ch _ (by rfl)⟩
  | servoGateRise ch => exact ⟨_, rfl, h.guarded fun _ => h.servoRise ch⟩
  | servoGateFall ch => exact ⟨_, rfl, h.guarded fun _ => h.servoFall ch⟩
  | fenceTickReached ch => exact ⟨_, rfl, h.guarded fun _ => h.openFence ch⟩
  | acquisitionAbandon ch => exact ⟨_, rfl, h.guarded fun _ => h.onChan ch _ (by rfl)⟩
  | wedgeMissExpiry ch =>
    exact ⟨_, rfl, h.guarded fun _ => ite (fun _ => h.coast ch) fun _ => h.secondMiss ch⟩
  | rateWindowComplete ch => exact ⟨_, rfl, h.guarded fun _ => h.completeRate ch⟩
  | rateWindowAbandon ch => exact ⟨_, rfl, h.guarded fun _ => h.abandonRate ch⟩
  | linkFrameStart ch => exact h.execLinkFrameStart ch
  | linkHeaderTaken ch header fall => exact ⟨_, rfl, h.guarded fun _ => h.takeHeader ch header fall⟩
  | catchUpComplete ch =>
    exact ⟨_, rfl, h.guarded fun _ => ite (fun _ => h.updateHead ch _) fun _ => h.onChan ch _ (by rfl)⟩
  | linkFrameEnd ch bits => exact h.execLinkFrameEnd ch bits
  | heldFrameReplay ch bits fall => exact ⟨_, rfl, h.guarded fun _ => h.onChan ch _ (by rfl)⟩
  | replayComplete ch => exact ⟨_, rfl, h.guarded fun _ => (h.onChan ch _ (by rfl)).updateHead ch _⟩
  | waitingFrameRelease ch => exact ⟨_, rfl, h.guarded fun _ => h.onChan ch _ (by rfl)⟩
  | holdLimitExpiry ch => exact ⟨_, rfl, h.guarded fun _ => h.forceSwitch ch⟩
  | directiveFrame ch symbols => exact ⟨_, rfl, h.guarded fun _ => h.handSymbols ch symbols⟩
  | waitingClearJoin ch => exact ⟨_, rfl, h.guarded fun _ => h.joinClear ch⟩
  | headContext => exact ⟨_, rfl, h.applyKind _ _ h.applyContext⟩
  | releaseContext => exact ⟨_, rfl, h.applyKind _ _ h.applyRelease⟩
  | channelSetup => exact ⟨_, rfl, h.applyKind _ _ h.applySetup⟩
  | globalSetup => exact ⟨_, rfl, h.applyKind _ _ h.applyGlobal⟩
  | report => exact ⟨_, rfl, h.applyKind _ _ fun _ => h.requestReport⟩
  | clear => exact ⟨_, rfl, h.applyKind _ _ h.applyClear⟩
  | deferredIncidentStore ch => exact h.execDeferredIncidentStore ch
  | channelReset => exact ⟨_, rfl, h.applyKind _ _ fun e => h.resetChannel e.target⟩
  | forceLevel => exact ⟨_, rfl, h.applyKind _ _ h.applyForce⟩
  | forceEnd => exact ⟨_, rfl, h.applyKind _ _ fun e => h.endForce e.target⟩
  | unknownKind => exact h.execUnknownKind
  | reportFrameEnd => exact ⟨_, rfl, h.guarded fun _ => h.finishReport⟩

end State.Supplied

theorem exec_supplyOk {c : Instr} {s t : State} (h : s.Supplied) (ht : exec c s = .next t) : t.SupplyOk := by
  cases hc : isReset c with
  | true => exact exec_reset_supplyOk h.2 hc ht
  | false =>
    by_cases hl : c = .levelTable
    · subst hl
      exact execLevelTable_supplyOk h ht
    · obtain ⟨u, hu, hs⟩ := h.exec c hc hl
      cases hu.symm.trans ht
      exact hs.2

/-- Settles O58: a code rises by a step that fits, falls over levels that do not fall, and a table or a ceiling that
the used sum breaks is refused. -/
theorem supplyLaw : Obligations.SupplyLaw := by
  intro s t hl hs h
  have supplied : s.Supplied := ⟨hl, hs⟩
  unfold step at h
  split at h
  · refine exec_supplyOk ?_ h
    exact supplied.shared rfl rfl rfl rfl
  · split at h
    · exact exec_supplyOk supplied h
    · cases h
      exact (supplied.congr rfl rfl fun ch => by cases ch <;> rfl).2

end Sys2Proof.Machine
end

section
/-! PROOFS. Settles O2: what is due at a tick, and a step with no command waiting (R17, R19; log entries 1, 2). -/

namespace Sys2Proof.Machine

/-! ### The steps due at a tick -/

/-- A command is due by the model's own conditions. -/
def State.dueNow (s : State) (i : Instr) : Bool :=
  match i with
  | .release ch => s.releaseDue ch
  | .tailExpiry ch => s.tailDue ch
  | .promotion ch h => s.promotionDue ch h
  | .readyTimeout ch => s.readyTimeoutDue ch
  | .rampStep ch => s.rampStepDue ch
  | .stepGrant => s.recheckDue
  | .rampComplete ch => s.rampCompleteDue ch
  | .heatTick => s.heatDue
  | .parkExpiry ch => s.parkDue ch
  | .prgRise ch => s.prgDue ch
  | .fenceTickReached ch => s.fenceDue ch
  | .acquisitionAbandon ch => s.abandonDue ch
  | .wedgeMissExpiry ch => s.missDue ch
  | .rateWindowComplete ch => s.rateComplete ch
  | .rateWindowAbandon ch => s.rateExpired ch
  | .catchUpComplete ch => s.catchUpDue ch
  | .heldFrameReplay ch bits fall => s.replayDue ch && (s.chan ch).relay.wholeHeld && bits == [] && fall == 0
  | .replayComplete ch => s.replayEnds ch
  | .waitingFrameRelease ch => s.waitingDue ch
  | .holdLimitExpiry ch => s.holdLimitDue ch
  | .waitingClearJoin ch => s.clearJoinDue ch
  | .deferredIncidentStore ch => s.deferredWaits ch
  | .reportFrameEnd => s.reportEnds
  | .writeGateRise ch => s.live ch && decide (3 ≤ (s.chan ch).wg.run) && !(s.chan ch).wg.level
  | .writeGateFall ch => s.live ch && decide (3 ≤ (s.chan ch).wg.run) && (s.chan ch).wg.level
  | .servoGateRise ch => s.live ch && decide (3 ≤ (s.chan ch).sg.run) && !(s.chan ch).sg.level
  | .servoGateFall ch => s.live ch && decide (3 ≤ (s.chan ch).sg.run) && (s.chan ch).sg.level
  | .readGateRise ch => s.live ch && decide (3 ≤ (s.chan ch).rg.run) && !(s.chan ch).rg.level
  | .readGateFall ch => s.live ch && decide (3 ≤ (s.chan ch).rg.run) && (s.chan ch).rg.level
  | .headContext | .releaseContext | .levelTable | .channelSetup | .globalSetup | .report | .clear | .channelReset
  | .forceLevel | .forceEnd | .unknownKind => s.applying.map applicationOf == some i
  | .powerOn _ _ _ | .rstnLow | .resetRelease _ _ | .symbolIntake _ _ _ _ _ | .symbolRelease _
  | .lrdyRise _ | .lrdyFall _ | .pfiChange _ _ | .linkFrameStart _ | .linkHeaderTaken _ _ _
  | .linkFrameEnd _ _ | .directiveFrame _ _ => false

@[simp] theorem mem_dueIf (b : Bool) (i j : Instr) : i ∈ dueIf b j ↔ b = true ∧ i = j := by
  cases b <;> simp [dueIf]

theorem mem_dueGate (f : Filter) (rise fall i : Instr) : i ∈ dueGate f rise fall ↔
    3 ≤ f.run ∧ (f.level = false ∧ i = rise ∨ f.level = true ∧ i = fall) := by
  unfold dueGate
  split
  · next h => simp [Nat.not_le.2 h]
  · next h => cases f.level <;> simp [Nat.le_of_not_lt h]

theorem mem_allHeads (h : HeadNo) : h ∈ allHeads := by
  revert h
  decide

/-- The steps of a channel that are due are those of its own commands that are. -/
theorem mem_dueOf (s : State) (ch : Ch) (i : Instr) :
    i ∈ s.dueOf ch ↔ channelOf i = some ch ∧ s.dueNow i = true := by
  have live (l : List Instr) : (i ∈ if s.live ch then l else []) ↔ s.live ch = true ∧ i ∈ l := by
    cases s.live ch <;> simp
  unfold State.dueOf
  simp only [List.mem_append, live, mem_dueIf, mem_dueGate, List.mem_map, List.mem_filter, mem_allHeads, true_and]
  cases i <;>
    simp only [channelOf, State.dueNow, reduceCtorEq, and_false, false_and, or_false, false_or, exists_false] <;> grind

/-- The command is one by which the engine applies a frame (R157). -/
def isApplication : Instr → Bool
  | .headContext | .releaseContext | .levelTable | .channelSetup | .globalSetup | .report | .clear | .channelReset
  | .forceLevel | .forceEnd | .unknownKind => true
  | _ => false

theorem isApplication_applicationOf (e : Entry) : isApplication (applicationOf e) = true := by
  unfold applicationOf
  split
  case h_9 => split <;> rfl
  all_goals rfl

/-- The steps of the part that are due are the commands that are. -/
theorem mem_dueSteps (s : State) (c : Instr) : c ∈ s.dueSteps ↔ s.dueNow c = true := by
  have happ (h : isApplication c = false) : ¬ s.applying.map applicationOf = some c := by
    intro he
    obtain ⟨e, -, rfl⟩ := Option.map_eq_some_iff.1 he
    simp [isApplication_applicationOf] at h
  have hch : channelOf c ≠ none → isApplication c = false := by cases c <;> simp [channelOf, isApplication]
  simp only [State.dueSteps, List.mem_append, mem_dueIf, mem_dueOf, Option.mem_toList]
  cases hc : channelOf c with
  | some ch =>
    have hother := happ (hch (by simp [hc]))
    cases c <;> cases hc <;> cases ch <;> simp [hother]
  | none =>
    cases c with
    | deferredIncidentStore ch => cases ch <;> simp [State.dueNow, happ rfl]
    | headContext | releaseContext | levelTable | channelSetup | globalSetup | report | clear | channelReset
    | forceLevel | forceEnd | unknownKind => simp [State.dueNow]
    | _ => simp_all [State.dueNow, channelOf, isApplication]

/-! ### What the rules say of each -/

theorem reaches_iff (s : State) (t : Tick) : s.reaches t ↔ atOrAfter s.now t = true := by
  rw [atOrAfter, decide_eq_true_iff]
  rfl

theorem since_iff (s : State) (t : Tick) (d : Nat) : s.since t d ↔ s.passed t d = true := by
  rw [State.passed, decide_eq_true_iff]
  rfl

theorem ownDone_iff (s : State) (r : Relay) :
    r.ownDone s.now = true ↔ s.reaches r.start ∧ s.since r.start (64 * r.goal) := by
  rw [Relay.ownDone, Bool.and_eq_true, reaches_iff, decide_eq_true_iff]
  rfl

/-- The frame whose application ends at the present tick is the engine's (R156). -/
theorem applies_iff (s : State) (k : Nat → Prop) (pick : List Word → Prop) :
    s.applies k pick ↔ ∃ e, s.applying = some e ∧ k e.kind.toNat ∧ pick e.payload := by
  unfold State.applies State.applying
  cases s.engine with
  | none => simp
  | some a =>
    simp only [Option.mem_def, Option.some.injEq, exists_eq_left', reaches_iff]
    cases s.rstnLow <;> cases atOrAfter s.now a.endTick <;> simp

/-- The number of a directive's kind (R157). -/
def Directive.number : Directive → Nat
  | .headContext => 1
  | .releaseContext => 2
  | .levelTable => 3
  | .channelSetup => 4
  | .globalSetup => 5
  | .report => 6
  | .clear => 7
  | .channelReset => 8
  | .forceLevel => 9

theorem kindOf_iff (k : BitVec 6) (d : Directive) : kindOf k = some d ↔ k.toNat = d.number := by
  unfold kindOf
  split <;> cases d <;> simp_all [Directive.number]

theorem kindOf_none_iff (k : BitVec 6) : kindOf k = none ↔ k.toNat = 0 ∨ 9 < k.toNat := by
  unfold kindOf
  split <;> simp_all
  omega

/-- The command that applies a frame goes by its kind, and a FORCE LEVEL by its payload (R157, R162). -/
theorem applicationOf_iff (e : Entry) {c : Instr} (h : isApplication c = true) : applicationOf e = c ↔ match c with
    | .headContext => e.kind.toNat = 1
    | .releaseContext => e.kind.toNat = 2
    | .levelTable => e.kind.toNat = 3
    | .channelSetup => e.kind.toNat = 4
    | .globalSetup => e.kind.toNat = 5
    | .report => e.kind.toNat = 6
    | .clear => e.kind.toNat = 7
    | .channelReset => e.kind.toNat = 8
    | .forceLevel => e.kind.toNat = 9 ∧ e.payload ≠ [0xFFFF#16]
    | .forceEnd => e.kind.toNat = 9 ∧ e.payload = [0xFFFF#16]
    | .unknownKind => e.kind.toNat = 0 ∨ 9 < e.kind.toNat
    | _ => False := by
  unfold applicationOf
  cases c with
  | headContext | releaseContext | levelTable | channelSetup | globalSetup | report | clear | channelReset
  | forceLevel | forceEnd | unknownKind =>
    cases hk : kindOf e.kind with
    | none =>
      have hn := (kindOf_none_iff _).1 hk
      simp
      omega
    | some d =>
      have hn := (kindOf_iff _ _).1 hk
      cases d <;> simp only [Directive.number] at hn <;> simp [hn, isForceEnd] <;> split <;> simp
  | _ => simp [isApplication] at h

/-- A step is due by the rules when the model finds it due (R17; log entry 2). -/
theorem isDue_iff (s : State) (c : Instr) : s.isDue c ↔ s.dueNow c = true := by
  have happlies (h : isApplication c = true) : s.isDue c ↔ s.applying.map applicationOf = some c := by
    simp only [Option.map_eq_some_iff, applicationOf_iff _ h]
    cases c <;> simp only [isApplication, Bool.false_eq_true] at h <;> simp [State.isDue, applies_iff]
  cases c with
  | headContext | releaseContext | levelTable | channelSetup | globalSetup | report | clear | channelReset
  | forceLevel | forceEnd | unknownKind => simpa [State.dueNow] using happlies rfl
  | powerOn | rstnLow | resetRelease | symbolIntake | symbolRelease | lrdyRise | lrdyFall | pfiChange | linkFrameStart
  | linkHeaderTaken | linkFrameEnd | directiveFrame => simp [State.isDue, State.dueNow]
  | writeGateRise | writeGateFall | servoGateRise | servoGateFall | readGateRise | readGateFall => 
    simp [State.isDue, State.dueNow, Filter.recognised, and_assoc]
  | release ch => exact isDue_release_iff s ch
  | tailExpiry ch =>
    simp only [State.isDue, State.dueNow, State.tailDue, since_iff]
    cases (s.chan ch).headRec <;> simp
  | readyTimeout ch =>
    simp only [State.isDue, State.dueNow, State.readyTimeoutDue, since_iff]
    cases (s.chan ch).headRec <;> cases (s.chan ch).laser.ready <;> simp
  | promotion ch h => simp [State.isDue, State.dueNow, State.promotionDue, Channel.hasRecordOf, and_assoc]
  | rampStep ch => simp [State.isDue, State.dueNow, State.rampStepDue, stepIsDue_eq, and_assoc]
  | rampComplete ch => simp [State.isDue, State.dueNow, State.rampCompleteDue, stepIsDue_eq, and_assoc]
  | parkExpiry ch => simp [State.isDue, State.dueNow, State.parkDue, and_assoc]
  | stepGrant => rfl
  | heatTick => simp [State.isDue, State.dueNow, State.heatDue]
  | prgRise ch =>
    simp only [State.isDue, State.dueNow, State.prgDue, State.elapsed, Channel.isReleasing]
    cases (s.chan ch).headRec <;> simp [and_assoc]
  | fenceTickReached ch => simp [State.isDue, State.dueNow, State.fenceDue, State.fenceReached, reaches_iff, and_assoc]
  | acquisitionAbandon ch => simp [State.isDue, State.dueNow, State.abandonDue, since_iff, and_assoc]
  | wedgeMissExpiry ch => simp [State.isDue, State.dueNow, State.missDue, reaches_iff, and_assoc]
  | rateWindowComplete ch =>
    simp only [State.isDue, State.dueNow, State.rateComplete, since_iff]
    cases (s.chan ch).rate.window <;> simp [and_assoc]
  | rateWindowAbandon ch =>
    simp only [State.isDue, State.dueNow, State.rateExpired, since_iff]
    cases (s.chan ch).rate.window <;> simp
  | catchUpComplete ch =>
    simp [State.isDue, State.dueNow, State.catchUpDue, ownDone_iff, and_assoc]
  | replayComplete ch =>
    simp [State.isDue, State.dueNow, State.replayEnds, ownDone_iff, and_assoc]
  | heldFrameReplay ch bits fall =>
    simp only [State.isDue, State.dueNow, State.replayDue, Relay.wholeHeld]
    cases (s.chan ch).relay.slot <;> simp [and_assoc]
  | waitingFrameRelease ch => simp [State.isDue, State.dueNow, State.waitingDue, and_assoc]
  | holdLimitExpiry ch =>
    simp only [State.isDue, State.dueNow, State.holdLimitDue, since_iff]
    cases (s.chan ch).relay.holdStart <;> simp [Nat.mul_comm, and_assoc]
  | waitingClearJoin ch => simp [State.isDue, State.dueNow, State.clearJoinDue, and_assoc]
  | deferredIncidentStore ch =>
    simp [State.isDue, State.dueNow, State.deferredWaits, State.deferredOf]
  | reportFrameEnd =>
    simp only [State.isDue, State.dueNow, State.reportEnds, since_iff]
    cases s.sending <;> simp [Transmission.ticks]

/-! ### A step that is not due -/

theorem applyingKind_eq_some {s : State} {d : Directive} {pick : Entry → Bool} {e : Entry}
    (h : s.applyingKind d pick = some e) : s.applying = some e ∧ kindOf e.kind = some d ∧ pick e = true := by
  unfold State.applyingKind at h
  split at h
  · next x hx =>
    split at h
    · next hp =>
      cases h
      simpa [hx] using hp
    · contradiction
  · contradiction

/-- A frame that is not of a command's kind is not applied by it (R156, R157). -/
theorem applyKind_idle {s : State} {c : Instr} (h : s.applying.map applicationOf ≠ some c) (d : Directive)
    (pick : Entry → Bool) (effect : State → Entry → State)
    (hc : ∀ e, kindOf e.kind = some d → pick e = true → applicationOf e = c) : s.applyKind d pick effect = s := by
  unfold State.applyKind
  split
  · next e he =>
    obtain ⟨ha, hk, hp⟩ := applyingKind_eq_some he
    exact absurd (by rw [ha, Option.map_some, hc e hk hp]) h
  · rfl

/-- A command of the engine changes nothing while no frame of its kind has come to its tick (log entry 1). -/
theorem exec_application_idle {s : State} {c : Instr} (hc : isApplication c = true)
    (h : s.applying.map applicationOf ≠ some c) : exec c s = .next s := by
  have idle := applyKind_idle h
  cases c with
  | headContext | releaseContext | levelTable | channelSetup | globalSetup | report | clear | channelReset =>
    exact congrArg _ (idle _ _ _ fun e hk _ => by simp [applicationOf, hk])
  | forceLevel => exact congrArg _ (idle _ _ _ fun e hk hp => by simpa [applicationOf, hk] using hp)
  | forceEnd => exact congrArg _ (idle _ _ _ fun e hk hp => by simp [applicationOf, hk, hp])
  | unknownKind =>
    refine congrArg Host.Outcome.next ?_
    split
    · next e he =>
      refine if_neg fun hk => h ?_
      have hk : kindOf e.kind = none := by simpa using hk
      simp [he, applicationOf, hk]
    · rfl
  | _ => simp [isApplication] at hc

theorem exec_deferredIncidentStore_idle {s : State} {ch : Ch} (h : s.deferredWaits ch = false) :
    exec (.deferredIncidentStore ch) s = .next s := by
  refine congrArg Host.Outcome.next ?_
  split
  · next d hd =>
    refine if_neg fun hroom => ?_
    simp [State.deferredWaits, hd, hroom] at h
  · rfl

/-- A step of the part's own that is not due changes nothing (log entry 1). -/
theorem exec_of_not_due {s : State} {c : Instr} (hc : isOwnStep c = true) (h : s.dueNow c = false) :
    exec c s = .next s := by
  cases c with
  | release | tailExpiry | promotion | readyTimeout | rampStep | stepGrant | rampComplete | heatTick | parkExpiry
  | prgRise | fenceTickReached | acquisitionAbandon | wedgeMissExpiry | rateWindowComplete | rateWindowAbandon
  | catchUpComplete | replayComplete | waitingFrameRelease | holdLimitExpiry | waitingClearJoin | reportFrameEnd =>
    exact congrArg _ (if_neg (ne_true_of_eq_false h))
  | headContext | releaseContext | levelTable | channelSetup | globalSetup | report | clear | channelReset
  | forceLevel | forceEnd | unknownKind => exact exec_application_idle rfl (by simpa [State.dueNow] using h)
  | deferredIncidentStore ch => exact exec_deferredIncidentStore_idle h
  | _ => simp [isOwnStep] at hc

/-! ### A tick -/

theorem advance_eq (r : Relay) (now : Tick) : r.advance now = { r with
    given :=
      if r.phase = .catchUp ∨ r.phase = .replay then
        if 0 ≤ (now - r.start).toInt then min r.goal (((now - r.start).toNat + 32) / 64) else 0
      else r.given } := by
  have hafter : atOrAfter now r.start = true ↔ 0 ≤ (now - r.start).toInt := decide_eq_true_iff
  unfold Relay.advance
  simp only [hafter]
  split
  · next hp => simp only [hp, true_or, if_true, ticksFrom, bitTicks]
  · next hp => simp only [hp, or_true, if_true, ticksFrom, bitTicks]
  · next hc hr => rw [if_neg (not_or.2 ⟨hc, hr⟩)]

/-- Settles O2: the steps due are the commands whose condition holds, each condition is its rule's, and every step of
the part's own is guarded by it. -/
theorem stepWithNoCommandWaiting : Obligations.StepWithNoCommandWaiting := by
  refine ⟨fun s c => ⟨?_, fun hc hd => ?_⟩, fun s hp => ⟨fun c hc => ?_, fun hn => ?_⟩⟩
  · rw [mem_dueSteps, isDue_iff]
  · rw [isDue_iff, Bool.not_eq_true] at hd
    exact exec_of_not_due hc hd
  · simp only [step, hp, hc]
  · simp only [step, hp, hn, State.tick, Channel.age, advance_eq]
    rfl

end Sys2Proof.Machine
end

section
/-! PROOFS. Settles O20, O25 and O26: the rate windows, the landings of steps, and the heat plan. -/

namespace Sys2Proof.Machine

/-! ### The rate windows (R20, R21) -/

/-- Settles O20: a window is either complete or run out, and each command is guarded by its own case. -/
theorem rateWindows : Obligations.RateWindows := by
  intro s ch w hl hw c
  have hpassed : s.passed w.start 4096 = decide (4096 ≤ c) := rfl
  refine ⟨fun hedges hc => ?_, fun hc => ?_⟩
  · have hdue : s.rateComplete ch = true := by
      simp [State.rateComplete, hw, hl, hedges, hpassed, Nat.not_le.2 hc]
    refine congrArg Host.Outcome.next ?_
    rw [if_pos hdue]
    exact onChan_congr s ch (by rw [hw]; rfl)
  · have hdue : s.rateExpired ch = true := by simp [State.rateExpired, hw, hl, hpassed, hc]
    refine congrArg Host.Outcome.next ?_
    rw [if_pos hdue]
    rfl

/-! ### Codes kept out of the ranges (R26, R27, R83, R129) -/

/-- A code in none of the ranges is met by no search for its range. -/
theorem find?_range_eq_none (rs : List Range) (c : Nat) :
    (rs.find? fun r => r.has c) = none ↔ inRanges rs c = false := by
  simp [inRanges]

/-- The ranges that a code coming down has yet to leave: those that begin at or below it. -/
def rangesBelow (rs : List Range) (c : Nat) : Nat := rs.countP fun r => decide (r.lo ≤ c)

/-- The ranges that a code going up has yet to leave: those that end at or above it. -/
def rangesAbove (rs : List Range) (c : Nat) : Nat := rs.countP fun r => decide (c ≤ r.hi)

/-- A predicate that loses an element it held of, and gains none, holds of fewer. -/
theorem countP_lt {α : Type} {p q : α → Bool} {l : List α} (h : ∀ x ∈ l, q x = true → p x = true) {a : α} (ha : a ∈ l)
    (hp : p a = true) (hq : q a = false) : l.countP q < l.countP p := by
  obtain ⟨before, after, rfl⟩ := List.append_of_mem ha
  have hb : before.countP q ≤ before.countP p := List.countP_mono_left fun x hx => h x (by simp [hx])
  have hr : after.countP q ≤ after.countP p := List.countP_mono_left fun x hx => h x (by simp [hx])
  simp only [List.countP_append, List.countP_cons, hp, hq, if_true, Bool.false_eq_true, if_false]
  omega

/-- Coming down out of the ranges, with enough turns for those below: the code ends outside them, having passed
nothing but codes inside (R27, R83). -/
theorem escapeDown_spec {rs : List Range} (hlo : ∀ r ∈ rs, 1 ≤ r.lo) {n c : Nat} (hn : rangesBelow rs c ≤ n) :
    inRanges rs (escapeDown rs n c) = false ∧ escapeDown rs n c ≤ c ∧
      ∀ m, escapeDown rs n c < m → m ≤ c → inRanges rs m = true := by
  induction n generalizing c with
  | zero =>
    refine ⟨?_, le_rfl, fun m h1 h2 => absurd h1 (Nat.not_lt.2 h2)⟩
    have hnone : ∀ r ∈ rs, ¬ r.lo ≤ c := by simpa [rangesBelow, List.countP_eq_zero] using hn
    simp only [inRanges, List.any_eq_false, Range.has_iff]
    exact fun r hr h => hnone r hr h.1
  | succ n ih =>
    unfold escapeDown
    split
    · next hf => exact ⟨(find?_range_eq_none rs c).1 hf, le_rfl, fun m h1 h2 => absurd h1 (Nat.not_lt.2 h2)⟩
    · next r hf =>
      have hr := List.mem_of_find?_eq_some hf
      obtain ⟨hl, hh⟩ := (Range.has_iff r c).1 (by simpa using List.find?_some hf)
      have h1 := hlo r hr
      have hfewer : rangesBelow rs (r.lo - 1) < rangesBelow rs c :=
        countP_lt (by simp; omega) hr (by simpa using hl) (by simp; omega)
      obtain ⟨hout, hle, hall⟩ := ih (c := r.lo - 1) (by omega)
      refine ⟨hout, by omega, fun m hm hc => ?_⟩
      by_cases hrm : r.lo ≤ m
      · exact List.any_eq_true.2 ⟨r, hr, (Range.has_iff r m).2 ⟨hrm, by omega⟩⟩
      · exact hall m hm (by omega)

/-- Going up out of the ranges, with enough turns for those above (R26). -/
theorem escapeUp_spec {rs : List Range} {n c : Nat} (hn : rangesAbove rs c ≤ n) :
    inRanges rs (escapeUp rs n c) = false ∧ c ≤ escapeUp rs n c ∧
      ∀ m, c ≤ m → m < escapeUp rs n c → inRanges rs m = true := by
  induction n generalizing c with
  | zero =>
    refine ⟨?_, le_rfl, fun m h1 h2 => absurd h1 (Nat.not_le.2 h2)⟩
    have hnone : ∀ r ∈ rs, ¬ c ≤ r.hi := by simpa [rangesAbove, List.countP_eq_zero] using hn
    simp only [inRanges, List.any_eq_false, Range.has_iff]
    exact fun r hr h => hnone r hr h.2
  | succ n ih =>
    unfold escapeUp
    split
    · next hf => exact ⟨(find?_range_eq_none rs c).1 hf, le_rfl, fun m h1 h2 => absurd h1 (Nat.not_le.2 h2)⟩
    · next r hf =>
      have hr := List.mem_of_find?_eq_some hf
      obtain ⟨hl, hh⟩ := (Range.has_iff r c).1 (by simpa using List.find?_some hf)
      have hfewer : rangesAbove rs (r.hi + 1) < rangesAbove rs c :=
        countP_lt (by simp; omega) hr (by simpa using hh) (by simp)
      obtain ⟨hout, hle, hall⟩ := ih (c := r.hi + 1) (by omega)
      refine ⟨hout, by omega, fun m hm hc => ?_⟩
      by_cases hrm : m ≤ r.hi
      · exact List.any_eq_true.2 ⟨r, hr, (Range.has_iff r m).2 ⟨by omega, hrm⟩⟩
      · exact hall m (by omega) hc

theorem lo_pos_of_rangesOk {rs : List Range} (h : rangesOk rs) : ∀ r ∈ rs, 1 ≤ r.lo := by
  intro r hr
  have hok := h.2.1 r hr
  simp only [Range.ok, Bool.and_eq_true, decide_eq_true_eq] at hok
  exact hok.1.1

/-- A forced or clamped code below the ranges it lies in (R83, R129). -/
theorem belowRanges_toNat (rs : List Range) (c : Code) :
    (belowRanges rs c).toNat = escapeDown rs rs.length c.toNat := by
  have hle := escapeDown_le rs rs.length c.toNat
  rw [belowRanges, BitVec.toNat_ofNat]
  exact Nat.mod_eq_of_lt (by omega)

/-- The landing of an up step, toward a target outside the ranges (R26). -/
theorem nextCode_up {p : RampParams} {c t : Code} (hs : 1 ≤ p.step) (ht : clearOf p.ranges t) (h : c.toNat < t.toNat) :
    let n := nextCode p c t
    c.toNat < n.toNat ∧ n.toNat ≤ t.toNat ∧ clearOf p.ranges n ∧ min (c.toNat + p.step) t.toNat ≤ n.toNat ∧
      ∀ m, min (c.toNat + p.step) t.toNat ≤ m → m < n.toNat → inRanges p.ranges m = true := by
  intro n
  obtain ⟨hout, hle, hall⟩ := escapeUp_spec (rs := p.ranges) (n := p.ranges.length)
    (c := min (c.toNat + p.step) t.toNat) List.countP_le_length
  have hpast : escapeUp p.ranges p.ranges.length (min (c.toNat + p.step) t.toNat) ≤ t.toNat := by
    by_contra hlt
    have := hall t.toNat (by omega) (by omega)
    rw [ht] at this
    contradiction
  have hn : n.toNat = escapeUp p.ranges p.ranges.length (min (c.toNat + p.step) t.toNat) := by
    simp only [n, nextCode, if_pos h, BitVec.toNat_ofNat]
    exact Nat.mod_eq_of_lt (by omega)
  unfold clearOf
  rw [hn]
  exact ⟨by omega, hpast, hout, hle, hall⟩

/-- The landing of a down step, toward a target outside the ranges (R27). -/
theorem nextCode_down {p : RampParams} {c t : Code} (hr : rangesOk p.ranges) (hs : 1 ≤ p.step)
    (ht : clearOf p.ranges t) (h : t.toNat < c.toNat) :
    let n := nextCode p c t
    n.toNat < c.toNat ∧ t.toNat ≤ n.toNat ∧ clearOf p.ranges n ∧ n.toNat ≤ max (c.toNat - p.step) t.toNat ∧
      ∀ m, n.toNat < m → m ≤ max (c.toNat - p.step) t.toNat → inRanges p.ranges m = true := by
  intro n
  obtain ⟨hout, hle, hall⟩ := escapeDown_spec (lo_pos_of_rangesOk hr) (n := p.ranges.length)
    (c := max (c.toNat - p.step) t.toNat) List.countP_le_length
  have hpast : t.toNat ≤ escapeDown p.ranges p.ranges.length (max (c.toNat - p.step) t.toNat) := by
    by_contra hlt
    have := hall t.toNat (by omega) (by omega)
    rw [ht] at this
    contradiction
  have hn : n.toNat = escapeDown p.ranges p.ranges.length (max (c.toNat - p.step) t.toNat) := by
    simp only [n, nextCode, if_neg (Nat.not_lt.2 h.le), if_pos h, BitVec.toNat_ofNat]
    exact Nat.mod_eq_of_lt (by omega)
  unfold clearOf
  rw [hn]
  exact ⟨by omega, hpast, hout, hle, hall⟩

/-- Settles O25: a code that leaves the ranges passes none but codes inside them, so it never passes a target that lies
outside. -/
theorem stepLandings : Obligations.StepLandings := by
  refine ⟨fun rs c hr => ?_, fun p c t hr hs ht => ⟨nextCode_up hs ht, nextCode_down hr hs ht⟩⟩
  unfold clearOf
  rw [belowRanges_toNat]
  exact escapeDown_spec (lo_pos_of_rangesOk hr) List.countP_le_length

/-! ### The heat plan (R24, R29 to R31) -/

/-- The band found, counted from `k` on, is the first whose bound is at or above the period, else the last (R24). -/
theorem findBand_iff (period k i : Nat) (bs : List Band) (b : Band) : findBand period k bs = some (i, b) ↔
    ∃ d, i = k + d ∧ bs[d]? = some b ∧ (∀ j e, j < d → bs[j]? = some e → e.bound < period) ∧
      (period ≤ b.bound ∨ d + 1 = bs.length) := by
  induction k, bs using findBand.induct (period := period) with
  | case1 k => simp [findBand]
  | case2 k b' =>
    simp only [findBand, Option.some.injEq, Prod.mk.injEq]
    constructor
    · rintro ⟨rfl, rfl⟩
      exact ⟨0, rfl, rfl, fun j e hj => absurd hj (Nat.not_lt_zero j), .inr rfl⟩
    · rintro ⟨d, rfl, hd, -, -⟩
      cases d with
      | zero => exact ⟨rfl, Option.some.inj hd⟩
      | succ d => simp at hd
  | case3 k b' rest hne hle =>
    have hfound : findBand period k (b' :: rest) = some (k, b') := by
      cases rest with
      | nil => exact absurd rfl hne
      | cons b2 rest => rw [findBand, if_pos hle]; simp
    rw [hfound]
    constructor
    · rintro h
      obtain ⟨rfl, rfl⟩ : k = i ∧ b' = b := by simpa using h
      exact ⟨0, rfl, rfl, fun j e hj => absurd hj (Nat.not_lt_zero j), .inl hle⟩
    · rintro ⟨d, rfl, hd, hbefore, -⟩
      cases d with
      | zero => simpa using hd
      | succ d => exact absurd (hbefore 0 b' (Nat.succ_pos d) rfl) (Nat.not_lt.2 hle)
  | case4 k b' rest hne hlt ih =>
    have hfound : findBand period k (b' :: rest) = findBand period (k + 1) rest := by
      cases rest with
      | nil => exact absurd rfl hne
      | cons b2 rest => rw [findBand, if_neg hlt]; simp
    rw [hfound, ih]
    constructor
    · rintro ⟨d, rfl, hd, hbefore, hend⟩
      refine ⟨d + 1, by omega, hd, fun j e hj he => ?_, by simpa using hend⟩
      cases j with
      | zero =>
        obtain rfl : b' = e := by simpa using he
        omega
      | succ j => exact hbefore j e (by omega) (by simpa using he)
    · rintro ⟨d, rfl, hd, hbefore, hend⟩
      cases d with
      | zero =>
        obtain rfl : b' = b := by simpa using hd
        have : rest.length ≠ 0 := by simpa using hne
        simp only [List.length_cons] at hend
        omega
      | succ d =>
        exact ⟨d, by omega, by simpa using hd, fun j e hj he => hbefore (j + 1) e (by omega) (by simpa using he),
          by simpa using hend⟩

/-- A ramp toward a target outside the ranges goes step by step, and arrives within as many steps as there are codes
between (R26, R27). -/
theorem countSteps_path {p : RampParams} {t : Code} (hr : rangesOk p.ranges) (hs : 1 ≤ p.step) (ht : clearOf p.ranges t)
    (n : Nat) (c : Code) (hn : (c.toNat - t.toNat) + (t.toNat - c.toNat) ≤ n) :
    ∃ path : List Code, path.head? = some c ∧ path.getLast? = some t ∧ t ∉ path.dropLast ∧ path.length ≤ n + 1 ∧
      (∀ k x y, path[k]? = some x → path[k + 1]? = some y → y = nextCode p x t) ∧
      path.length = countSteps p n c t + 1 := by
  have arrived (n : Nat) : ∃ path : List Code, path.head? = some t ∧ path.getLast? = some t ∧ t ∉ path.dropLast ∧
      path.length ≤ n + 1 ∧ (∀ k x y, path[k]? = some x → path[k + 1]? = some y → y = nextCode p x t) ∧
      path.length = 1 := ⟨[t], rfl, rfl, by simp, by simp, by simp, rfl⟩
  induction n generalizing c with
  | zero =>
    obtain rfl : c = t := BitVec.eq_of_toNat_eq (by omega)
    exact arrived 0
  | succ n ih =>
    by_cases hc : c = t
    · subst hc
      simpa [countSteps] using arrived (n + 1)
    have hne : c.toNat ≠ t.toNat := fun h => hc (BitVec.eq_of_toNat_eq h)
    have hcloser : ((nextCode p c t).toNat - t.toNat) + (t.toNat - (nextCode p c t).toNat) ≤ n := by
      rcases Nat.lt_or_gt_of_ne hne with h | h
      · obtain ⟨hup, hpast, -⟩ := nextCode_up hs ht h
        omega
      · obtain ⟨hdown, hpast, -⟩ := nextCode_down hr hs ht h
        omega
    obtain ⟨path, hhead, hlast, hon, hlen, hstep, hcount⟩ := ih _ hcloser
    obtain ⟨rest, rfl⟩ := List.head?_eq_some_iff.1 hhead
    refine ⟨c :: nextCode p c t :: rest, rfl, by simpa using hlast, ?_, by simpa using hlen, ?_, ?_⟩
    · simpa [Ne.symm hc] using hon
    · intro k x y hx hy
      cases k with
      | zero => simp_all
      | succ k => exact hstep k x y (by simpa using hx) (by simpa using hy)
    · simp only [countSteps, if_neg hc, List.length_cons] at hcount ⊢
      omega

/-- The write code that the ramp down starts from (R29, R31). -/
theorem presentWriteCode_eq {x : Context} {r : RateMeter} {b : Band}
    (hv : r.valid = true → ∃ i, x.band r.p = some (i, b)) (hn : r.valid = false → x.bands.getLast? = some b) :
    presentWriteCode x r = b.code := by
  unfold presentWriteCode
  cases hr : r.valid with
  | true =>
    obtain ⟨i, hi⟩ := hv hr
    simp [hi]
  | false => simp [hn hr]

/-- Settles O26: every step of a ramp comes nearer to the target, so that 63 steps reach it. -/
theorem heatPlan : Obligations.HeatPlan := by
  refine ⟨fun x p i b => ?_, fun p c t hr hs ht => ?_, fun w margin x r b hv hn => ?_, fun w margin r => rfl⟩
  · rw [Context.band, findBand_iff]
    constructor
    · rintro ⟨d, rfl, hb, hbefore, hend⟩
      rw [Nat.add_sub_cancel_left]
      exact ⟨Nat.le_add_right 1 d, hb, hbefore, hend.imp_right (by omega)⟩
    · rintro ⟨hi, hb, hbefore, hend⟩
      exact ⟨i - 1, by omega, hb, hbefore, hend.imp_right (by omega)⟩
  · obtain ⟨path, hhead, hlast, hon, hlen, hstep, hcount⟩ := countSteps_path hr hs ht 63 c (by omega)
    exact ⟨path, hhead, hlast, hon, hlen, hstep, by rw [hcount]; rfl⟩
  · rw [← presentWriteCode_eq hv hn, Nat.add_assoc]
    rfl

end Sys2Proof.Machine
end

section
/-! PROOFS. Settles O21: the release of the head record (R32, R33, R45, R46). -/

namespace Sys2Proof.Machine

/-- The record behind a head record that leaves becomes the head record, and the input of an open record that leaves is
discarded from then on (R5, R44). -/
theorem departHead_next {s : State} {ch : Ch} {r : Rec} {rest : List Rec} (b : Bool) (is : List Incident)
    (hq : (s.chan ch).queue = r :: rest) (hp : (s.chan ch).selectedPending = none) :
    (∀ q, rest.head? = some q →
      ∃ code cold, ((s.departHead ch b is).chan ch).queue.head? = some (q.asHead code cold b)) ∧
      ((s.departHead ch b is).chan ch).intake = (s.chan ch).intake.afterCut [r] := by
  obtain ⟨code, cold, hv⟩ := departHead_view b is hp
  have hd := sansLaser_chan hv ch
  rw [chan_onChan, chan_postAll, chan_onChan] at hd
  simp only [Channel.dropHead, hq] at hd
  refine ⟨fun q hhead => ⟨code, cold, ?_⟩, ?_⟩
  · obtain ⟨behind, rfl⟩ := List.head?_eq_some_iff.1 hhead
    exact (congrArg (fun c : Channel => c.queue.head?) hd :)
  · cases rest <;> exact (congrArg Channel.intake hd :)

theorem afterCut_of_open {i : Intake} {r : Rec} (h : r.inputOpen = true) : i.afterCut [r] ≠ .storing := by
  cases i <;> simp [Intake.afterCut, Intake.discard, h]

/-- Settles O21: RELEASE is guarded by its rule; with an allowance the record is released, and with none it departs with
a FENCE_CUT. -/
theorem release : Obligations.Release := by
  refine ⟨fun s ch hno => ?_, fun s ch r rest since hold hl hq hst hcode hm hlead hready hprg hfence => ?_⟩
  · refine exec_of_not_due rfl ?_
    rw [← Bool.not_eq_true, ← isDue_iff]
    rintro ⟨hlive, hprg, hfence, r, hr, hst, hw⟩
    obtain ⟨rest, hq⟩ := List.head?_eq_some_iff.1 hr
    rcases hno with h | h | h | h
    · simp [h] at hlive
    · simp [h] at hprg
    · simp [h] at hfence
    · exact (h r rest hq).elim (fun h => h hst) fun h => h hw
  · intro ahead n
    have hw : s.writeReady ch r = true := by
      have hmode : (!(s.chan ch).readyMode r || (s.chan ch).lrdy) = true := by
        cases hr : (s.chan ch).readyMode r with
        | true => simp [hready hr]
        | false => rfl
      simp [State.writeReady, hst, hcode, hm, State.elapsed, hlead, hmode]
    have hdue : s.releaseDue ch = true := by
      simp [State.releaseDue, hl, hprg, hfence, Channel.headRec, hq, hst, hw]
    have hexec : exec (.release ch) s = .next (s.releaseHead ch) := congrArg _ (if_pos hdue)
    have hn : s.allowanceNow ch = n := allowanceNow_eq s ch
    rw [hexec, ← hn]
    refine ⟨fun h0 => ?_, fun h0 hp => ?_⟩
    · rw [releaseHead_releases hq h0]
      rfl
    · rw [releaseHead_cuts hq h0]
      let i := r.incident ch .fenceCut 0
      obtain ⟨-, hpwg, -, hline, hlen, htail⟩ := departHead_chan false [i] hq hp
      obtain ⟨hnext, hintake⟩ := departHead_next false [i] hq hp
      refine ⟨_, rfl, hpwg, hline, hlen, htail, fun q hhead => ?_,
        departHead_headChanges false [i] (by simp [hq]) hp, fun hopen => ?_, departHead_incidents false i hp⟩
      · obtain ⟨code, cold, hq'⟩ := hnext q hhead
        exact ⟨_, hq', rfl, rfl, rfl, rfl⟩
      · rw [hintake]
        exact afterCut_of_open hopen

end Sys2Proof.Machine
end

section
/-! PROOFS. Settles O8 and O9: the answer of admission to a rise of the write gate (R35, R38, R39, R41). -/

namespace Sys2Proof.Machine

/-! ### The checks of R39 -/

/-- A period has a band in every table that is not empty (R24). -/
theorem findBand_isSome (period i : Nat) {bs : List Band} (h : bs ≠ []) : ∃ x, findBand period i bs = some x := by
  induction bs generalizing i with
  | nil => contradiction
  | cons b bs ih =>
    cases bs with
    | nil => exact ⟨_, rfl⟩
    | cons c bs =>
      unfold findBand
      split
      · exact ⟨_, rfl⟩
      · exact ih (i + 1) (by simp)

/-- A context that a rise may use: the selected head's, loaded and with no unload pending (R39). -/
def Channel.usable (c : Channel) (h : HeadNo) (x : Context) : Prop :=
  c.relay.selected = some h ∧ c.contextOf h = some x ∧ (c.headAt h).pending ≠ .unload

/-- Checks 7 to 10 of R39, by the table. -/
theorem admitWith_cases {s : State} {ch : Ch} {h : HeadNo} {x : Context} (hb : x.bands ≠ [])
    (hu : (s.chan ch).usable h x) :
    let checks := [(!(s.chan ch).rate.valid, Reason.noRate), (((s.chan ch).headAt h).hold, .thermalHold),
      (match x.band (s.chan ch).rate.p with
        | none => false
        | some (_, b) => decide (s.ceiling < s.current b.code), .overCeiling),
      (decide (8 ≤ (s.chan ch).queue.length), .queueFull)]
    let failing := (checks.find? fun c => c.1).map fun c => c.2
    (∃ r, failing = some r ∧ s.admitWith ch h x = .error r) ∨
    (failing = none ∧ ∃ h' x' i b, (s.chan ch).usable h' x' ∧ x'.band (s.chan ch).rate.p = some (i, b) ∧
      s.admitWith ch h x = .ok { head := h', context := x', index := i, band := b }) := by
  obtain ⟨⟨i, b⟩, hband⟩ := findBand_isSome (s.chan ch).rate.p 1 hb
  change x.band (s.chan ch).rate.p = some (i, b) at hband
  unfold State.admitWith
  simp only [hband]
  cases (s.chan ch).rate.valid with
  | false => exact .inl ⟨_, rfl, rfl⟩
  | true =>
  cases ((s.chan ch).headAt h).hold with
  | true => exact .inl ⟨_, rfl, rfl⟩
  | false =>
  by_cases hc : s.ceiling < s.current b.code
  · exact .inl ⟨.overCeiling, by simp [hc], by simp [hc]⟩
  by_cases hl : 8 ≤ (s.chan ch).queue.length
  · exact .inl ⟨.queueFull, by simp [hc, hl], by simp [hc, hl]⟩
  · exact .inr ⟨by simp [hc, hl], h, x, i, b, hu, hband, by simp [hc, hl]⟩

/-- Checks 1 to 6 of R39, by the table: one of them refuses the rise, or there is a context to use and the others
follow. -/
theorem admission_cases (s : State) (ch : Ch) (hb : (s.chan ch).bandsPresent) :
    (∃ r, s.firstFailing ch = some r ∧ s.admission ch = .error r) ∨
    (s.firstFailing ch = none ∧ ∃ h x i b, (s.chan ch).usable h x ∧ x.band (s.chan ch).rate.p = some (i, b) ∧
      s.admission ch = .ok { head := h, context := x, index := i, band := b }) := by
  unfold State.firstFailing State.admission State.admissionChecks
  dsimp only
  cases s.lockedOut ch with
  | true => exact .inl ⟨_, rfl, rfl⟩
  | false =>
  cases (s.chan ch).sg.level with
  | true => exact .inl ⟨_, rfl, rfl⟩
  | false =>
  cases (s.chan ch).wedge.fence with
  | true => exact .inl ⟨_, rfl, rfl⟩
  | false =>
  cases (s.chan ch).rg.level with
  | true => exact .inl ⟨_, rfl, rfl⟩
  | false =>
  cases (s.chan ch).relay.slot.isSome with
  | true => exact .inl ⟨_, rfl, rfl⟩
  | false =>
  cases hs : (s.chan ch).relay.selected with
  | none => exact .inl ⟨_, rfl, rfl⟩
  | some h =>
  cases hx : ((s.chan ch).headAt h).active with
  | none => exact .inl ⟨.noContext, by simp [Channel.contextOf, hx], by simp only [hx]; rfl⟩
  | some x =>
  have hctx : (s.chan ch).context = some x := by simp [Channel.context, hs, Channel.contextOf, hx]
  cases hu : ((s.chan ch).headAt h).pending with
  | unload => exact .inl ⟨.noContext, by simp [Channel.contextOf, hx, hu], by simp only [hx, hu]; rfl⟩
  | none | copy =>
    have later := admitWith_cases (hb x hctx) ⟨hs, hx, by simp [hu]⟩
    simp only [Channel.contextOf, hx, hctx, hu]
    exact later

/-! ### A rise with no frame in assembly and no promotion waiting -/

theorem settleStore_quiet {s : State} {ch : Ch} (h : s.storeQuiet ch = true) : s.settleStore ch = s := by
  unfold State.storeQuiet at h
  unfold State.settleStore
  split
  · next hd hs => simp_all
  · rfl

theorem raised_storeQuiet (s : State) (ch : Ch) : (s.raised ch).storeQuiet ch = s.storeQuiet ch := by
  have hl : (s.raised ch).live ch = s.live ch := live_congr (onChan_rstnLow _ _ _) (onChan_straps _ _ _) ch
  simp only [State.storeQuiet, State.promotionDue, hl]
  simp only [State.raised, chan_onChan]
  rfl

/-- The channel in which a rise is answered that no frame and no promotion holds up: WGx high, its number taken, the
receiver's ones count 0 (R38, R150). -/
def Channel.risen (c : Channel) : Channel :=
  { c with wg := filterAt true, nextSeq := c.nextSeq + 1, recv := { c.recv with hunt := .hunting 0 } }

/-- The state in which such a rise is answered. -/
def State.risen (s : State) (ch : Ch) : State := s.onChan ch Channel.risen

theorem risen_chan (s : State) (ch : Ch) : (s.risen ch).chan ch = (s.chan ch).risen := chan_onChan _ _ _

theorem writeRise_quiet {s : State} {ch : Ch} {ones : Nat} (hh : (s.chan ch).recv.hunt = .hunting ones)
    (hq : s.storeQuiet ch = true) : s.writeRise ch = (s.risen ch).answerRise ch (s.chan ch).nextSeq := by
  have hs : (s.raised ch).settleStore ch = s.raised ch := settleStore_quiet (by rw [raised_storeQuiet, hq])
  have hr : ((s.raised ch).chan ch).recv.hunt = .hunting ones := by rw [State.raised, chan_onChan, ← hh]
  have hc : (s.raised ch).cutFrame ch (s.chan ch).nextSeq = s.risen ch := by
    unfold State.cutFrame
    rw [hr]
    exact onChan_onChan _ _ _ _
  change (if (((s.raised ch).settleStore ch).chan ch).assembling then _ else
    (((s.raised ch).settleStore ch).cutFrame ch (s.chan ch).nextSeq).answerRise ch (s.chan ch).nextSeq) = _
  rw [hs, if_neg (by simp [Channel.assembling, hr]), hc]

/-- A write-gate rise with no frame in assembly and no promotion waiting is answered in its own step. -/
theorem exec_writeGateRise_quiet {s : State} {ch : Ch} {ones : Nat} (hl : s.live ch = true)
    (hw : (s.chan ch).wg.level = false) (hh : (s.chan ch).recv.hunt = .hunting ones) (hq : s.storeQuiet ch = true) :
    exec (.writeGateRise ch) s = .next ((s.risen ch).answerRise ch (s.chan ch).nextSeq) := by
  rw [← writeRise_quiet hh hq]
  simp [exec, execWriteGateRise, hl, hw]

/-- The checks of R39 read nothing that the rise itself has changed. -/
theorem risen_firstFailing (s : State) (ch : Ch) : (s.risen ch).firstFailing ch = s.firstFailing ch := by
  simp only [State.firstFailing, State.admissionChecks, risen_chan]
  simp only [State.lockedOut, State.current, State.risen, onChan_incidents, onChan_deferred, onChan_ceiling,
    onChan_levels]
  rfl

theorem risen_bandsPresent {s : State} {ch : Ch} (h : (s.chan ch).bandsPresent) : ((s.risen ch).chan ch).bandsPresent := by
  rw [risen_chan]
  exact h

/-- Settles O8. -/
theorem refusedRise : Obligations.RefusedRise := by
  intro s ch r ones hl hw hh hq hb hfail
  rw [exec_writeGateRise_quiet hl hw hh hq]
  have ha : (s.risen ch).admission ch = .error r := by
    rcases admission_cases (s.risen ch) ch (risen_bandsPresent hb) with ⟨e, he, ha⟩ | ⟨hn, -⟩
    · rw [risen_firstFailing, hfail] at he
      rw [ha, Option.some.inj he]
    · simp [risen_firstFailing, hfail] at hn
  have hi : Machine.incident .refused ch ((s.risen ch).selected ch) (some (s.chan ch).nextSeq) r.value =
      { kind := .refused, ch := ch, head := (s.chan ch).relay.selected, burst := some (s.chan ch).nextSeq
        detail := r.value } := by
    rw [State.selected, risen_chan]
    cases r <;> rfl
  unfold State.answerRise
  rw [ha]
  dsimp only
  rw [hi, State.risen, onChan_onChan]
  rfl

/-! ### A record joins the queue (R41) -/

theorem enqueue_first {s : State} {ch : Ch} (r : Rec) (hq : (s.chan ch).queue = []) :
    s.enqueue ch r = (s.onChan ch fun c => { c with queue := [r] }).becomeHead ch false := by
  unfold State.enqueue
  simp only [Channel.headRec, hq, List.head?_nil]
  refine congrArg (fun u : State => u.becomeHead ch false) (onChan_congr s ch ?_)
  simp only [hq]
  rfl

theorem enqueue_behind {s : State} {ch : Ch} {q : Rec} {rest : List Rec} (r : Rec)
    (hq : (s.chan ch).queue = q :: rest) (ht : q.state ≠ .tail) :
    s.enqueue ch r = s.onChan ch fun c => { c with queue := c.queue ++ [r] } := by
  simp [State.enqueue, Channel.headRec, hq, ht]

theorem enqueue_tail {s : State} {ch : Ch} {q : Rec} {rest : List Rec} (r : Rec)
    (hq : (s.chan ch).queue = q :: rest) (ht : q.state = .tail) : s.enqueue ch r =
      (s.onChan ch fun c => { c.dropHead with queue := c.dropHead.queue ++ [r] }).becomeHead ch true := by
  simp [State.enqueue, Channel.headRec, hq, ht]

theorem startReady_marks (s : State) (ch : Ch) :
    ((s.startReady ch).chan ch).laser.force = (s.chan ch).laser.force ∧
      ((s.startReady ch).chan ch).laser.park = (s.chan ch).laser.park ∧
      ((s.startReady ch).chan ch).laser.target = (s.chan ch).laser.target := by
  by_cases h : (s.chan ch).startsReady
  · rw [startReady_pos h, chan_onChan]
    exact ⟨rfl, rfl, rfl⟩
  · rw [startReady_neg h]
    exact ⟨rfl, rfl, rfl⟩

/-- A record that becomes the head record clears the park condition and leaves the force (R77, R83). -/
theorem becomeHead_marks {s : State} {ch : Ch} (b : Bool) (hq : (s.chan ch).queue ≠ []) :
    ((s.becomeHead ch b).chan ch).laser.force = (s.chan ch).laser.force ∧
      ((s.becomeHead ch b).chan ch).laser.park = false := by
  unfold State.becomeHead
  dsimp only
  split
  · contradiction
  · simp [startReady_marks, retarget_target]

/-- The head record of a channel decides the target unless the channel is in LOCKOUT or forced (R62). -/
theorem firstTarget_record {s : State} {ch : Ch} {r : Rec} {rest : List Rec} (hl : s.lockedOut ch = false)
    (hf : (s.chan ch).laser.force = none) (hq : (s.chan ch).queue = r :: rest) : s.firstTarget ch = r.writeCode := by
  simp [State.firstTarget, State.targetCases, hl, hf, hq]

theorem lockedOut_of_firstFailing {s : State} {ch : Ch} (h : s.firstFailing ch = none) : s.lockedOut ch = false := by
  cases hl : s.lockedOut ch with
  | false => rfl
  | true => simp [State.firstFailing, State.admissionChecks, hl] at h

theorem lockedOut_congr {s t : State} (hi : t.incidents = s.incidents) (hd : t.deferred = s.deferred) (ch : Ch) :
    t.lockedOut ch = s.lockedOut ch := by
  simp only [State.lockedOut, hi, hd]

/-- The channel in which an admitted record joins the queue: the rise taken, the intake STORING (R5, R41). -/
def Channel.admitted (c : Channel) : Channel := { c.risen with intake := .storing }

/-- A rise that fails no check is admitted with the band of the present P (R35, R38, R39). -/
theorem exec_writeGateRise_admitted {s : State} {ch : Ch} {ones : Nat} {h : HeadNo} {x : Context} {i : Nat} {b : Band}
    (hl : s.live ch = true) (hw : (s.chan ch).wg.level = false) (hh : (s.chan ch).recv.hunt = .hunting ones)
    (hq : s.storeQuiet ch = true) (hb : (s.chan ch).bandsPresent) (hfail : s.firstFailing ch = none)
    (hs : (s.chan ch).relay.selected = some h) (hx : (s.chan ch).contextOf h = some x)
    (hband : x.band (s.chan ch).rate.p = some (i, b)) : exec (.writeGateRise ch) s =
      .next ((s.onChan ch Channel.admitted).enqueue ch (recordOf (s.chan ch).nextSeq h x i b)) := by
  rw [exec_writeGateRise_quiet hl hw hh hq]
  rcases admission_cases (s.risen ch) ch (risen_bandsPresent hb) with ⟨e, he, -⟩ | ⟨-, h', x', i', b', hu, hb', ha⟩
  · simp [risen_firstFailing, hfail] at he
  · rw [risen_chan] at hu hb'
    obtain ⟨hs', hx', -⟩ := hu
    obtain rfl : h = h' := Option.some.inj (hs.symm.trans hs')
    obtain rfl : x = x' := Option.some.inj (hx.symm.trans hx')
    obtain ⟨rfl, rfl⟩ : i = i' ∧ b = b' := by simpa using hband.symm.trans hb'
    unfold State.answerRise
    rw [ha, State.risen]
    dsimp only
    rw [onChan_onChan]
    rfl

theorem coldLeadOf_congr {c d : Channel} (h : d.heads = c.heads) (r : Rec) : d.coldLeadOf r = c.coldLeadOf r := by
  simp only [Channel.coldLeadOf, contextOf_congr h]

/-- The oldest record becomes the head record behind a change `f` of the channel that leaves the code, its target, its
motion and the heads: the view is that of `f` with the record seated, and the code meets its target (R44, R77). -/
theorem becomeHead_behind {s : State} {ch : Ch} {f : Channel → Channel} {r : Rec} {rest : List Rec} (b : Bool)
    (hq : (f (s.chan ch)).queue = r :: rest) (hh : (f (s.chan ch)).heads = (s.chan ch).heads)
    (hs : State.SameStart ch s (s.onChan ch f)) :
    let t := (s.onChan ch f).becomeHead ch b
    t.sansLaser = (s.onChan ch fun c =>
      { f c with queue := r.asHead (s.chan ch).laser.code ((s.chan ch).coldLeadOf r) b :: rest }).sansLaser ∧
      (t.chan ch).laser.force = (f (s.chan ch)).laser.force ∧ (t.chan ch).laser.park = false ∧ s.headChanges t ch := by
  have hc : (s.onChan ch f).chan ch = f (s.chan ch) := chan_onChan _ _ _
  have hwq : ((s.onChan ch f).chan ch).queue = r :: rest := by rw [hc, hq]
  have hne : ((s.onChan ch f).chan ch).queue ≠ [] := by rw [hwq]; exact List.cons_ne_nil r rest
  obtain ⟨hforce, hpark⟩ := becomeHead_marks b hne
  refine ⟨?_, by rw [hforce, hc], hpark, (becomeHead_headChanges b hne).congr hs (.refl ch _) rfl⟩
  rw [becomeHead_sansLaser _ ch b r rest hwq, hs.code, hc, coldLeadOf_congr hh, onChan_onChan]

/-- The channel as an admitted record ends the tail of the head record (R41). -/
def Channel.admittedBehindTail (c : Channel) (r : Rec) : Channel :=
  { c.admitted.dropHead with queue := c.admitted.dropHead.queue ++ [r] }

theorem admittedBehindTail_eq {c : Channel} {q : Rec} {rest : List Rec} (r : Rec) (hq : c.queue = q :: rest)
    (ho : q.inputOpen = false) : c.admittedBehindTail r =
      { c.admitted with
        queue := rest ++ [r], line := c.line.drop q.run, laser := { c.laser with ready := none } } := by
  have hcut : Intake.storing.afterCut [q] = .storing := by simp [Intake.afterCut, ho]
  unfold Channel.admittedBehindTail Channel.dropHead Channel.admitted Channel.risen
  simp only [hq, hcut]

/-- Settles O9. -/
theorem admittedRise : Obligations.AdmittedRise := by
  intro s ch ones h x i b hl hw hh hq hb hfail hs hx hband r asHead cold joined
  have hc : (s.onChan ch Channel.admitted).chan ch = (s.chan ch).admitted := chan_onChan _ _ _
  refine ⟨_, exec_writeGateRise_admitted hl hw hh hq hb hfail hs hx hband, fun hqueue => ?_, fun q rest hqueue ht => ?_,
    fun q next rest hqueue ht hopen hnext => ?_⟩
  · rw [enqueue_first r (by rw [hc]; exact hqueue), onChan_onChan]
    obtain ⟨hv, hforce, hpark, hhead⟩ := becomeHead_behind (s := s) (ch := ch) (r := r) (rest := [])
      (f := fun c => { c.admitted with queue := [r] }) false rfl rfl (sameStart_onChan s ch _ rfl rfl rfl)
    have hcold : (s.chan ch).coldLeadOf r = x.coldLead := by
      have hr : (s.chan ch).contextOf r.head = some x := hx
      simp [Channel.coldLeadOf, hr]
    rw [hcold] at hv
    refine ⟨hv.trans (congrArg State.sansLaser (onChan_congr s ch rfl)), hpark, hhead, fun hf => ?_⟩
    have hlock := (lockedOut_congr (sansLaser_incidents hv) (sansLaser_deferred hv) ch).trans
      ((lockedOut_congr (onChan_incidents _ _ _) (onChan_deferred _ _ _) ch).trans (lockedOut_of_firstFailing hfail))
    have hqueue' := (sansLaser_chan_queue hv ch).trans (by rw [chan_onChan])
    exact hhead.1.trans (firstTarget_record hlock (hforce.trans hf) hqueue')
  · rw [enqueue_behind r (by rw [hc]; exact hqueue) ht, onChan_onChan]
    exact ⟨congrArg State.sansLaser (onChan_congr s ch rfl), by rw [chan_onChan]; rfl⟩
  · have hd := admittedBehindTail_eq r hqueue hopen
    rw [enqueue_tail r (by rw [hc]; exact hqueue) ht, onChan_onChan]
    obtain ⟨hv, -, hpark, hhead⟩ := becomeHead_behind (s := s) (ch := ch) (r := next) (rest := (rest ++ [r]).tail)
      (f := fun c => c.admittedBehindTail r) true (by rw [hd]; exact hnext) (by rw [hd]; rfl)
      (sameStart_onChan s ch _ (by rw [hd]) (by rw [hd]) (by rw [hd]))
    refine ⟨hv.trans (onChan_sansLaser_congr s ch ?_), hpark, hhead⟩
    rw [hd]
    rfl

end Sys2Proof.Machine
end

section
/-! PROOFS. Settles O17: the last symbols of a record (R44, R48 to R50). -/

namespace Sys2Proof.Machine

/-! ### The head record retires with another behind it -/

/-- A run that ends with a closed record, or with the intake not STORING, leaves the intake as it is (R5). -/
theorem afterCut_of_idle {i : Intake} {r : Rec} (h : r.inputOpen = false ∨ i ≠ .storing) : i.afterCut [r] = i := by
  rcases h with h | h
  · simp [Intake.afterCut, h]
  · cases i <;> simp_all [Intake.afterCut, Intake.discard]

/-- The head record retires and the record behind it is seated: nothing else changes beside the laser, whose code meets
the new target (R36, R44). -/
theorem departHead_seated {s : State} {ch : Ch} {r q : Rec} {more : List Rec} (b : Bool)
    (hq : (s.chan ch).queue = r :: q :: more) :
    (s.departHead ch b []).sansLaser = (s.onChan ch fun c =>
      { c with
        queue := q.asHead (s.chan ch).laser.code ((s.chan ch).coldLeadOf q) b :: more
        line := c.line.drop r.run, intake := c.intake.afterCut [r] }).sansLaser ∧
      s.headChanges (s.departHead ch b []) ch := by
  have hl := dropHead_laser (s.chan ch) (by rw [hq]; exact List.cons_ne_nil r _)
  have hd : s.departHead ch b [] = (s.onChan ch Channel.dropHead).becomeHead ch b := by
    rcases departHead_cases s ch b [] with ⟨ht, -⟩ | ⟨-, e⟩
    · simp [hq] at ht
    · exact e
  obtain ⟨hv, -, -, hhead⟩ := becomeHead_behind (f := Channel.dropHead) (r := q) (rest := more) b
    (by rw [dropHead_queue, hq]; rfl) (dropHead_heads _)
    (sameStart_onChan s ch _ (by rw [hl]) (by rw [hl]) (by rw [hl]))
  rw [hd]
  refine ⟨hv.trans (onChan_sansLaser_congr s ch ?_), hhead⟩
  simp only [Channel.dropHead, hq]
  rfl

/-! ### The last symbol -/

/-- The channel as the head record `r` sends its last symbol `x`: PWGx is to fall at the next edge (R49, R50). -/
def Channel.lastSent (c : Channel) (r : Rec) (rest : List Rec) (x : Symbol) (line : List Symbol) : Channel :=
  { c with
    releaseTaken := true, pwd := x.value, pwg := true, pwgFallDue := true, line := line
    queue := { r with symOut := min 1048575 (r.symOut + 1), run := 0 } :: rest }

/-- The last symbol of a closed record leaves: the record enters TAIL when it is alone, else it retires (R49, R50). -/
theorem releaseEdge_last {s : State} {ch : Ch} {r : Rec} {rest : List Rec} {x : Symbol} {line : List Symbol}
    (hfall : (s.chan ch).pwgFallDue = false) (hq : (s.chan ch).queue = r :: rest) (hline : (s.chan ch).line = x :: line)
    (hst : r.state = .releasing) (hrun : r.run = 1) (ho : r.inputOpen = false) (hw : s.mayWrite ch r) :
    let u := s.onChan ch fun c => c.lastSent r rest x line
    s.releaseEdge ch = if rest = [] then u.onChan ch fun c => c.onHead fun r => r.enterTail s.now
      else u.departHead ch true [] := by
  intro u
  have hs : s.sendingRec ch = some r := (sendingRec_iff s ch r).2 ⟨by simp [Channel.headRec, hq], hst, by omega, hw⟩
  have hend : (r.sendOne.run == 0 && !r.sendOne.inputOpen) = true := by simp [Rec.sendOne, hrun, ho]
  let v := (s.edgeTaken ch).onChan ch fun c => { c.onHead Rec.sendOne with line := line, pwd := x.value, pwg := true }
  have hu : (v.onChan ch fun c => { c with pwgFallDue := true }) = u := by
    simp only [v, State.edgeTaken, onChan_onChan]
    refine onChan_congr s ch ?_
    simp only [Channel.onHead, hq, Rec.sendOne, hrun]
    rfl
  have hlen : (v.chan ch).queue.length = rest.length + 1 := by
    simp only [v, chan_onChan, edgeTaken_chan, onHead_queue, hq, List.length_cons]
  have hnow : v.now = s.now := (onChan_now _ _ _).trans (edgeTaken_now s ch)
  have hsend : (s.edgeTaken ch).sendSymbol ch r = v.normalEnd ch := by
    unfold State.sendSymbol State.afterSymbol
    rw [edgeTaken_chan]
    simp only [hline, hend, if_true]
    rfl
  rw [releaseEdge_some hfall hs, hsend]
  change (if 2 ≤ (v.chan ch).queue.length then (v.onChan ch fun c => { c with pwgFallDue := true }).departHead ch true []
    else (v.onChan ch fun c => { c with pwgFallDue := true }).onChan ch fun c => c.onHead fun r => r.enterTail v.now) = _
  rw [hu, hlen, hnow]
  cases rest with
  | nil => rfl
  | cons q more => simp

/-- The symbol that reaches the allowance with symbols left or the input open truncates the record (R48). -/
theorem releaseEdge_truncates {s : State} {ch : Ch} {r : Rec} {rest : List Rec} {x : Symbol} {line : List Symbol}
    (hfall : (s.chan ch).pwgFallDue = false) (hq : (s.chan ch).queue = r :: rest) (hline : (s.chan ch).line = x :: line)
    (hst : r.state = .releasing) (hrun : 1 ≤ r.run) (hw : s.mayWrite ch r) (hmore : 2 ≤ r.run ∨ r.inputOpen = true)
    (ha : r.allowance = some (min 1048575 (r.symOut + 1))) :
    s.releaseEdge ch = (s.onChan ch fun c =>
      { c with
        releaseTaken := true, pwd := x.value, pwg := true, pwgFallDue := true, line := line.drop (r.run - 1)
        intake := c.intake.afterCut [r], queue := r.sendOne.truncate.enterTail s.now :: rest }).post
      (r.incident ch .truncated (min 1048575 (r.symOut + 1))) := by
  have hs : s.sendingRec ch = some r := (sendingRec_iff s ch r).2 ⟨by simp [Channel.headRec, hq], hst, hrun, hw⟩
  have hend : (r.sendOne.run == 0 && !r.sendOne.inputOpen) = false := by
    rcases hmore with h | h
    · have : ¬ r.run - 1 = 0 := by omega
      simp [Rec.sendOne, this]
    · simp [Rec.sendOne, h]
  have hallow : (r.sendOne.allowance == some r.sendOne.symOut) = true := beq_iff_eq.2 ha
  rw [releaseEdge_some hfall hs]
  unfold State.sendSymbol State.afterSymbol State.truncateHead
  rw [edgeTaken_chan]
  simp only [hline, hend, hallow, if_true, Bool.false_eq_true, if_false, onChan_onChan, State.edgeTaken, onChan_now]
  refine congrArg (fun u : State => u.post (r.incident ch .truncated (min 1048575 (r.symOut + 1)))) (onChan_congr s ch ?_)
  simp only [Channel.onHead, hq]
  rfl

/-- Settles O17. -/
theorem lastSymbols : Obligations.LastSymbols := by
  refine ⟨fun s ch r rest x line hl ht hquiet hfall hq hline hst hrun ho hw => ?_,
    fun s ch r rest x line hl ht hquiet hfall hq hline hst hrun hw hmore ha => ?_⟩
  · intro sent edge
    rw [exec_symbolRelease_quiet hl ht hquiet, releaseEdge_last hfall hq hline hst hrun ho hw]
    let u := s.onChan ch fun c => c.lastSent r rest x line
    have hu : u.chan ch = (s.chan ch).lastSent r rest x line := chan_onChan _ _ _
    refine ⟨fun hnil => ?_, fun q more hrest => ?_⟩
    · rw [if_pos hnil, onChan_onChan, hnil]
      rfl
    · subst hrest
      rw [if_neg (List.cons_ne_nil q more)]
      obtain ⟨hv, hhead⟩ :=
        departHead_seated (s := u) (ch := ch) (r := sent) (q := q) (more := more) true (by rw [hu]; rfl)
      refine ⟨_, rfl, hv.trans ?_, hhead.congr (sameStart_onChan s ch _ rfl rfl rfl) (.refl ch _) rfl⟩
      have hcut (i : Intake) : i.afterCut [sent] = i := afterCut_of_idle (.inl ho)
      simp only [hcut, hu, u, onChan_onChan]
      rfl
  · intro out
    rw [exec_symbolRelease_quiet hl ht hquiet, releaseEdge_truncates hfall hq hline hst hrun hw hmore ha]
    have hi (i : Intake) : i.afterCut [r] = if r.inputOpen = true ∧ i = .storing then .discarding else i := by
      cases ho : r.inputOpen <;> simp [Intake.afterCut, ho, discard_eq]
    simp only [hi]
    rfl

end Sys2Proof.Machine
end

section
/-! PROOFS. Settles O22: the timers of the head record, and what an emptied queue carries out (R36, R44, R51, R52, R55,
R72, R132). -/

namespace Sys2Proof.Machine

/-! ### The two timers -/

theorem exec_tailExpiry_due {s : State} {ch : Ch} {r : Rec} {rest : List Rec} (hl : s.live ch = true)
    (hq : (s.chan ch).queue = r :: rest) (hst : r.state = .tail)
    (ht : (s.chan ch).tailOf r ≤ (s.now - r.tailFrom).toNat) :
    exec (.tailExpiry ch) s = .next (s.departHead ch false []) := by
  have hd : s.tailDue ch = true := by
    simp only [State.tailDue, hl, Channel.headRec, hq, List.head?_cons, hst, State.passed, ticksFrom, ht,
      beq_self_eq_true, decide_true, Bool.and_self]
  simp [exec, execTailExpiry, hd]

theorem exec_readyTimeout_due {s : State} {ch : Ch} {r : Rec} {rest : List Rec} {t : Tick} (hl : s.live ch = true)
    (hq : (s.chan ch).queue = r :: rest) (hst : r.state = .preparing) (hr : (s.chan ch).laser.ready = some t)
    (ht : (s.chan ch).readyTimeoutOf r ≤ (s.now - t).toNat) :
    exec (.readyTimeout ch) s = .next (s.departHead ch false [r.incident ch .readyTimeout 0]) := by
  have hd : s.readyTimeoutDue ch = true := by
    simp only [State.readyTimeoutDue, hl, Channel.headRec, hq, List.head?_cons, hst, hr, State.passed, ticksFrom, ht,
      beq_self_eq_true, decide_true, Bool.and_self]
  have hi : (s.chan ch).timeoutIncidents ch = [r.incident ch .readyTimeout 0] := by
    simp [Channel.timeoutIncidents, Channel.headRec, hq]
  simp [exec, execReadyTimeout, hd, hi]

/-- The last record retires with its run sent, and no promotion waits: the queue is empty, and nothing else changes beside
the laser (R36, R51). -/
theorem departHead_last {s : State} {ch : Ch} {r : Rec} (b : Bool) (hq : (s.chan ch).queue = [r])
    (hp : (s.chan ch).selectedPending = none) : (s.departHead ch b []).sansLaser = (s.onChan ch fun c =>
      { c with queue := [], line := c.line.drop r.run, intake := c.intake.afterCut [r] }).sansLaser := by
  obtain ⟨code, cold, hv⟩ := departHead_view b [] hp
  refine hv.trans ((congrArg State.sansLaser (onChan_onChan s ch _ _)).trans (onChan_sansLaser_congr s ch ?_))
  simp only [Channel.dropHead, hq]
  rfl

/-! ### What an unload leaves of the code -/

/-- The code has been set to 0 at the present tick, and the next step is not due before the tick is over (R69). -/
def State.zeroHeld (s : State) (ch : Ch) : Prop :=
  (s.chan ch).laser.code = 0 ∧ (s.chan ch).laser.motion.since = stampAt s.now ∧ 1 ≤ (s.chan ch).laser.motion.wait

theorem zeroHeld_not_due {s : State} {ch : Ch} (h : s.zeroHeld ch) : s.stepIsDue ch = false := by
  obtain ⟨-, hs, hw⟩ := h
  have hz : ticksFrom s.now s.now = 0 := by simp [ticksFrom]
  rw [stepIsDue_eq, hs]
  simp [Stamp.elapsed, stampAt, hz, Nat.one_le_iff_ne_zero.1 hw]

theorem turn_since_wait (m : Motion) (b : Bool) : (m.turn b).since = m.since ∧ (m.turn b).wait = m.wait := by
  cases b with
  | false => rw [turn_false]; exact ⟨rfl, rfl⟩
  | true =>
    rw [turn_true]
    split <;> exact ⟨rfl, rfl⟩

/-- A recomputation of the target takes no step before the hold at 0 is over (R64, R69). -/
theorem retarget_zeroHeld {s : State} {ch : Ch} (h : s.zeroHeld ch) : (s.retarget ch).zeroHeld ch := by
  obtain ⟨hc, hs, hw⟩ := h
  have hnow : (s.retarget ch).now = s.now := sansLaser_now (retarget_sansLaser s ch)
  by_cases ht : s.firstTarget ch = (s.chan ch).laser.target
  · have l := retarget_same ht
    exact ⟨l.code.trans hc, by rw [l.motion, hs, hnow], by rw [l.motion]; exact hw⟩
  · have l := retarget_turns ht (.inr (zeroHeld_not_due ⟨hc, hs, hw⟩))
    obtain ⟨e, e'⟩ := turn_since_wait (s.chan ch).laser.motion ((s.chan ch).laser.code == s.firstTarget ch)
    exact ⟨l.code.trans hc, by rw [l.motion, e, hs, hnow], by rw [l.motion, e']; exact hw⟩

theorem directZero_zeroHeld {s : State} {ch : Ch} (h : (s.chan ch).context = none) : (s.directZero ch).zeroHeld ch := by
  have hl := directZero_eq s ch
  have hnow : (s.directZero ch).now = s.now := sansLaser_now (directZero_sansLaser s ch)
  refine ⟨by rw [hl], by rw [hl, hnow]; rfl, ?_⟩
  rw [hl]
  exact one_le_dwell fun x hx => by rw [h] at hx; contradiction

theorem postAll_now (is : List Incident) (s : State) : (s.postAll is).now = s.now := (postAll_settles is s).now

/-- A new F, and the window that it opens, move the code no more than the target does (R96, R97). -/
theorem refenceEmpty_zeroHeld {s : State} {ch : Ch} (h : s.zeroHeld ch) : (s.refenceEmpty ch).zeroHeld ch := by
  have hf : (s.computeFence ch).zeroHeld ch := by
    unfold State.zeroHeld State.computeFence
    rw [chan_onChan, onChan_now]
    exact h
  have hb : ((s.computeFence ch).beginFence ch).zeroHeld ch := by
    unfold State.zeroHeld
    rw [beginFence_chan, (beginFence_settles _ ch).now]
    exact hf
  unfold State.refenceEmpty
  dsimp only
  split
  · split
    · exact retarget_zeroHeld hb
    · exact hf
  · exact h

/-! ### What a promotion does to the heads -/

/-- A head once its pending copy, or its pending unload, has been carried out (R118, R132). -/
def Head.promoted (hd : Head) : Head :=
  match hd.pending with
  | .none => hd
  | .copy x => { hd with active := some x, pending := .none, hold := holdAfter x hd.accum hd.hold }
  | .unload => { hd with active := none, pending := .none, hold := false }

theorem promoted_pending (hd : Head) : hd.promoted.pending = .none := by
  unfold Head.promoted
  split
  · assumption
  · rfl
  · rfl

theorem raiseFault_heads (s : State) (i : Incident) : ((s.raiseFault i).chan i.ch).heads = (s.chan i.ch).heads := by
  unfold State.raiseFault
  dsimp only
  split
  · rw [chan_post]
  · exact (congrArg Channel.heads (enterLockout_sansLaser (s.post i) i.ch) :).trans
      (congrArg Channel.heads (chan_post s i i.ch) :)

/-- An evaluation changes the hold flag of its head alone, whether the head trips or not (R115, R118). -/
theorem evaluate_heads {s : State} {ch : Ch} {h : HeadNo} {x : Context} (hx : ((s.chan ch).headAt h).active = some x) :
    ((s.evaluate ch h).chan ch).heads = (s.chan ch).heads.set h.toNat { (s.chan ch).headAt h with
      hold := holdAfter x ((s.chan ch).headAt h).accum ((s.chan ch).headAt h).hold } := by
  rcases evaluate_cases s ch h with ⟨hn, -⟩ | ⟨y, hy, ⟨-, -, e⟩ | ⟨-, e⟩⟩
  · rw [hx] at hn
    contradiction
  all_goals
    obtain rfl : x = y := Option.some.inj (hx.symm.trans hy)
    rw [e]
  · refine (raiseFault_heads _ (State.tripIncident _ ch h)).trans ?_
    exact congrArg Channel.heads (chan_onChan _ _ _)
  · exact congrArg Channel.heads (chan_onChan _ _ _)

theorem headAt_set {l : List Head} (hl : l.length = 8) (h : HeadNo) (x : Head) :
    (l.set h.toNat x).getD h.toNat (initialHead 0) = x := by
  have := h.isLt
  rw [List.getD_eq_getElem _ _ (by rw [List.length_set]; omega), List.getElem_set_self]

theorem headAt_set_other {l : List Head} {g h : HeadNo} (hg : g ≠ h) (x : Head) :
    (l.set h.toNat x).getD g.toNat (initialHead 0) = l.getD g.toNat (initialHead 0) := by
  have hne : h.toNat ≠ g.toNat := fun e => hg (BitVec.eq_of_toNat_eq e.symm)
  rw [List.getD_eq_getElem?_getD, List.getD_eq_getElem?_getD, List.getElem?_set_ne hne]

theorem refenceEmpty_heads (s : State) (ch : Ch) : ((s.refenceEmpty ch).chan ch).heads = (s.chan ch).heads := by
  have hf : ((s.computeFence ch).chan ch).heads = (s.chan ch).heads := by rw [State.computeFence, chan_onChan]
  unfold State.refenceEmpty
  dsimp only
  split
  · split
    · rw [sansLaser_chan_heads (retarget_sansLaser _ _), beginFence_chan]
      exact hf
    · exact hf
  · rfl

theorem promoteLaser_sansLaser (s : State) (ch : Ch) (x : Context) : (s.promoteLaser ch x).sansLaser = s.sansLaser := by
  unfold State.promoteLaser
  dsimp only
  split
  · exact (retarget_sansLaser _ _).trans (directZero_sansLaser _ _)
  · split
    · have h := (retarget_sansLaser (s.onChan ch fun c => { c with laser :=
        { c.laser with motion := c.laser.motion.turn false } }) ch).trans (onChan_laser_sansLaser s ch _ fun _ => rfl)
      split
      · exact (takeStep_sansLaser _ _).trans h
      · exact h
    · exact retarget_sansLaser _ _

/-- A promotion changes its own head alone, as R132 and R118 say. -/
theorem promote_heads {s : State} {ch : Ch} {h : HeadNo} (hl : (s.chan ch).heads.length = 8)
    (hp : ((s.chan ch).headAt h).pending ≠ .none) :
    ((s.promote ch h).chan ch).heads = (s.chan ch).heads.set h.toNat ((s.chan ch).headAt h).promoted := by
  unfold State.promote
  dsimp only
  split
  · contradiction
  · next x hx =>
    let s1 := s.onChan ch fun c => c.setHead h { (s.chan ch).headAt h with active := some x, pending := .none }
    have h1 : (s1.chan ch).heads =
        (s.chan ch).heads.set h.toNat { (s.chan ch).headAt h with active := some x, pending := .none } :=
      congrArg Channel.heads (chan_onChan _ _ _)
    have hat : (s1.chan ch).headAt h = { (s.chan ch).headAt h with active := some x, pending := .none } := by
      rw [Channel.headAt, h1, headAt_set hl]
    have he : ((s1.evaluate ch h).chan ch).heads = (s.chan ch).heads.set h.toNat ((s.chan ch).headAt h).promoted := by
      rw [evaluate_heads (x := x) (by rw [hat]), hat, h1, List.set_set]
      simp [Head.promoted, hx]
    split
    · rw [refenceEmpty_heads, sansLaser_chan_heads (promoteLaser_sansLaser _ _ _)]
      exact he
    · exact he
  · next hx =>
    have hu : ((s.onChan ch fun c => c.setHead h
        { (s.chan ch).headAt h with active := none, pending := .none, hold := false }).chan ch).heads =
        (s.chan ch).heads.set h.toNat ((s.chan ch).headAt h).promoted := by
      rw [chan_onChan]
      simp [Channel.setHead, Head.promoted, hx]
    split
    · rw [refenceEmpty_heads, sansLaser_chan_heads (retarget_sansLaser _ _),
        sansLaser_chan_heads (directZero_sansLaser _ _)]
      exact hu
    · exact hu

/-- An unload of the selected head's context sets the code to 0 and holds it there (R69, R132). -/
theorem promote_unload_zeroHeld {s : State} {ch : Ch} {h : HeadNo} (hl : (s.chan ch).heads.length = 8)
    (hs : (s.chan ch).relay.selected = some h) (hp : ((s.chan ch).headAt h).pending = .unload) :
    (s.promote ch h).zeroHeld ch := by
  unfold State.promote
  simp only [hp, hs, beq_self_eq_true, if_true]
  refine refenceEmpty_zeroHeld (retarget_zeroHeld (directZero_zeroHeld ?_))
  rw [chan_onChan]
  simp only [Channel.context, hs, Option.bind_some, Channel.contextOf, Channel.headAt, Channel.setHead,
    headAt_set hl]

/-- What settles fills no empty queue. -/
theorem quiets_queue_nil {c d : Channel} (h : Relation.ReflTransGen Channel.Quiet c d) (hq : c.queue = []) :
    d.queue = [] := by
  induction h with
  | refl => exact hq
  | tail _ h ih =>
    cases h with
    | same h _ => rw [(gear_ext h).2.1, ih]
    | clear => rfl
    | fence => simp [Channel.beginFence, ih, keptAtFence]

/-! ### The queue runs empty -/

theorem exec_promotion_idle {s : State} {ch : Ch} {h : HeadNo} (hp : ((s.chan ch).headAt h).pending = .none) :
    exec (.promotion ch h) s = .next s := by
  simp [exec, execPromotion, State.promotionDue, hp]

theorem promotionDue_of_empty {s : State} {ch : Ch} {h : HeadNo} (hl : s.live ch = true) (hq : (s.chan ch).queue = [])
    (hp : ((s.chan ch).headAt h).pending ≠ .none) : s.promotionDue ch h = true := by
  simp [State.promotionDue, hl, hp, Channel.hasRecordOf, hq]

/-- The emptied queue carries out what waits for the selected head: within the step, or by the PROMOTION that is then
due (R36, R132). -/
theorem announceEmpty_promotes {s : State} {ch : Ch} {h : HeadNo} (hl : s.live ch = true)
    (hlen : (s.chan ch).heads.length = 8) (hq : (s.chan ch).queue = []) (hs : (s.chan ch).relay.selected = some h) :
    let t := s.announceEmpty ch
    let old := (s.chan ch).headAt h
    ∃ u, exec (.promotion ch h) t = .next u ∧
      (u = t ∨ (t.chan ch).heads = (s.chan ch).heads ∧ .promotion ch h ∈ t.dueSteps) ∧ (u.chan ch).queue = [] ∧
      (old.pending ≠ .none → (u.chan ch).heads = (s.chan ch).heads.set h.toNat old.promoted) ∧
      (old.pending = .unload → (u.chan ch).laser.code = 0) := by
  intro t old
  have ht := announceEmpty_settles s ch
  have htq : (t.chan ch).queue = [] := quiets_queue_nil (ht.chan ch) hq
  by_cases hp : old.pending = .none
  · have he : t = s.retarget ch :=
      announceEmpty_of_quiet (by simp only [Channel.selectedPending, hs]; exact if_pos (beq_iff_eq.2 hp))
    have hidle : ((t.chan ch).headAt h).pending = .none := by
      rw [Channel.headAt, he, sansLaser_chan_heads (retarget_sansLaser s ch)]
      exact hp
    exact ⟨t, exec_promotion_idle hidle, .inl rfl, htq, fun hn => absurd hp hn, fun hu => by simp [hp] at hu⟩
  · have he : t = if s.choose then (s.chosen.promote ch h).retarget ch else s.chosen.retarget ch := by
      have hsel : (s.chan ch).selectedPending = some h := by
        simp only [Channel.selectedPending, hs]
        exact if_neg fun hb => hp (beq_iff_eq.1 hb)
      simp only [t, State.announceEmpty, hsel]
    have hc : s.chosen.chan ch = s.chan ch := chan_chosen s ch
    cases hchoose : s.choose with
    | true =>
      rw [hchoose, if_pos rfl] at he
      have hheads : (t.chan ch).heads = (s.chan ch).heads.set h.toNat old.promoted := by
        rw [he, sansLaser_chan_heads (retarget_sansLaser _ _),
          promote_heads (by rw [hc]; exact hlen) (by rw [hc]; exact hp), hc]
      have hidle : ((t.chan ch).headAt h).pending = .none := by
        rw [Channel.headAt, hheads, headAt_set hlen, promoted_pending]
      refine ⟨t, exec_promotion_idle hidle, .inl rfl, htq, fun _ => hheads, fun hu => ?_⟩
      have hz := retarget_zeroHeld (promote_unload_zeroHeld (s := s.chosen) (ch := ch) (h := h) (by rw [hc]; exact hlen)
        (by rw [hc]; exact hs) (by rw [hc]; exact hu))
      rw [he]
      exact hz.1
    | false =>
      rw [hchoose, if_neg Bool.false_ne_true] at he
      have hv : t.sansLaser = s.chosen.sansLaser := by rw [he]; exact retarget_sansLaser _ _
      have hheads : (t.chan ch).heads = (s.chan ch).heads := by rw [sansLaser_chan_heads hv, hc]
      have hat : (t.chan ch).headAt h = old := by rw [Channel.headAt, hheads]; rfl
      have hdue : t.promotionDue ch h = true :=
        promotionDue_of_empty ((live_congr ht.rstnLow ht.straps ch).trans hl) htq (by rw [hat]; exact hp)
      refine ⟨t.promote ch h, by simp [exec, execPromotion, hdue], .inr ⟨hheads, ?_⟩,
        quiets_queue_nil ((promote_settles t ch h).chan ch) htq, fun _ => ?_, fun hu => ?_⟩
      · exact (mem_dueSteps t _).2 hdue
      · rw [promote_heads (by rw [hheads]; exact hlen) (by rw [hat]; exact hp), hheads, hat]
      · exact (promote_unload_zeroHeld (by rw [hheads]; exact hlen) (by rw [sansLaser_chan_relay hv, hc]; exact hs)
          (by rw [hat]; exact hu)).1

/-- Settles O22. -/
theorem headRecordTimers : Obligations.HeadRecordTimers := by
  refine ⟨fun s ch r rest hl hq hst hrun hidle ht hp => ?_, fun s ch r rest from_ hl hq hst hr ht hp => ?_,
    fun s ch r h hl hlen hq hst ht hs => ?_⟩
  · have hne : (s.chan ch).queue ≠ [] := by rw [hq]; exact List.cons_ne_nil r rest
    refine ⟨_, exec_tailExpiry_due hl hq hst ht, departHead_headChanges false [] hne hp, ?_⟩
    have hcut := afterCut_of_idle hidle
    cases rest with
    | nil =>
      refine (departHead_last false hq hp).trans (onChan_sansLaser_congr s ch ?_)
      rw [hcut, hrun]
      rfl
    | cons q more =>
      refine (departHead_seated false hq).1.trans (onChan_sansLaser_congr s ch ?_)
      rw [hcut, hrun]
      rfl
  · have hne : (s.chan ch).queue ≠ [] := by rw [hq]; exact List.cons_ne_nil r rest
    let i := r.incident ch .readyTimeout 0
    obtain ⟨-, hpwg, -, hline, hlength, htail⟩ := departHead_chan false [i] hq hp
    obtain ⟨hnext, hintake⟩ := departHead_next false [i] hq hp
    refine ⟨_, exec_readyTimeout_due hl hq hst hr ht, hpwg, hline, htail, hlength, fun q hhead => ?_,
      departHead_headChanges false [i] hne hp, fun hopen => ?_, departHead_incidents false i hp⟩
    · obtain ⟨code, cold, hq'⟩ := hnext q hhead
      exact ⟨_, hq', rfl, rfl, rfl⟩
    · rw [hintake]
      exact afterCut_of_open hopen
  · intro old done
    let v := s.onChan ch Channel.dropHead
    have hv : v.chan ch = (s.chan ch).dropHead := chan_onChan _ _ _
    have hvh : (v.chan ch).heads = (s.chan ch).heads := by rw [hv, dropHead_heads]
    have hvold : (v.chan ch).headAt h = old := by rw [Channel.headAt, hvh]; rfl
    have ht' : s.departHead ch false [] = v.announceEmpty ch := by
      rcases departHead_cases s ch false [] with ⟨-, e⟩ | ⟨hn, -⟩
      · exact e
      · simp [hq] at hn
    obtain ⟨u, hu, hway, huq, hheads, hcode⟩ := announceEmpty_promotes (s := v) (ch := ch) (h := h)
      ((live_congr (onChan_rstnLow _ _ _) (onChan_straps _ _ _) ch).trans hl) (by rw [hvh]; exact hlen)
      (by rw [hv, dropHead_queue, hq]; rfl) (by rw [hv, dropHead_relay]; exact hs)
    rw [hvold, hvh] at hheads
    rw [hvold] at hcode
    rw [hvh] at hway
    have carried (hp : old.pending ≠ .none) : done old.promoted u :=
      ⟨huq, by rw [Channel.headAt, hheads hp, headAt_set hlen],
        fun g hg => by rw [Channel.headAt, hheads hp, headAt_set_other hg]; rfl⟩
    refine ⟨v.announceEmpty ch, u, by rw [exec_tailExpiry_due hl hq hst ht, ht'], hu, hway, fun x hx => ?_, fun hx => ?_⟩
    · have := carried (by simp [hx])
      simpa only [Head.promoted, hx, holdAfter] using this
    · have := carried (by simp [hx])
      refine ⟨?_, hcode hx⟩
      simpa only [Head.promoted, hx] using this

end Sys2Proof.Machine
end

section
/-! PROOFS. Settles O31: the fence window opens at F (R53, R80, R97). -/

namespace Sys2Proof.Machine

/-! ### The log of incidents -/

/-- The stored incidents and the next number: what decides how an incident is stored (R166). -/
def State.log (s : State) : List Stored × Seq := (s.incidents, s.nextIncident)

theorem incidents_of_log {s t : State} (h : t.log = s.log) : t.incidents = s.incidents := (congrArg Prod.fst h :)

theorem sansLaser_log {s t : State} (h : t.sansLaser = s.sansLaser) : t.log = s.log :=
  Prod.ext (sansLaser_incidents h) (sansLaser_nextIncident h)

@[simp] theorem onChan_log (s : State) (ch : Ch) (f : Channel → Channel) : (s.onChan ch f).log = s.log :=
  Prod.ext (onChan_incidents s ch f) (onChan_nextIncident s ch f)

theorem post_log {s t : State} (i : Incident) (h : t.log = s.log) : (t.post i).log = (s.post i).log := by
  have hi : t.incidents = s.incidents := incidents_of_log h
  have hn : t.nextIncident = s.nextIncident := (congrArg Prod.snd h :)
  refine Prod.ext (post_incidents_congr i hi hn) ?_
  change (t.post i).nextIncident = (s.post i).nextIncident
  unfold State.post
  rw [hi, hn]
  split
  · rfl
  · split <;> split <;> rfl

theorem postAll_log (is : List Incident) {s t : State} (h : t.log = s.log) : (t.postAll is).log = (s.postAll is).log := by
  induction is generalizing s t with
  | nil => exact h
  | cons i is ih => exact ih (post_log i h)

theorem postAll_append (s : State) (is js : List Incident) : s.postAll (is ++ js) = (s.postAll is).postAll js :=
  List.foldl_append

/-! ### What the opening of the window cuts and keeps -/

/-- Behind a head record the queue holds records in QUEUED, so a fence beginning cuts every record that has not been
released, and keeps the others (R53). -/
theorem atFence_eq_filter {q : List Rec} (h : ∀ r ∈ q.tail, r.state = .queued) :
    keptAtFence q = q.filter (fun r => r.state == .releasing || r.state == .tail) ∧
      cutAtFence q = q.filter fun r => !(r.state == .releasing || r.state == .tail) := by
  cases q with
  | nil => exact ⟨rfl, rfl⟩
  | cons r rest =>
    have hkept : rest.filter (fun r => r.state == .releasing || r.state == .tail) = [] :=
      List.filter_eq_nil_iff.2 fun x hx => by simp [h x hx]
    have hcut : rest.filter (fun r => !(r.state == .releasing || r.state == .tail)) = rest :=
      List.filter_eq_self.2 fun x hx => by simp [h x hx]
    simp only [cutAtFence, keptAtFence, List.filter_cons, hkept, hcut]
    cases r.state == .releasing || r.state == .tail with
    | true => simp
    | false => simp

/-- The intake is not STORING once an open record has been cut (R5). -/
theorem afterCut_of_mem_open {i : Intake} {cut : List Rec} (h : ∃ r ∈ cut, r.inputOpen = true) :
    i.afterCut cut ≠ .storing := by
  have ha : (cut.any fun r => r.inputOpen) = true := List.any_eq_true.2 h
  cases i <;> simp [Intake.afterCut, ha, Intake.discard]

/-- The law of the delay line reads nothing of the laser. -/
theorem lineOk_of_sansLaser {c d : Channel} (h : d.sansLaser = c.sansLaser) (hc : c.LineOk) : d.LineOk :=
  (congrArg Channel.LineOk h :).mpr hc

/-- A fence window that opens with no promotion waiting: the queue is cut, and the target recomputed (R97). -/
theorem openFenceAfter_quiet {s : State} {ch : Ch} (had : Bool) (hf : (s.chan ch).wedge.fence = false)
    (hp : (s.chan ch).selectedPending = none) : s.openFenceAfter ch had = (s.beginFence ch).retarget ch := by
  have he : (s.beginFence ch).announceEmpty ch = (s.beginFence ch).retarget ch :=
    announceEmpty_of_quiet (by rw [beginFence_chan, ← hp]; exact selectedPending_congr rfl rfl)
  rcases openFenceAfter_cases s ch had with ⟨h, -⟩ | ⟨-, e | e⟩
  · rw [hf] at h
    contradiction
  · rw [e, he]
  · exact e

/-- The FENCE_CUTs of the records given (R53). -/
def fenceCuts (ch : Ch) (cut : List Rec) : List Incident := cut.map fun r => r.incident ch .fenceCut 0

/-- From `s` to `t` the window has opened: the records that have not been released are cut with their incidents, the park
condition is clear, and the target is the present one (R53, R77, R97). -/
structure State.FenceOpens (ch : Ch) (s t : State) : Prop where
  chan   : (t.chan ch).sansLaser = (s.chan ch).beginFence.sansLaser
  log    : t.log = (s.postAll (fenceCuts ch (cutAtFence (s.chan ch).queue))).log
  park   : (t.chan ch).laser.park = false
  target : (t.chan ch).laser.target = t.firstTarget ch

theorem openFenceAfter_opens {s : State} {ch : Ch} (had : Bool) (hf : (s.chan ch).wedge.fence = false)
    (hp : (s.chan ch).selectedPending = none) : State.FenceOpens ch s (s.openFenceAfter ch had) := by
  rw [openFenceAfter_quiet had hf hp]
  have hv := retarget_sansLaser (s.beginFence ch) ch
  obtain ⟨-, -, hpark⟩ := retarget_target (s.beginFence ch) ch
  obtain ⟨hgoal, htarget, -⟩ := retarget_firstTarget (s.beginFence ch) ch
  refine ⟨by rw [sansLaser_chan hv, beginFence_chan], ?_, by rw [hpark, beginFence_chan]; rfl, by rw [hgoal, htarget]⟩
  rw [sansLaser_log hv]
  exact postAll_log _ (onChan_log _ _ _)

/-- Settles O31. -/
theorem fenceTickReached : Obligations.FenceTickReached := by
  intro s ch hl hf hlock hreach hp hq hline kept cut
  have hdue : s.fenceDue ch = true := by
    simp only [State.fenceDue, State.fenceReached, atOrAfter, tickDiff, hl, hf, hlock, hreach, Bool.not_false,
      decide_true, Bool.and_self]
  obtain ⟨hkept, hcut⟩ := atFence_eq_filter hq.2.1
  obtain ⟨hchan, hlog, hpark, htarget⟩ := openFenceAfter_opens (!(s.chan ch).queue.isEmpty) hf hp
  refine ⟨s.openFence ch, by simp [exec, execFenceTickReached, hdue],
    (congrArg (fun c : Channel => c.wedge.fence) hchan :), (congrArg Channel.queue hchan :).trans hkept, ?_, hpark, htarget, (congrArg Channel.pwg hchan :),
    (congrArg Channel.heads hchan :), fun hopen => ?_, ?_⟩
  · exact lineOk_of_sansLaser hchan (beginFence_lineOk hline)
  · have hi : ((s.openFence ch).chan ch).intake = (s.chan ch).intake.afterCut (cutAtFence (s.chan ch).queue) :=
      (congrArg Channel.intake hchan :)
    rw [hi, hcut]
    exact afterCut_of_mem_open hopen
  · rw [hcut] at hlog
    exact incidents_of_log hlog

end Sys2Proof.Machine
end

section
/-! PROOFS. Settles O13: a rise of the servo gate on a head record (R53, R54, R91, R97; log entry 7). -/

namespace Sys2Proof.Machine

/-! ### Release control -/

/-- The ENCROACHMENT of a RELEASING head record (R54). -/
def Channel.encroachments (c : Channel) (ch : Ch) : List Incident :=
  match c.queue with
  | r :: _ => if r.state = .releasing then [r.incident ch .encroachment r.symOut] else []
  | [] => []

theorem encroach_log (u : State) (ch : Ch) : (u.encroach ch).log = (u.postAll ((u.chan ch).encroachments ch)).log := by
  unfold State.encroach
  cases hq : (u.chan ch).queue with
  | nil =>
    simp only [Channel.headRec, Channel.encroachments, hq, List.head?_nil]
    exact onChan_log _ _ _
  | cons r rest =>
    by_cases hr : r.state = .releasing
    · simp only [Channel.headRec, Channel.encroachments, hq, List.head?_cons, hr, beq_self_eq_true, if_true]
      exact post_log _ (onChan_log _ _ _)
    · simp only [Channel.headRec, Channel.encroachments, hq, List.head?_cons, beq_eq_false_iff_ne.2 hr, hr,
        Bool.false_eq_true, if_false]
      exact onChan_log _ _ _

/-- The channel behind a servo-gate rise: a RELEASING record ended, and the window open (R53, R54, R97). -/
def Channel.fenced (c : Channel) (t : Tick) : Channel :=
  if c.wedge.fence then c.encroached t else (c.encroached t).beginFence

/-- The incidents of release control at a servo-gate rise, in their order (R54). -/
def Channel.endings (c : Channel) (ch : Ch) (t : Tick) : List Incident :=
  c.encroachments ch ++ if c.wedge.fence then [] else fenceCuts ch (cutAtFence (c.encroached t).queue)

theorem encroached_selectedPending (c : Channel) (t : Tick) : (c.encroached t).selectedPending = c.selectedPending := by
  refine selectedPending_congr (encroached_relay c t) ?_
  unfold Channel.encroached
  split
  · rw [dropHead_heads]
    rfl
  · rfl

/-- From `s` to `t` release control has answered a servo-gate rise (R54, R97). -/
structure State.ServoFences (ch : Ch) (s t : State) : Prop where
  now   : t.now = s.now
  chan  : (t.chan ch).sansLaser = ((s.chan ch).fenced s.now).sansLaser
  log   : t.log = (s.postAll ((s.chan ch).endings ch s.now)).log
  opens : (s.chan ch).wedge.fence = false →
    (t.chan ch).laser.park = false ∧ (t.chan ch).laser.target = t.firstTarget ch

/-- Release control at a rise, with no promotion waiting, and with nothing queued behind a RELEASING record when the
window is open already. -/
theorem servoFence_fences {u : State} {ch : Ch} (hg : (u.chan ch).sg = filterAt true)
    (hp : (u.chan ch).selectedPending = none)
    (hq : (u.chan ch).wedge.fence = true → (u.chan ch).isReleasing = true → (u.chan ch).queue.tail = []) :
    State.ServoFences ch u (u.servoFence ch) := by
  have he : (u.encroach ch).chan ch = (u.chan ch).encroached u.now := by
    rw [encroach_chan u ch hg]
    rfl
  have hlog := encroach_log u ch
  have hpend : ((u.encroach ch).chan ch).selectedPending = none := by rw [he, encroached_selectedPending, hp]
  unfold State.servoFence
  dsimp only
  cases hf : (u.chan ch).wedge.fence with
  | true =>
    have hends : (u.chan ch).endings ch u.now = (u.chan ch).encroachments ch := by simp [Channel.endings, hf]
    have hfenced : (u.chan ch).fenced u.now = (u.chan ch).encroached u.now := by simp [Channel.fenced, hf]
    have fences {t : State} (hv : t.sansLaser = (u.encroach ch).sansLaser) : State.ServoFences ch u t :=
      ⟨(sansLaser_now hv).trans (encroach_apart u ch).now, by rw [sansLaser_chan hv, he, hfenced],
        by rw [sansLaser_log hv, hends, hlog], fun h => by simp [hf] at h⟩
    cases hr : (u.chan ch).isReleasing with
    | true =>
      have hnil : ((u.encroach ch).chan ch).queue = [] := by rw [he, encroached_queue, hr, if_pos rfl, hq hf hr]
      refine fences ?_
      unfold State.afterDeparture
      rw [if_pos rfl, if_pos rfl, hnil, if_pos (by rfl), announceEmpty_of_quiet hpend, retarget_sansLaser]
    | false => exact fences rfl
  | false =>
    have hopen : ((u.encroach ch).chan ch).wedge.fence = false := by rw [he, encroached_wedge, hf]
    obtain ⟨hchan, hlog', hpark, htarget⟩ := openFenceAfter_opens (!(u.chan ch).queue.isEmpty) hopen hpend
    refine ⟨(openFenceAfter_settles _ _ _).now.trans (encroach_apart u ch).now, ?_, ?_, fun _ => ⟨hpark, htarget⟩⟩
    · simpa [Channel.fenced, hf, he] using hchan
    · rw [if_neg Bool.false_ne_true, hlog', he]
      refine (postAll_log _ hlog).trans ?_
      simp [Channel.endings, hf, postAll_append]

/-! ### What release control reads of the timer and the filter -/

/-- The channel with its wedge timer replaced. -/
def Channel.setWedge (c : Channel) (w : Wedge) : Channel := { c with wedge := w }

theorem encroached_with (c : Channel) (f : Filter) (v : Wedge) (t : Tick) :
    ({ c with sg := f, wedge := v } : Channel).encroached t = (c.encroached t).setWedge v := by
  change (if c.isReleasing then _ else _) = _
  cases hr : c.isReleasing with
  | true =>
    simp only [Channel.encroached, hr, if_true, Channel.dropHead]
    cases c.queue <;> simp [Channel.dropGate, Channel.setWedge]
  | false => simp [Channel.encroached, hr, Channel.setWedge]

/-- Of the timer release control reads the window alone, and of the filter of SGx nothing. -/
theorem fenced_with (c : Channel) (f : Filter) {v : Wedge} (hv : v.fence = c.wedge.fence) (t : Tick) (w : Wedge) :
    (({ c with sg := f, wedge := v } : Channel).fenced t).setWedge w = (c.fenced t).setWedge w := by
  unfold Channel.fenced
  rw [encroached_with]
  change (if v.fence then _ else _ : Channel).setWedge w = _
  rw [hv]
  cases c.wedge.fence <;> rfl

theorem endings_with (c : Channel) (f : Filter) {v : Wedge} (hv : v.fence = c.wedge.fence) (ch : Ch) (t : Tick) :
    ({ c with sg := f, wedge := v } : Channel).endings ch t = c.endings ch t := by
  unfold Channel.endings
  rw [encroached_with]
  change c.encroachments ch ++ (if v.fence then _ else _) = _
  rw [hv]
  rfl

theorem fenced_wedge (c : Channel) (t : Tick) : (c.fenced t).wedge = { c.wedge with fence := true } := by
  unfold Channel.fenced
  cases hf : c.wedge.fence with
  | true => rw [if_pos rfl, encroached_wedge, ← hf]
  | false =>
    rw [if_neg Bool.false_ne_true, ← encroached_wedge c t]
    rfl

/-- Release control at a servo-gate rise leaves the relay, the heads, the setup and the rest of the filters. -/
theorem fenced_frame (c : Channel) (t : Tick) : (c.fenced t).relay = c.relay ∧ (c.fenced t).heads = c.heads ∧
    (c.fenced t).setup = c.setup ∧ (c.fenced t).sg = filterAt true := by
  have he : (c.encroached t).relay = c.relay ∧ (c.encroached t).heads = c.heads ∧ (c.encroached t).setup = c.setup ∧
      (c.encroached t).sg = filterAt true := by
    unfold Channel.encroached Channel.dropHead
    dsimp only
    split
    · split <;> exact ⟨rfl, rfl, rfl, rfl⟩
    · exact ⟨rfl, rfl, rfl, rfl⟩
  unfold Channel.fenced
  split
  · exact he
  · exact he

/-! ### The capture -/

theorem acquire_fence (w : Wedge) (t : Tick) (i : Int) : (w.acquire t i).fence = w.fence := by
  unfold Wedge.acquire
  split
  · split <;> rfl
  · rfl

/-- With the window open a new F changes the timer alone (R96, R97). -/
theorem refence_open {s : State} {ch : Ch} (hf : (s.chan ch).wedge.fence = true) :
    ∃ w, w.fence = true ∧ s.refence ch = s.onChan ch fun c => c.setWedge w := by
  have hc : ∃ w, w.fence = true ∧ s.computeFence ch = s.onChan ch fun c => c.setWedge w :=
    ⟨_, by exact hf, onChan_congr s ch rfl⟩
  have ho : ((s.computeFence ch).chan ch).wedge.fence = true := by
    rw [State.computeFence, chan_onChan]
    exact hf
  rcases refence_cases s ch with ⟨-, e⟩ | ⟨-, ⟨-, e⟩ | ⟨-, e⟩⟩ <;> rw [e]
  · exact ⟨(s.chan ch).wedge, hf, by rw [State.onChan]; exact (setChan_chan s ch).symm⟩
  · rcases openFenceAfter_cases (s.computeFence ch) ch (!((s.computeFence ch).chan ch).queue.isEmpty) with
      ⟨-, e'⟩ | ⟨h, -⟩
    · rw [State.openFence, e']
      exact hc
    · rw [ho] at h
      contradiction
  · exact hc

/-- The WEDGE_LOST of a capture at the present tick (R91). -/
def State.lockLost (s : State) (ch : Ch) : Incident :=
  incident .wedgeLost ch (s.selected ch) none (s.interval ch).toNat

/-- A capture that loses lock (R91). -/
theorem capture_loses {s : State} {ch : Ch} (h : s.losesLock ch = true) :
    ∃ w, w.fence = (s.chan ch).wedge.fence ∧
      s.capture ch = (s.onChan ch fun c => c.setWedge w).post (s.lockLost ch) := by
  simp only [State.losesLock, Bool.and_eq_true, Bool.not_eq_true'] at h
  obtain ⟨hp, hw⟩ := h
  refine ⟨(s.chan ch).copyFields.lose s.now, rfl, ?_⟩
  unfold State.capture
  cases hl : (s.chan ch).wedge.lock with
  | unlocked | acquiring => simp [hl, Lock.predicts] at hp
  | locked | coasting =>
    simp only [Channel.copyFields, hl, hw, Bool.false_eq_true, if_false]
    rfl

/-- A capture that keeps what lock there is, the window being open, changes the timer alone (R86 to R90). -/
theorem capture_keeps {s : State} {ch : Ch} (h : s.losesLock ch = false) (hf : (s.chan ch).wedge.fence = true) :
    ∃ w, w.fence = true ∧ s.capture ch = s.onChan ch fun c => c.setWedge w := by
  have put (v : Wedge) (hv : v.fence = true) : ∃ w, w.fence = true ∧
      (s.onChan ch fun c => c.setWedge v).refence ch = s.onChan ch fun c => c.setWedge w := by
    obtain ⟨w, hw, e⟩ :=
      refence_open (s := s.onChan ch fun c => c.setWedge v) (ch := ch) (by rw [chan_onChan]; exact hv)
    exact ⟨w, hw, by rw [e, onChan_onChan]; rfl⟩
  unfold State.capture
  cases hl : (s.chan ch).wedge.lock with
  | unlocked =>
    simp only [Channel.copyFields, hl]
    exact ⟨_, by exact hf, rfl⟩
  | acquiring =>
    simp only [Channel.copyFields, hl]
    exact put _ ((acquire_fence _ _ _).trans hf)
  | locked | coasting =>
    have hw : within (s.interval ch) (s.chan ch).wedge.estimate (s.chan ch).setup.tolerance = true := by
      simpa [State.losesLock, hl, Lock.predicts] using h
    simp only [Channel.copyFields, hl, hw, if_true]
    exact put _ hf

/-! ### The rise -/

/-- An incident below class 3 decides no target (R62, R169). -/
theorem post_firstTarget {s : State} {i : Incident} (h : i.kind.cls ≠ 3) (ch : Ch) :
    (s.post i).firstTarget ch = s.firstTarget ch := by
  have hlock : (s.post i).lockedOut ch = s.lockedOut ch := by
    rcases post_cases s i with ⟨-, e⟩ | ⟨-, h3, -⟩ | ⟨-, -, e⟩
    · simp [e, State.lockedOut, Incident.locks, beq_eq_false_iff_ne.2 h]
    · exact absurd h3 h
    · rw [e]
      rfl
  simp only [State.firstTarget, State.targetCases, hlock, chan_post]

theorem losesLock_congr {s t : State} {ch : Ch} (hn : t.now = s.now) (hs : (t.chan ch).setup = (s.chan ch).setup)
    (hl : (t.chan ch).wedge.lock = (s.chan ch).wedge.lock) (hc : (t.chan ch).wedge.last = (s.chan ch).wedge.last)
    (he : (t.chan ch).wedge.estimate = (s.chan ch).wedge.estimate) : t.losesLock ch = s.losesLock ch := by
  simp only [State.losesLock, State.interval, hn, hs, hl, hc, he]

theorem lockLost_congr {s t : State} {ch : Ch} (hn : t.now = s.now) (hr : (t.chan ch).relay = (s.chan ch).relay)
    (hc : (t.chan ch).wedge.last = (s.chan ch).wedge.last) : t.lockLost ch = s.lockLost ch := by
  simp only [State.lockLost, State.selected, State.interval, hn, hr, hc]

/-- From `s` to `t` the servo gate has risen: release control and the capture have answered, with the incidents of release
control before or behind the WEDGE_LOST of a capture that loses lock (R54, R91, R97, R166). -/
structure State.ServoRises (ch : Ch) (s t : State) : Prop where
  chan  : ∃ w, w.fence = true ∧ (t.chan ch).sansLaser = (((s.chan ch).fenced s.now).setWedge w).sansLaser
  opens : (s.chan ch).wedge.fence = false →
    (t.chan ch).laser.park = false ∧ (t.chan ch).laser.target = t.firstTarget ch
  keeps : s.losesLock ch = false → t.log = (s.postAll ((s.chan ch).endings ch s.now)).log
  loses : s.losesLock ch = true → t.log = (s.postAll (s.lockLost ch :: (s.chan ch).endings ch s.now)).log ∨
    t.log = (s.postAll ((s.chan ch).endings ch s.now ++ [s.lockLost ch])).log

theorem State.ServoRises.incidents {ch : Ch} {s t : State} {is : List Incident} (h : State.ServoRises ch s t)
    (he : (s.chan ch).endings ch s.now = is) :
    (¬ s.losesLock ch = true → t.incidents = (s.postAll is).incidents) ∧
      (s.losesLock ch = true → t.incidents = (s.postAll (s.lockLost ch :: is)).incidents ∨
        t.incidents = (s.postAll (is ++ [s.lockLost ch])).incidents) := by
  subst he
  exact ⟨fun hn => incidents_of_log (h.keeps (Bool.eq_false_iff.2 hn)),
    fun hl => (h.loses hl).imp incidents_of_log incidents_of_log⟩

/-- Release control, in a state that differs from `s` by the level of SGx and the timer, its window apart. -/
theorem servoFence_behind {s u : State} {ch : Ch} {v : Wedge} (hn : u.now = s.now)
    (hc : u.chan ch = { s.chan ch with sg := filterAt true, wedge := v }) (hv : v.fence = (s.chan ch).wedge.fence)
    (hp : (s.chan ch).selectedPending = none)
    (hq : (s.chan ch).wedge.fence = true → (s.chan ch).isReleasing = true → (s.chan ch).queue.tail = []) :
    let t := u.servoFence ch
    t.now = s.now ∧
      (∀ w, ((t.chan ch).setWedge w).sansLaser = (((s.chan ch).fenced s.now).setWedge w).sansLaser) ∧
      (t.chan ch).wedge = { v with fence := true } ∧ t.log = (u.postAll ((s.chan ch).endings ch s.now)).log ∧
      ((s.chan ch).wedge.fence = false →
        (t.chan ch).laser.park = false ∧ (t.chan ch).laser.target = t.firstTarget ch) := by
  have hu : (u.chan ch).wedge.fence = (s.chan ch).wedge.fence := by rw [hc, hv]
  obtain ⟨hnow, hchan, hlog, hopens⟩ := servoFence_fences (u := u) (ch := ch) (by rw [hc])
    ((selectedPending_congr (by rw [hc]) (by rw [hc])).trans hp) (by rw [hu, hc]; exact hq)
  rw [hc, hn] at hchan
  rw [hc, hn, endings_with _ _ hv] at hlog
  rw [hu] at hopens
  refine ⟨hnow.trans hn, fun w => ?_, ?_, hlog, hopens⟩
  · rw [← fenced_with (s.chan ch) (filterAt true) hv]
    exact congrArg (fun c => c.setWedge w) hchan
  · exact (congrArg Channel.wedge hchan :).trans (fenced_wedge _ _)

theorem setWedge_firstTarget {s : State} {ch : Ch} {w : Wedge} (h : w.fence = (s.chan ch).wedge.fence) :
    (s.onChan ch fun c => c.setWedge w).firstTarget ch = s.firstTarget ch :=
  (sameEnd_onChan s ch _ ⟨rfl, rfl, rfl, rfl, rfl, rfl, rfl, rfl, h, rfl⟩).firstTarget

/-- `u` is `s` with filtered SGx high (R54). -/
structure State.SgRisen (ch : Ch) (s u : State) : Prop where
  now  : u.now = s.now
  chan : u.chan ch = { s.chan ch with sg := filterAt true }
  log  : u.log = s.log

theorem State.SgRisen.losesLock {ch : Ch} {s u : State} (h : State.SgRisen ch s u) : u.losesLock ch = s.losesLock ch :=
  losesLock_congr h.now (by rw [h.chan]) (by rw [h.chan]) (by rw [h.chan]) (by rw [h.chan])

theorem State.SgRisen.lockLost {ch : Ch} {s u : State} (h : State.SgRisen ch s u) : u.lockLost ch = s.lockLost ch :=
  lockLost_congr h.now (by rw [h.chan]) (by rw [h.chan])

section
variable {s u : State} {ch : Ch} (hu : State.SgRisen ch s u) (hp : (s.chan ch).selectedPending = none)
  (hq : (s.chan ch).wedge.fence = true → (s.chan ch).isReleasing = true → (s.chan ch).queue.tail = [])
include hu hp hq

/-- The capture behind release control judges the interval as it stood before the rise. -/
theorem servoFence_lock : (u.servoFence ch).losesLock ch = s.losesLock ch ∧
    (u.servoFence ch).lockLost ch = s.lockLost ch := by
  obtain ⟨hn, hv, hw, -, -⟩ := servoFence_behind hu.now hu.chan rfl hp hq
  obtain ⟨hr, -, hs, -⟩ := fenced_frame (s.chan ch) s.now
  have hset := (congrArg Channel.setup (hv (s.chan ch).wedge) :).trans hs
  have hrelay := (congrArg Channel.relay (hv (s.chan ch).wedge) :).trans hr
  exact ⟨losesLock_congr hn hset (by rw [hw]) (by rw [hw]) (by rw [hw]), lockLost_congr hn hrelay (by rw [hw])⟩

theorem servoFence_capture_keeps (hl : s.losesLock ch = false) : State.ServoRises ch s ((u.servoFence ch).capture ch) := by
  obtain ⟨-, hv, hw, hlog, hopens⟩ := servoFence_behind hu.now hu.chan rfl hp hq
  have hfence : ((u.servoFence ch).chan ch).wedge.fence = true := by rw [hw]
  obtain ⟨w, hwf, he⟩ := capture_keeps ((servoFence_lock hu hp hq).1.trans hl) hfence
  rw [he]
  refine ⟨⟨w, hwf, by rw [chan_onChan, hv]⟩, fun hf => ?_, fun _ => ?_, fun h => by simp [hl] at h⟩
  · rw [setWedge_firstTarget (hwf.trans hfence.symm), chan_onChan]
    exact hopens hf
  · rw [onChan_log, hlog]
    exact postAll_log _ hu.log

theorem servoFence_capture_loses (hl : s.losesLock ch = true) : State.ServoRises ch s ((u.servoFence ch).capture ch) := by
  obtain ⟨-, hv, hw, hlog, hopens⟩ := servoFence_behind hu.now hu.chan rfl hp hq
  obtain ⟨hloses, hlost⟩ := servoFence_lock hu hp hq
  obtain ⟨w, hwf, he⟩ := capture_loses (hloses.trans hl)
  rw [he, hlost]
  refine ⟨⟨w, by rw [hwf, hw], by rw [chan_post, chan_onChan, hv]⟩, fun hf => ?_, fun h => by simp [hl] at h,
    fun _ => .inr ?_⟩
  · have hminor : (s.lockLost ch).kind.cls ≠ 3 := show (1 : Nat) ≠ 3 by decide
    rw [post_firstTarget hminor, setWedge_firstTarget hwf, chan_post, chan_onChan]
    exact hopens hf
  · rw [postAll_append]
    exact post_log _ ((onChan_log _ _ _).trans (hlog.trans (postAll_log _ hu.log)))

theorem capture_servoFence_loses (hl : s.losesLock ch = true) : State.ServoRises ch s ((u.capture ch).servoFence ch) := by
  obtain ⟨w, hwf, he⟩ := capture_loses (hu.losesLock.trans hl)
  rw [hu.chan] at hwf
  rw [he, hu.lockLost]
  have hnow : ((u.onChan ch fun c => c.setWedge w).post (s.lockLost ch)).now = s.now :=
    (post_settles _ _).now.trans ((onChan_now _ _ _).trans hu.now)
  obtain ⟨-, hv, hw, hlog, hopens⟩ := servoFence_behind (v := w) hnow
    (by rw [chan_post, chan_onChan, hu.chan]; rfl) hwf hp hq
  refine ⟨⟨{ w with fence := true }, rfl, ?_⟩, hopens, fun h => by simp [hl] at h, fun _ => .inl ?_⟩
  · rw [← hv, ← hw]
    rfl
  · exact hlog.trans (postAll_log _ (post_log _ ((onChan_log _ _ _).trans hu.log)))

end

/-- A servo-gate rise: release control and the capture, in either order when the capture loses lock (R166). -/
theorem servoRise_rises {s : State} {ch : Ch} (hp : (s.chan ch).selectedPending = none)
    (hq : (s.chan ch).wedge.fence = true → (s.chan ch).isReleasing = true → (s.chan ch).queue.tail = []) :
    State.ServoRises ch s (s.servoRise ch) := by
  let u := s.onChan ch fun c => { c with sg := filterAt true }
  have hu : State.SgRisen ch s u := ⟨onChan_now _ _ _, chan_onChan _ _ _, onChan_log _ _ _⟩
  have huc : State.SgRisen ch s u.chosen := ⟨hu.now, (chan_chosen u ch).trans hu.chan, hu.log⟩
  cases hl : s.losesLock ch with
  | false =>
    have ht : s.servoRise ch = (u.servoFence ch).capture ch :=
      if_neg (by rw [hu.losesLock, hl]; exact Bool.false_ne_true)
    rw [ht]
    exact servoFence_capture_keeps hu hp hq hl
  | true =>
    have ht : s.servoRise ch = u.eitherOrder (fun t => t.servoFence ch) (fun t => t.capture ch) :=
      if_pos (by rw [hu.losesLock, hl])
    rcases eitherOrder_cases u (fun t => t.servoFence ch) (fun t => t.capture ch) with e | e <;> rw [ht, e]
    · exact servoFence_capture_loses huc hp hq hl
    · exact capture_servoFence_loses huc hp hq hl

/-! ### What the rise leaves of the queue -/

theorem losesLock_iff (s : State) (ch : Ch) : s.losesLock ch = true ↔ (s.chan ch).wedge.lock.predicts = true ∧
    (s.chan ch).setup.tolerance <
      ((s.now - (s.chan ch).wedge.last).toInt - ((s.chan ch).wedge.estimate : Int)).natAbs := by
  unfold State.losesLock within
  rw [Bool.and_eq_true, Bool.not_eq_true', decide_eq_false_iff_not, Nat.not_le]
  rfl

/-- Records in QUEUED are all cut when the window opens (R53). -/
theorem atFence_queued {q : List Rec} (h : ∀ r ∈ q, r.state = .queued) : keptAtFence q = [] ∧ cutAtFence q = q := by
  cases q with
  | nil => exact ⟨rfl, rfl⟩
  | cons r rest => simp [keptAtFence, cutAtFence, h r (by simp)]

theorem afterCut_append (i : Intake) (p q : List Rec) : (i.afterCut p).afterCut q = i.afterCut (p ++ q) := by
  have hidem : i.discard.discard = i.discard := by cases i <;> rfl
  unfold Intake.afterCut
  rw [List.any_append]
  cases p.any fun r => r.inputOpen with
  | false => rfl
  | true =>
    rw [if_pos rfl, hidem, ite_self]
    rfl

theorem fenced_lineOk {c : Channel} (t : Tick) (h : c.LineOk) : (c.fenced t).LineOk := by
  unfold Channel.fenced
  split
  · exact encroached_lineOk t h
  · exact beginFence_lineOk (encroached_lineOk t h)

theorem line_nil {c : Channel} (h : c.LineOk) (hq : c.queue = []) : c.line = [] := by
  have := h.2
  rw [hq] at this
  exact List.map_eq_nil_iff.1 this

/-- The fall of PWGx at the tick `t`, dated then if PWGx was high (R6). -/
def Channel.fallAt (c : Channel) (t : Tick) : Stamp := if c.pwg then stampAt t else c.pwgFall

theorem fallAt_of_high {c : Channel} {t : Tick} (h : c.pwg = true) : c.fallAt t = { tick := t, old := false } :=
  if_pos h

/-- A RELEASING head record ends, and every record queued behind it is cut (R54). -/
theorem fenced_releasing {c : Channel} {r : Rec} {rest : List Rec} (t : Tick) (hq : c.queue = r :: rest)
    (hr : r.state = .releasing) (hrest : ∀ q ∈ rest, q.state = .queued) (ho : c.wedge.fence = true → rest = []) :
    let d := c.fenced t
    d.pwg = false ∧ d.pwd = false ∧ d.queue = [] ∧ d.intake = c.intake.afterCut (r :: rest) ∧ d.pwgFall = c.fallAt t ∧
      ∀ ch, c.endings ch t = r.incident ch .encroachment r.symOut :: fenceCuts ch rest := by
  have he : c.encroached t = { c with
      sg := filterAt true, pwg := false, pwd := false, pwgFallDue := false, pwgFall := c.fallAt t, queue := rest
      line := c.line.drop r.run, intake := c.intake.afterCut [r], laser := { c.laser with ready := none } } := by
    simp only [Channel.encroached, Channel.isReleasing, Channel.headRec, hq, List.head?_cons, hr, beq_self_eq_true,
      if_true, Channel.dropHead, Channel.dropGate]
    rfl
  have hi (ch : Ch) : c.encroachments ch = [r.incident ch .encroachment r.symOut] := by
    simp [Channel.encroachments, hq, hr]
  obtain ⟨hkept, hcut⟩ := atFence_queued hrest
  unfold Channel.fenced Channel.endings
  rw [he]
  cases hf : c.wedge.fence with
  | true =>
    obtain rfl := ho hf
    exact ⟨rfl, rfl, rfl, rfl, rfl, fun ch => by rw [hi]; rfl⟩
  | false =>
    refine ⟨rfl, rfl, hkept, ?_, rfl, fun ch => ?_⟩
    · change (c.intake.afterCut [r]).afterCut (cutAtFence rest) = _
      rw [hcut, afterCut_append]
      rfl
    · rw [hi]
      simp only [hcut]
      rfl

/-- A PREPARING head record is cut with every record behind it, and behind one in TAIL the records are cut (R53, R97). -/
theorem fenced_standing {c : Channel} {r : Rec} {rest : List Rec} (t : Tick) (hq : c.queue = r :: rest)
    (hf : c.wedge.fence = false) (hr : r.state = .preparing ∨ r.state = .tail) :
    let d := c.fenced t
    let cut := if r.state = .tail then rest else r :: rest
    d.pwg = false ∧ d.pwgFallDue = false ∧ d.queue = (if r.state = .tail then [r] else []) ∧
      d.intake = c.intake.afterCut cut ∧ d.pwgFall = c.fallAt t ∧ ∀ ch, c.endings ch t = fenceCuts ch cut := by
  have hn : c.isReleasing = false := by
    rcases hr with h | h <;> simp [Channel.isReleasing, Channel.headRec, hq, h]
  have he : c.encroached t = { c with
      sg := filterAt true, pwg := false, pwgFallDue := false, pwgFall := c.fallAt t } := by
    unfold Channel.encroached
    rw [hn]
    rfl
  have hi (ch : Ch) : c.encroachments ch = [] := by
    rcases hr with h | h <;> simp [Channel.encroachments, hq, h]
  have hcut : keptAtFence c.queue = (if r.state = .tail then [r] else []) ∧
      cutAtFence c.queue = if r.state = .tail then rest else r :: rest := by
    rcases hr with h | h <;> simp [cutAtFence, keptAtFence, hq, h]
  obtain ⟨hkept, hcut⟩ := hcut
  unfold Channel.fenced Channel.endings
  rw [he, hf, if_neg Bool.false_ne_true]
  refine ⟨rfl, rfl, hkept, congrArg c.intake.afterCut hcut, rfl, fun ch => ?_⟩
  rw [hi]
  simp only [Bool.false_eq_true, if_false, hcut]
  rfl

theorem exec_servoGateRise_low {s : State} {ch : Ch} (hl : s.live ch = true) (hs : (s.chan ch).sg.level = false) :
    exec (.servoGateRise ch) s = .next (s.servoRise ch) := by
  simp [exec, execServoGateRise, hl, hs]

/-- Settles O13. -/
theorem encroachment : Obligations.Encroachment := by
  refine ⟨fun s ch r rest hl hs ho hp hq hr hrest hline => ?_, fun s ch r rest hl hs hf hp hq hr hrest hline => ?_⟩
  · intro w i loses lost ended
    have hrise := servoRise_rises (s := s) (ch := ch) hp fun h _ => by rw [hq, ho h]; rfl
    obtain ⟨v, hvf, hchan⟩ := hrise.chan
    obtain ⟨hpwg, hpwd, hqueue, hintake, hfall, hend⟩ := fenced_releasing s.now hq hr hrest ho
    obtain ⟨hkeeps, hloses⟩ := hrise.incidents (hend ch)
    obtain ⟨-, hheads, -, -⟩ := fenced_frame (s.chan ch) s.now
    refine ⟨_, exec_servoGateRise_low hl hs, (congrArg Channel.pwg hchan :).trans hpwg,
      (congrArg Channel.pwd hchan :).trans hpwd, (congrArg Channel.queue hchan :).trans hqueue,
      (congrArg Channel.line hchan :).trans (line_nil (fenced_lineOk s.now hline) hqueue),
      (congrArg (fun c : Channel => c.wedge.fence) hchan :).trans hvf, fun hopen => ?_, fun hhigh => ?_,
      (congrArg Channel.heads hchan :).trans hheads, fun hn => ?_, fun hy => ?_⟩
    · exact ne_of_eq_of_ne ((congrArg Channel.intake hchan :).trans hintake) (afterCut_of_mem_open hopen)
    · exact ((congrArg Channel.pwgFall hchan :).trans hfall).trans (fallAt_of_high hhigh)
    · exact hkeeps fun h => hn ((losesLock_iff s ch).1 h)
    · exact hloses ((losesLock_iff s ch).2 hy)
  · intro w i loses lost cut ended
    have hrise := servoRise_rises (s := s) (ch := ch) hp fun h _ => by rw [hf] at h; contradiction
    obtain ⟨v, hvf, hchan⟩ := hrise.chan
    obtain ⟨hpwg, hdue, hqueue, hintake, hfall, hend⟩ := fenced_standing s.now hq hf hr
    obtain ⟨hkeeps, hloses⟩ := hrise.incidents (hend ch)
    obtain ⟨-, hheads, -, hsg⟩ := fenced_frame (s.chan ch) s.now
    obtain ⟨hpark, htarget⟩ := hrise.opens hf
    refine ⟨_, exec_servoGateRise_low hl hs, ?_, (congrArg (fun c : Channel => c.wedge.fence) hchan :).trans hvf,
      (congrArg Channel.pwg hchan :).trans hpwg, (congrArg Channel.pwgFallDue hchan :).trans hdue,
      (congrArg Channel.queue hchan :).trans hqueue, lineOk_of_sansLaser hchan (fenced_lineOk s.now hline), hpark, htarget,
      fun hopen => ?_, fun hhigh => ?_, (congrArg Channel.heads hchan :).trans hheads, fun hn => ?_, fun hy => ?_⟩
    · exact congrArg Filter.level ((congrArg Channel.sg hchan :).trans hsg)
    · exact ne_of_eq_of_ne ((congrArg Channel.intake hchan :).trans hintake) (afterCut_of_mem_open hopen)
    · exact ((congrArg Channel.pwgFall hchan :).trans hfall).trans (fallAt_of_high hhigh)
    · exact hkeeps fun h => hn ((losesLock_iff s ch).1 h)
    · exact hloses ((losesLock_iff s ch).2 hy)

end Sys2Proof.Machine
end

section
/-! PROOFS. Settles O15 and O39: every record removed at a loss of the laser and at the hold limit (R56, R57, R73, R81,
R148). -/

namespace Sys2Proof.Machine

theorem removeAll_intake (c : Channel) (t : Tick) : (c.removeAll t).intake ≠ .storing := by
  change c.intake.discard ≠ .storing
  cases c.intake <;> simp [Intake.discard]

/-! ### A lockout -/

theorem post_locks {s : State} {i : Incident} (h : i.kind.cls = 3) (hd : s.DeferredOk) (hn : s.lockedOut i.ch = false) :
    (s.post i).lockedOut i.ch = true := by
  rw [lockedOut_iff]
  rcases post_cases s i with ⟨-, e⟩ | ⟨-, -, -, e⟩ | ⟨-, ha, -⟩
  · exact .inl ⟨_, by rw [e]; exact List.mem_append_right _ (List.mem_singleton_self _), rfl, h⟩
  · exact .inr ⟨_, by rw [e]; exact List.mem_append_right _ (List.mem_singleton_self _), rfl, h⟩
  · obtain ⟨d, hmem, hch⟩ := List.any_eq_true.1 (ha h)
    have hl : s.lockedOut i.ch = true := (lockedOut_iff s i.ch).2 (.inr ⟨d, hmem, beq_iff_eq.1 hch, hd.1 d hmem⟩)
    rw [hn] at hl
    contradiction

theorem post_lockedOut {s : State} {ch : Ch} (i : Incident) (h : s.lockedOut ch = true) :
    (s.post i).lockedOut ch = true := by
  rw [lockedOut_iff] at *
  rcases post_cases s i with ⟨-, e⟩ | ⟨-, -, -, e⟩ | ⟨-, -, e⟩ <;> rw [e]
  · exact h.imp_left fun ⟨x, hx, hlocks⟩ => ⟨x, List.mem_append_left _ hx, hlocks⟩
  · exact h.imp_right fun ⟨d, hd, hlocks⟩ => ⟨d, List.mem_append_left _ hd, hlocks⟩
  · exact h

/-- A channel in LOCKOUT stays in it whatever incidents follow (R169). -/
theorem postAll_lockedOut (is : List Incident) {s : State} {ch : Ch} (h : s.lockedOut ch = true) :
    (s.postAll is).lockedOut ch = true := by
  induction is generalizing s with
  | nil => exact h
  | cons i is ih => exact ih (post_lockedOut i h)

theorem firstTarget_of_lockedOut {s : State} {ch : Ch} (h : s.lockedOut ch = true) : s.firstTarget ch = 0 := by
  simp [State.firstTarget, State.targetCases, h]

theorem heldAtZero_of_settled {t : State} {ch : Ch} (hc : (t.chan ch).laser.code = 0)
    (ht : (t.chan ch).laser.target = 0) (hr : (t.chan ch).laser.ready = none)
    (hm : (t.chan ch).laser.motion = .settled t.stamp (t.chan ch).rampParams.dwell) : t.heldAtZero ch := by
  unfold State.heldAtZero
  simp only [hc, ht, hr, hm, Motion.wait]
  refine ⟨trivial, trivial, trivial, fun x hx => ?_, fun hx hf => ?_, rfl⟩
  · simp [Channel.rampParams, hx, Context.ramp]
  · simp [Channel.rampParams, hx, hf, forcedRamp]

/-- In LOCKOUT the code set directly to 0 is held there, whatever the dwell (R69, R81). -/
theorem directZero_retarget_locked {s : State} {ch : Ch} (h : s.lockedOut ch = true) :
    ((s.directZero ch).retarget ch).heldAtZero ch ∧ (((s.directZero ch).retarget ch).chan ch).laser.target = 0 := by
  have hv := directZero_sansLaser s ch
  have hl := directZero_eq s ch
  have hz : (s.directZero ch).firstTarget ch = 0 :=
    firstTarget_of_lockedOut ((lockedOut_congr (sansLaser_incidents hv) (sansLaser_deferred hv) ch).trans h)
  have l := retarget_same (s := s.directZero ch) (ch := ch) (by rw [hz, hl])
  obtain ⟨-, -, hp⟩ := retarget_firstTarget (s.directZero ch) ch
  have hforce : ((s.directZero ch).chan ch).laser.force = (s.chan ch).laser.force := by
    rw [hl]
    exact (settleRecheck_marks s ch).1
  have hdwell : ((s.directZero ch).chan ch).rampParams = (s.chan ch).rampParams :=
    rampParams_congr (by rw [sansLaser_chan_relay hv]) (sansLaser_chan_heads hv ch) hforce
  have hstamp : ((s.directZero ch).retarget ch).stamp = s.stamp := by
    simp only [State.stamp, sansLaser_now ((retarget_sansLaser (s.directZero ch) ch).trans hv)]
  rw [hl] at l
  exact ⟨heldAtZero_of_settled l.code l.target l.ready (by rw [l.motion, hstamp, hp, hdwell]), l.target⟩

/-- The incidents do not move the laser. -/
theorem postAll_heldAtZero (is : List Incident) {s : State} {ch : Ch} (h : s.heldAtZero ch) :
    (s.postAll is).heldAtZero ch := by
  unfold State.heldAtZero
  rw [chan_postAll, postAll_now]
  exact h

/-- The state of a lockout entry before its REFUSEDs: every record removed, and the code set to 0 (R56, R81). -/
def State.shutDown (s : State) (ch : Ch) : State :=
  ((s.onChan ch fun c => c.removeAll s.now).directZero ch).retarget ch

theorem shutDown_sansLaser (s : State) (ch : Ch) :
    (s.shutDown ch).sansLaser = (s.onChan ch fun c => c.removeAll s.now).sansLaser :=
  (retarget_sansLaser _ ch).trans (directZero_sansLaser _ ch)

theorem shutDown_chan (s : State) (ch : Ch) :
    ((s.shutDown ch).chan ch).sansLaser = ((s.chan ch).removeAll s.now).sansLaser := by
  rw [sansLaser_chan (shutDown_sansLaser s ch), chan_onChan]

theorem shutDown_lockedOut {s : State} {ch : Ch} (h : s.lockedOut ch = true) :
    (s.shutDown ch).lockedOut ch = true ∧ (s.shutDown ch).heldAtZero ch ∧
      ((s.shutDown ch).chan ch).laser.target = 0 := by
  have hv := shutDown_sansLaser s ch
  have hremoved : (s.onChan ch fun c => c.removeAll s.now).lockedOut ch = true :=
    (lockedOut_congr (onChan_incidents _ _ _) (onChan_deferred _ _ _) ch).trans h
  exact ⟨(lockedOut_congr (sansLaser_incidents hv) (sansLaser_deferred hv) ch).trans hremoved,
    directZero_retarget_locked hremoved⟩

/-- A class-3 incident of a channel that is not in LOCKOUT: the channel is shut down, and a REFUSED of each of its records
follows (R56, R169). -/
theorem raiseFault_enters {s : State} {i : Incident} (h : s.lockedOut i.ch = false) :
    s.raiseFault i = ((s.post i).shutDown i.ch).postAll
      ((s.chan i.ch).queue.map fun q => q.incident i.ch .refused Reason.lockout.value) := by
  rw [← chan_post s i]
  exact if_neg (by rw [h]; exact Bool.false_ne_true)

/-- The loss of the laser of a RELEASING record in READY mode (R73). -/
theorem exec_lrdyFall_lost {s : State} {ch : Ch} {r : Rec} {rest : List Rec} (hl : s.live ch = true)
    (hlrdy : (s.chan ch).lrdy = true) (hq : (s.chan ch).queue = r :: rest) (hst : r.state = .releasing)
    (hm : (s.chan ch).readyMode r = true) : exec (.lrdyFall ch) s =
      .next ((s.onChan ch fun c => { c with lrdy := false }).raiseFault (r.incident ch .laserLost r.symOut)) := by
  have hlost : s.laserLost ch = some r := by
    simp [State.laserLost, Channel.headRec, hq, hl, hlrdy, hst, hm]
  simp only [exec, execLrdyFall, hlost]

/-- Settles O15. -/
theorem laserLost : Obligations.LaserLost := by
  intro s ch r rest hl hlrdy hq hst hm hfree hd
  let i := r.incident ch .laserLost r.symOut
  let v := s.onChan ch fun c => { c with lrdy := false }
  let refused := (r :: rest).map fun q => q.incident ch .refused Reason.lockout.value
  have hvfree : v.lockedOut ch = false := (lockedOut_congr (onChan_incidents _ _ _) (onChan_deferred _ _ _) ch).trans hfree
  have hvd : v.DeferredOk := by
    unfold State.DeferredOk
    rw [onChan_deferred]
    exact hd
  have hvq : (v.chan ch).queue = r :: rest := by rw [chan_onChan, ← hq]
  have hraise : v.raiseFault i = ((v.post i).shutDown ch).postAll refused := by
    rw [raiseFault_enters (i := i) hvfree]
    exact congrArg (fun q : List Rec => ((v.post i).shutDown ch).postAll
      (q.map fun x => x.incident ch .refused Reason.lockout.value)) hvq
  obtain ⟨hlock, hheld, htarget⟩ := shutDown_lockedOut (post_locks (i := i) rfl hvd hvfree)
  have hlocked : (((v.post i).shutDown ch).postAll refused).lockedOut ch = true := postAll_lockedOut _ hlock
  have hc := shutDown_chan (v.post i) ch
  have hlog : ((v.post i).shutDown ch).log = (s.post i).log :=
    (sansLaser_log (shutDown_sansLaser _ ch)).trans ((onChan_log _ _ _).trans (post_log i (onChan_log _ _ _)))
  refine ⟨_, (exec_lrdyFall_lost hl hlrdy hq hst hm).trans (congrArg _ hraise), hlocked, ?_, postAll_heldAtZero _ hheld, ?_⟩
  · simp [State.len, hlocked]
  · rw [chan_postAll]
    exact ⟨htarget, (congrArg Channel.queue hc :), (congrArg Channel.line hc :), (congrArg Channel.pwg hc :),
      (congrArg Channel.pwd hc :), incidents_of_log (postAll_log refused hlog)⟩

/-! ### The hold limit -/

/-- Settles O39. -/
theorem holdLimitExpiry : Obligations.HoldLimitExpiry := by
  intro s ch r rest from_ hl hphase hq hstart ht hp
  let i := r.incident ch .headSwitchForced r.symOut
  let u := (s.onChan ch fun c => c.removeAll s.now).post i
  have hdue : s.holdLimitDue ch = true := by
    simp only [State.holdLimitDue, hl, hphase, hq, hstart, State.passed, ticksFrom, ht, beq_self_eq_true,
      List.isEmpty_cons, Bool.not_false, decide_true, Bool.and_self]
  have hu : u.chan ch = (s.chan ch).removeAll s.now := by rw [chan_post, chan_onChan]
  have hexec : exec (.holdLimitExpiry ch) s = .next (u.retarget ch) := by
    have he : s.forceSwitch ch = u.announceEmpty ch := by
      simp only [State.forceSwitch, Channel.headRec, hq, List.head?_cons]
      rfl
    rw [← announceEmpty_of_quiet (by rw [hu, ← hp]; exact selectedPending_congr rfl rfl), ← he]
    simp [exec, execHoldLimitExpiry, hdue]
  have hv := retarget_sansLaser u ch
  have hc : ((u.retarget ch).chan ch).sansLaser = ((s.chan ch).removeAll s.now).sansLaser := by
    rw [sansLaser_chan hv, hu]
  obtain ⟨hgoal, htarget, -⟩ := retarget_firstTarget u ch
  have hrelay : ((u.retarget ch).chan ch).relay = (s.chan ch).relay := (congrArg Channel.relay hc :)
  have hqueue : ((u.retarget ch).chan ch).queue = [] := (congrArg Channel.queue hc :)
  have hlive : (u.retarget ch).live ch = true := by
    have hm := ((leads_onChan s ch _ (.single (.clear _ _))).trans (post_settles _ i)).trans (retarget_settles u ch)
    exact (live_congr hm.rstnLow hm.straps ch).trans hl
  refine ⟨_, hexec, hqueue, (congrArg Channel.line hc :), (congrArg Channel.pwg hc :), (congrArg Channel.pwd hc :),
    ne_of_eq_of_ne (congrArg Channel.intake hc :) (removeAll_intake _ s.now), hrelay, ?_, htarget.trans hgoal.symm, ?_⟩
  · simp [State.replayDue, hlive, hrelay, hphase, hqueue]
  · exact incidents_of_log ((sansLaser_log hv).trans (post_log i (onChan_log _ _ _)))

end Sys2Proof.Machine
end

section
/-! PROOFS. What an operation of one channel is made of, said once for the laws of lockout, of the codes, of the forces
and of the accumulators, and for the isolation of the channels: the acts of a channel. -/

namespace Sys2Proof.Machine

open Relation

/-! ### What the laws read of a channel -/

/-- The fields of a channel that the laws of lockout, of the codes, of the forces and of the accumulators read. -/
structure Core where
  code     : Code
  target   : Code
  motion   : Motion
  force    : Option Code
  queue    : List Rec
  line     : List Symbol
  heads    : List Head
  selected : Option HeadNo

/-- The core of a channel. -/
def Channel.core (c : Channel) : Core :=
  { code := c.laser.code, target := c.laser.target, motion := c.laser.motion, force := c.laser.force
    queue := c.queue, line := c.line, heads := c.heads, selected := c.relay.selected }

theorem core_ext {c d : Channel} (h : d.core = c.core) :
    d.laser.code = c.laser.code ∧ d.laser.target = c.laser.target ∧ d.laser.motion = c.laser.motion ∧
      d.laser.force = c.laser.force ∧ d.queue = c.queue ∧ d.line = c.line ∧ d.heads = c.heads ∧
      d.relay.selected = c.relay.selected := by
  simpa [Channel.core] using h

/-- The records of a channel carry the selected head (R36). -/
def Channel.Owned (c : Channel) : Prop := ∀ r ∈ c.queue, c.relay.selected = some r.head

/-- The code stands at 0 and nothing is under way that could move it, with no record and no symbol held (R81). -/
structure Channel.Calm (c : Channel) : Prop where
  code    : c.laser.code = 0
  target  : c.laser.target = 0
  settled : c.laser.isSettled = true
  queue   : c.queue = []
  line    : c.line = []

/-- In LOCKOUT the channel is calm: LEN is low by itself (R8, R81). -/
theorem lockoutOk_iff (s : State) (ch : Ch) : s.LockoutOk ch ↔ (s.lockedOut ch = true → (s.chan ch).Calm) := by
  unfold State.LockoutOk State.len
  refine forall_congr' fun h => ⟨fun ⟨hc, ht, hs, _, hq, hl⟩ => ⟨hc, ht, hs, hq, hl⟩, fun k => ?_⟩
  exact ⟨k.code, k.target, k.settled, by simp [h], k.queue, k.line⟩

theorem want_of_settled {q : Sequencer} (h : q.isSettled = true) : q.want = none := by
  cases hm : q.motion with
  | settled => simp [Sequencer.want, hm]
  | ramp => simp [Sequencer.isSettled, hm] at h

theorem context_congr {c d : Channel} (hh : d.heads = c.heads) (hs : d.relay.selected = c.relay.selected) :
    d.context = c.context := by
  simp only [Channel.context, hs, contextOf_congr hh]

theorem ranges_congr {c d : Channel} (h : d.context = c.context) : d.ranges = c.ranges := by
  simp only [Channel.ranges, h]

/-! ### What no act does to the records and the heads -/

/-- Every record of `q'` stems from one of `q`: its head and its write code are as they were (R35). -/
def Stems (q' q : List Rec) : Prop := ∀ r ∈ q', ∃ x ∈ q, r.head = x.head ∧ r.writeCode = x.writeCode

theorem Stems.of_subset {q' q : List Rec} (h : ∀ r ∈ q', r ∈ q) : Stems q' q := fun r hr => ⟨r, h r hr, rfl, rfl⟩

theorem Stems.refl (q : List Rec) : Stems q q := .of_subset fun _ => id

theorem Stems.nil (q : List Rec) : Stems [] q := .of_subset fun _ h => absurd h List.not_mem_nil

theorem Stems.map {f : Rec → Rec} (q : List Rec) (hf : ∀ r, (f r).head = r.head ∧ (f r).writeCode = r.writeCode) :
    Stems (q.map f) q := by
  intro r hr
  obtain ⟨x, hx, rfl⟩ := List.mem_map.1 hr
  exact ⟨x, hx, hf x⟩

theorem Stems.onHead {f : Rec → Rec} (c : Channel) (hf : ∀ r, (f r).head = r.head ∧ (f r).writeCode = r.writeCode) :
    Stems (c.onHead f).queue c.queue := by
  rw [onHead_queue]
  cases c.queue with
  | nil => exact .nil _
  | cons x rest =>
    intro r hr
    rcases List.mem_cons.1 hr with rfl | hr
    · exact ⟨x, List.mem_cons_self .., hf x⟩
    · exact ⟨r, List.mem_cons_of_mem x hr, rfl, rfl⟩

theorem Stems.onLast {f : Rec → Rec} (q : List Rec) (hf : ∀ r, (f r).head = r.head ∧ (f r).writeCode = r.writeCode) :
    Stems (onLast f q) q := by
  rcases List.eq_nil_or_concat' q with rfl | ⟨rest, x, rfl⟩
  · exact .nil _
  · rw [onLast_concat]
    intro r hr
    rcases List.mem_append.1 hr with hr | hr
    · exact ⟨r, List.mem_append_left _ hr, rfl, rfl⟩
    · exact ⟨x, List.mem_append_right _ (List.mem_singleton_self x), List.mem_singleton.1 hr ▸ hf x⟩

/-- From `c` to `d` records are only removed or worked on, no accumulator changes, every copy of a context stays as
loading leaves it, and a force is new only on a bench part. With the law of the queue at hand (`p`), the records left
see the context they were admitted under (R36, R84, R115, R132). -/
structure Channel.Plain (p : Prop) (bench : Bool) (c d : Channel) : Prop where
  records : Stems d.queue c.queue
  line    : c.queue = [] → c.line = [] → d.line = []
  accums  : d.accums = c.accums
  codes   : (∀ h ∈ c.heads, h.CodesOk) → ∀ h ∈ d.heads, h.CodesOk
  force   : d.laser.force.isSome = true → c.laser.force.isSome = true ∨ bench = true
  fits    : p → c.Owned → d.queue = [] ∨ (d.context = c.context ∧ d.relay.selected = c.relay.selected)

section
variable {p : Prop} {bench : Bool} {c d e : Channel}

theorem Channel.Plain.queue_nil (h : c.Plain p bench d) (hq : c.queue = []) : d.queue = [] := by
  rw [List.eq_nil_iff_forall_not_mem]
  intro r hr
  obtain ⟨q, hmem, -⟩ := h.records r hr
  simp [hq] at hmem

theorem Channel.Plain.owned (h : c.Plain p bench d) (hp : p) (ho : c.Owned) : d.Owned := by
  intro r hr
  rcases h.fits hp ho with hq | ⟨-, hs⟩
  · simp [hq] at hr
  · obtain ⟨q, hmem, hhead, -⟩ := h.records r hr
    rw [hs, hhead]
    exact ho q hmem

/-- Where the records go or stay as they are, with the same heads selected from, nothing else has to be said. -/
theorem Channel.Plain.of_heads (hr : Stems d.queue c.queue)
    (hl : c.queue = [] → c.line = [] → d.line = []) (hh : d.heads = c.heads)
    (hf : d.laser.force.isSome = true → c.laser.force.isSome = true ∨ bench = true)
    (hs : d.relay.selected = c.relay.selected) : c.Plain p bench d where
  records := hr
  line := hl
  accums := by rw [Channel.accums, Channel.accums, hh]
  codes := by rw [hh]; exact id
  force := hf
  fits _ _ := .inr ⟨context_congr hh hs, hs⟩

theorem Channel.Plain.of_core (h : d.core = c.core) : c.Plain p bench d := by
  obtain ⟨-, -, -, hforce, hqueue, hline, hheads, hselected⟩ := core_ext h
  exact .of_heads (by rw [hqueue]; exact .refl _) (by rw [hline]; exact fun _ => id) hheads
    (by rw [hforce]; exact .inl) hselected

theorem Channel.Plain.trans (h : c.Plain p bench d) (k : d.Plain p bench e) : c.Plain p bench e where
  records r hr := by
    obtain ⟨q, hq, hhead, hcode⟩ := k.records r hr
    obtain ⟨q', hq', hhead', hcode'⟩ := h.records q hq
    exact ⟨q', hq', hhead.trans hhead', hcode.trans hcode'⟩
  line hq hl := k.line (h.queue_nil hq) (h.line hq hl)
  accums := k.accums.trans h.accums
  codes := fun hc => k.codes (h.codes hc)
  force hf := (k.force hf).elim h.force .inr
  fits hp ho := by
    rcases k.fits hp (h.owned hp ho) with hq | ⟨hx, hs⟩
    · exact .inl hq
    · exact (h.fits hp ho).imp k.queue_nil fun ⟨hx', hs'⟩ => ⟨hx.trans hx', hs.trans hs'⟩

end

/-! ### The acts -/

/-- The shared fields that no command of a channel changes. -/
structure Settings where
  now           : Tick
  straps        : Straps
  levels        : List Level
  ceiling       : Nat
  reportDiv     : BitVec 8
  selectReg     : BitVec 7
  sending       : Option Transmission
  reportSeq     : BitVec 8
  reportPending : Bool
  heatTaken     : Bool

/-- The settings of a state. -/
def State.settings (s : State) : Settings :=
  { now := s.now, straps := s.straps, levels := s.levels, ceiling := s.ceiling, reportDiv := s.reportDiv
    selectReg := s.selectReg, sending := s.sending, reportSeq := s.reportSeq, reportPending := s.reportPending
    heatTaken := s.heatTaken }

theorem settings_ext {s t : State} (h : t.settings = s.settings) :
    t.now = s.now ∧ t.straps = s.straps ∧ t.levels = s.levels ∧ t.ceiling = s.ceiling ∧ t.reportDiv = s.reportDiv ∧
      t.selectReg = s.selectReg ∧ t.sending = s.sending ∧ t.reportSeq = s.reportSeq ∧
      t.reportPending = s.reportPending ∧ t.heatTaken = s.heatTaken := by
  simpa [State.settings] using h

theorem settings_of_sansLaser {s t : State} (h : t.sansLaser = s.sansLaser) : t.settings = s.settings :=
  (congrArg State.settings h :)

@[simp] theorem settings_onChan (s : State) (ch : Ch) (f : Channel → Channel) :
    (s.onChan ch f).settings = s.settings := by
  cases ch <;> rfl

@[simp] theorem settings_post (s : State) (i : Incident) : (s.post i).settings = s.settings := by
  rcases post_cases s i with ⟨-, h⟩ | ⟨-, -, -, h⟩ | ⟨-, -, h⟩ <;> rw [h] <;> rfl

/-- From `s` to `t` channel `ch` changes as `Plain` says; the other channel and the settings stay. -/
structure State.Bears (p : Prop) (ch : Ch) (s t : State) : Prop where
  own      : (s.chan ch).Plain p s.straps.bench (t.chan ch)
  other    : t.chan (otherCh ch) = s.chan (otherCh ch)
  settings : t.settings = s.settings

theorem State.Bears.trans {p : Prop} {ch : Ch} {s t u : State} (h : State.Bears p ch s t)
    (k : State.Bears p ch t u) : State.Bears p ch s u :=
  ⟨h.own.trans (by rw [← (settings_ext h.settings).2.1]; exact k.own), k.other.trans h.other, k.settings.trans h.settings⟩

/-- LOCKOUT begins nowhere, from `s` to `t`, but in a channel that is calm. -/
def State.LocksCalm (s t : State) : Prop :=
  ∀ x, t.lockedOut x = true → s.lockedOut x = true ∨ (s.chan x).Calm

/-- LOCKOUT begins nowhere, from `s` to `t`, but in `ch`, its records and symbols gone. -/
def State.LocksEmptied (ch : Ch) (s t : State) : Prop :=
  ∀ x, t.lockedOut x = true → s.lockedOut x = true ∨ (x = ch ∧ (t.chan x).queue = [] ∧ (t.chan x).line = [])

/-- What an operation of channel `ch` is made of. `p` says that the law of the queue is at hand, `l` that the law of
lockout is. -/
inductive State.Act (p l : Prop) (ch : Ch) : State → State → Prop
  /-- The code, the target and a settled motion stay, and no request begins to wait (R68). -/
  | plain {s t} (h : State.Bears p ch s t) (hctx : (t.chan ch).context = (s.chan ch).context)
      (hcode : (t.chan ch).laser.code = (s.chan ch).laser.code)
      (htarget : (t.chan ch).laser.target = (s.chan ch).laser.target)
      (hwant : ∀ b ∈ (t.chan ch).laser.want, b ∈ (s.chan ch).laser.want)
      (hset : (s.chan ch).laser.isSettled = true → (t.chan ch).laser.isSettled = true)
      (hlock : l → s.LocksCalm t) : State.Act p l ch s t
  /-- R62, R64, R67: the sequencer turns to the target of the first case that applies. -/
  | renew {s t} (h : State.Bears p ch s t) (hcode : (t.chan ch).laser.code = (s.chan ch).laser.code)
      (htarget : (t.chan ch).laser.target = t.firstTarget ch) (hwant : (t.chan ch).laser.want = none)
      (hset : (t.chan ch).laser.target = (t.chan ch).laser.code → (s.chan ch).laser.isSettled = true →
        (t.chan ch).laser.isSettled = true)
      (hclear : p → clearOf (s.chan ch).ranges (s.chan ch).laser.code → clearOf (t.chan ch).ranges (t.chan ch).laser.code)
      (hlock : l → s.LocksCalm t) : State.Act p l ch s t
  /-- R69: the code is set directly to 0. -/
  | zero {s w} (h : State.Bears p ch s w) (hlock : l → s.LocksEmptied ch w) : State.Act p l ch s (w.directZero ch)
  /-- R107: a waiting request of either channel is granted. -/
  | grant {s} (y b) (hw : (s.chan y).laser.want = some b) : State.Act p l ch s (s.stepTo y b)
  /-- R65, R66. -/
  | step {s} (hne : (s.chan ch).laser.code ≠ (s.chan ch).laser.target) : State.Act p l ch s
      (s.stepTo ch (nextCode (s.chan ch).rampParams (s.chan ch).laser.code (s.chan ch).laser.target))
  /-- R66. -/
  | wait {s} (hne : (s.chan ch).laser.code ≠ (s.chan ch).laser.target) : State.Act p l ch s
      (s.onChan ch fun c => { c with laser := { c.laser with
        motion := c.laser.motion.waitFor
          (nextCode (s.chan ch).rampParams (s.chan ch).laser.code (s.chan ch).laser.target) } })
  /-- R38, R41: an admitted record joins the queue. -/
  | joins {s} (r x b) (hl : s.lockedOut ch = false) (hs : (s.chan ch).relay.selected = some r.head)
      (hx : (s.chan ch).context = some x) (hb : b ∈ x.bands) (hr : r.writeCode = b.code) :
      State.Act p l ch s (s.onChan ch fun c => { c with queue := c.queue ++ [r] })

/-- What an operation of channel `ch` does: acts one behind another. -/
abbrev State.Does (p l : Prop) (ch : Ch) : State → State → Prop := ReflTransGen (State.Act p l ch)

/-- What any command but a heat tick and a reset of the whole part does: acts of the channels, and changes of shared
fields. -/
inductive State.Run (p l : Prop) : State → State → Prop
  | act {s t} (ch) (h : State.Act p l ch s t) : State.Run p l s t
  | set {s t} (ha : t.a = s.a) (hb : t.b = s.b) (hi : t.incidents = s.incidents) (hd : t.deferred = s.deferred)
      (hs : t.straps = s.straps) : State.Run p l s t

/-- What a command does. -/
abbrev State.Runs (p l : Prop) : State → State → Prop := ReflTransGen (State.Run p l)

theorem State.Does.runs {p l : Prop} {ch : Ch} {s t : State} (h : State.Does p l ch s t) : State.Runs p l s t :=
  ReflTransGen.mono (fun _ _ => .act ch) _ _ h

end Sys2Proof.Machine
end

section
/-! PROOFS. The acts that the shared operations are made of: incidents, headroom, the laser code, lockout, promotion, the
fence window and departures. -/

namespace Sys2Proof.Machine

open Relation

/-! ### Incidents and LOCKOUT -/

@[simp] theorem lockedOut_onChan (s : State) (ch x : Ch) (f : Channel → Channel) :
    (s.onChan ch f).lockedOut x = s.lockedOut x := by
  simp only [State.lockedOut, onChan_incidents, onChan_deferred]

theorem lockedOut_of_sansLaser {s t : State} (h : t.sansLaser = s.sansLaser) (x : Ch) : t.lockedOut x = s.lockedOut x :=
  lockedOut_congr (sansLaser_incidents h) (sansLaser_deferred h) x

/-- An incident brings LOCKOUT to its own channel alone, and only if it is of class 3 (R169). -/
theorem lockedOut_of_post {s : State} {i : Incident} {x : Ch} (h : (s.post i).lockedOut x = true) :
    s.lockedOut x = true ∨ (i.ch = x ∧ i.kind.cls = 3) := by
  rw [lockedOut_iff] at h ⊢
  rcases post_cases s i with ⟨-, e⟩ | ⟨-, -, -, e⟩ | ⟨-, -, e⟩ <;> rw [e] at h
  · rcases h with ⟨y, hy, hx⟩ | hd
    · rcases List.mem_append.1 hy with hy | hy
      · exact .inl (.inl ⟨y, hy, hx⟩)
      · exact .inr (by simpa [List.mem_singleton.1 hy] using hx)
    · exact .inl (.inr hd)
  · rcases h with hi | ⟨d, hd, hx⟩
    · exact .inl (.inl hi)
    · rcases List.mem_append.1 hd with hd | hd
      · exact .inl (.inr ⟨d, hd, hx⟩)
      · exact .inr (by simpa [List.mem_singleton.1 hd] using hx)
  · exact .inl h

theorem locksCalm_of_eq {s t : State} (h : ∀ x, t.lockedOut x = s.lockedOut x) : s.LocksCalm t :=
  fun x hx => .inl ((h x).symm.trans hx)

/-! ### Changes of the heads -/

theorem accums_setHead (c : Channel) (h : HeadNo) (x : Head) (hx : x.accum = (c.headAt h).accum) :
    (c.setHead h x).accums = c.accums := by
  unfold Channel.accums Channel.setHead
  refine List.ext_getElem (by simp) fun i hi hi' => ?_
  have hlen : i < c.heads.length := by simpa using hi'
  rw [List.getElem_map, List.getElem_map, List.getElem_set]
  split
  · next he => rw [hx, Channel.headAt, he, List.getD_eq_getElem _ _ hlen]
  · rfl

theorem headAt_codesOk {c : Channel} (hc : ∀ h ∈ c.heads, h.CodesOk) (h : HeadNo) : (c.headAt h).CodesOk := by
  unfold Channel.headAt
  by_cases hlen : h.toNat < c.heads.length
  · rw [List.getD_eq_getElem _ _ hlen]
    exact hc _ (List.getElem_mem hlen)
  · rw [List.getD_eq_default _ _ (Nat.not_lt.1 hlen)]
    simp [Head.CodesOk, initialHead, Pending.waits]

theorem setHead_codesOk {c : Channel} (h : HeadNo) {x : Head} (hc : ∀ h ∈ c.heads, h.CodesOk) (hx : x.CodesOk) :
    ∀ y ∈ (c.setHead h x).heads, y.CodesOk := by
  intro y hy
  rcases List.mem_or_eq_of_mem_set hy with hy | rfl
  · exact hc y hy
  · exact hx

theorem headAt_setHead (c : Channel) (h g : HeadNo) (x : Head) :
    (c.setHead h x).headAt g = if g = h ∧ h.toNat < c.heads.length then x else c.headAt g := by
  unfold Channel.headAt Channel.setHead
  by_cases hg : g = h
  · subst hg
    by_cases hlen : g.toNat < c.heads.length
    · simp [hlen]
    · simp [hlen, List.set_eq_of_length_le (Nat.not_lt.1 hlen)]
  · rw [if_neg fun k => hg k.1]
    exact headAt_set_other hg x

theorem context_setHead_of_active {c : Channel} {h : HeadNo} {x : Head} (hx : x.active = (c.headAt h).active) :
    (c.setHead h x).context = c.context := by
  have hc : (c.setHead h x).contextOf = c.contextOf := by
    funext g
    unfold Channel.contextOf
    rw [headAt_setHead]
    split
    · next hg => rw [hx, hg.1]
    · rfl
  simp only [Channel.context, setHead_relay, hc]

theorem context_setHead_of_other {c : Channel} {h : HeadNo} {x : Head} (hs : c.relay.selected ≠ some h) :
    (c.setHead h x).context = c.context := by
  unfold Channel.context
  rw [setHead_relay]
  cases hg : c.relay.selected with
  | none => rfl
  | some g =>
    have hne : g ≠ h := fun e => hs (hg.trans (congrArg some e))
    simp only [Option.bind_some, Channel.contextOf]
    rw [headAt_setHead, if_neg fun k => hne k.1]

/-- A change of one head that leaves its accumulator, with no record of the head queued or its active copy as before. -/
theorem Channel.Plain.setHead {p : Prop} {bench : Bool} (c : Channel) (h : HeadNo) (x : Head)
    (ha : x.accum = (c.headAt h).accum) (hc : (c.headAt h).CodesOk → x.CodesOk)
    (hr : x.active = (c.headAt h).active ∨ c.hasRecordOf h = false) : c.Plain p bench (c.setHead h x) where
  records := .refl _
  line _ hl := hl
  accums := accums_setHead c h x ha
  codes hall := setHead_codesOk h hall (hc (headAt_codesOk hall h))
  force := .inl
  fits _ ho := by
    rcases hr with hx | hr
    · exact .inr ⟨context_setHead_of_active hx, rfl⟩
    · by_cases hs : c.relay.selected = some h
      · refine .inl (List.eq_nil_iff_forall_not_mem.2 fun r hmem => ?_)
        have hne : r.head ≠ h := by simpa using List.any_eq_false.1 hr r hmem
        exact hne (Option.some.inj ((ho r hmem).symm.trans hs))
      · exact .inr ⟨context_setHead_of_other hs, rfl⟩

/-- A motion that has been turned has no request waiting (R64). -/
theorem want_of_turn {q : Sequencer} {m : Motion} {b : Bool} (h : q.motion = m.turn b) : q.want = none := by
  unfold Sequencer.want
  rw [h]
  cases b with
  | false => rw [turn_false]
  | true =>
    rw [turn_true]
    split
    · next hm => split at hm <;> simp_all
    · rfl

/-! ### Bearing changes -/

theorem State.Bears.refl {p : Prop} {ch : Ch} (s : State) : State.Bears p ch s s := ⟨.of_core rfl, rfl, rfl⟩

theorem State.Bears.onChan {p : Prop} {ch : Ch} {s : State} {f : Channel → Channel}
    (h : (s.chan ch).Plain p s.straps.bench (f (s.chan ch))) : State.Bears p ch s (s.onChan ch f) :=
  ⟨by rwa [chan_onChan], chan_onChan_other s ch f, settings_onChan s ch f⟩

theorem State.Bears.post {p : Prop} {ch : Ch} {s w : State} (h : State.Bears p ch s w) (i : Incident) :
    State.Bears p ch s (w.post i) :=
  ⟨by rw [chan_post]; exact h.own, (chan_post w i _).trans h.other, (settings_post w i).trans h.settings⟩

/-- The change of one channel behind a bearing change bears too. -/
theorem State.Bears.andOnChan {p : Prop} {ch : Ch} {s w : State} (h : State.Bears p ch s w) {f : Channel → Channel}
    (hf : (w.chan ch).Plain p w.straps.bench (f (w.chan ch))) : State.Bears p ch s (w.onChan ch f) :=
  h.trans (.onChan hf)

/-- All records removed (R56 to R58). -/
theorem Channel.Plain.emptied {p : Prop} {bench : Bool} {c d : Channel} (hq : d.queue = []) (hl : d.line = [])
    (hh : d.heads = c.heads) (hf : d.laser.force.isSome = true → c.laser.force.isSome = true) :
    c.Plain p bench d where
  records := by rw [hq]; exact .nil _
  line _ _ := hl
  accums := by rw [Channel.accums, Channel.accums, hh]
  codes := by rw [hh]; exact id
  force := fun h => .inl (hf h)
  fits _ _ := .inl hq

namespace State.Does

variable {p l : Prop} {ch : Ch} {s0 s t w : State}

/-! ### Changes that move no laser -/

/-- A change of shared fields beside the settings, LOCKOUT beginning in calm channels alone. -/
theorem shared (h : State.Does p l ch s0 s) (ha : t.a = s.a) (hb : t.b = s.b) (hs : t.settings = s.settings)
    (hl : l → s.LocksCalm t) : State.Does p l ch s0 t := by
  have hc := chan_congr ha hb
  refine h.tail (.plain ⟨?_, hc _, hs⟩ (by rw [hc]) ?_ ?_ ?_ ?_ hl) <;> rw [hc]
  · exact .of_core rfl
  · exact fun _ => id
  · exact id

/-- A change of shared fields beside the settings and the incidents. -/
theorem marks (h : State.Does p l ch s0 s) (ha : t.a = s.a) (hb : t.b = s.b) (hs : t.settings = s.settings)
    (hi : t.incidents = s.incidents) (hd : t.deferred = s.deferred) : State.Does p l ch s0 t :=
  h.shared ha hb hs fun _ => locksCalm_of_eq fun x => lockedOut_congr hi hd x

/-- A change of the channel that leaves what its laser does. -/
theorem change (h : State.Does p l ch s0 s) {f : Channel → Channel}
    (hf : (s.chan ch).Plain p s.straps.bench (f (s.chan ch)))
    (hx : (f (s.chan ch)).context = (s.chan ch).context)
    (hc : (f (s.chan ch)).laser.code = (s.chan ch).laser.code)
    (ht : (f (s.chan ch)).laser.target = (s.chan ch).laser.target)
    (hm : (f (s.chan ch)).laser.motion = (s.chan ch).laser.motion) : State.Does p l ch s0 (s.onChan ch f) := by
  refine h.tail (.plain (.onChan hf) (by rwa [chan_onChan]) ?_ ?_ ?_ ?_
    fun _ => locksCalm_of_eq fun x => lockedOut_onChan s ch x f) <;> rw [chan_onChan]
  · exact hc
  · exact ht
  · simp only [Sequencer.want, hm]
    exact fun _ => id
  · simp only [Sequencer.isSettled, hm]
    exact id

/-- A change of the channel that leaves its core. -/
theorem onChan (h : State.Does p l ch s0 s) (f : Channel → Channel) (hf : (f (s.chan ch)).core = (s.chan ch).core) :
    State.Does p l ch s0 (s.onChan ch f) := by
  obtain ⟨hc, ht, hm, -, -, -, hh, hs⟩ := core_ext hf
  exact h.change (.of_core hf) (context_congr hh hs) hc ht hm

/-- Records of the channel go, or are worked on; its heads and its laser stay. -/
theorem onQueue (h : State.Does p l ch s0 s) (f : Channel → Channel)
    (hr : Stems (f (s.chan ch)).queue (s.chan ch).queue)
    (hq : (s.chan ch).queue = [] → (s.chan ch).line = [] → (f (s.chan ch)).line = [])
    (hlaser : (f (s.chan ch)).laser.code = (s.chan ch).laser.code ∧
      (f (s.chan ch)).laser.target = (s.chan ch).laser.target ∧
      (f (s.chan ch)).laser.motion = (s.chan ch).laser.motion ∧ (f (s.chan ch)).laser.force = (s.chan ch).laser.force)
    (hh : (f (s.chan ch)).heads = (s.chan ch).heads)
    (hs : (f (s.chan ch)).relay.selected = (s.chan ch).relay.selected) : State.Does p l ch s0 (s.onChan ch f) := by
  obtain ⟨hc, ht, hm, hf⟩ := hlaser
  exact h.change (.of_heads hr hq hh (by rw [hf]; exact .inl) hs) (context_congr hh hs) hc ht hm

theorem ite {q : Prop} [Decidable q] (ht : q → State.Does p l ch s0 s) (he : ¬ q → State.Does p l ch s0 t) :
    State.Does p l ch s0 (if q then s else t) := by
  split
  · next hq => exact ht hq
  · next hq => exact he hq

theorem foldl {α : Type} {f : State → α → State} {xs : List α}
    (hf : ∀ {s : State}, ∀ x ∈ xs, State.Does p l ch s0 s → State.Does p l ch s0 (f s x))
    (h : State.Does p l ch s0 s) : State.Does p l ch s0 (xs.foldl f s) := by
  induction xs generalizing s with
  | nil => exact h
  | cons x xs ih =>
    exact ih (fun y hy => hf y (List.mem_cons_of_mem x hy)) (hf x (List.mem_cons_self ..) h)

/-! ### Incidents -/

theorem postCalm (h : State.Does p l ch s0 s) (i : Incident) (hi : l → i.kind.cls = 3 → (s.chan i.ch).Calm) :
    State.Does p l ch s0 (s.post i) := by
  refine h.shared ?_ ?_ (settings_post s i) fun hl x hx => ?_
  · exact chan_post s i .A
  · exact chan_post s i .B
  · rcases lockedOut_of_post hx with hx | ⟨rfl, hc⟩
    · exact .inl hx
    · exact .inr (hi hl hc)

theorem post (h : State.Does p l ch s0 s) (i : Incident)
    (hi : i.kind.cls ≠ 3 := by simp [Rec.incident, incident, Kind.cls]) : State.Does p l ch s0 (s.post i) :=
  h.postCalm i fun _ hc => absurd hc hi

theorem postAll (h : State.Does p l ch s0 s) (is : List Incident) (hi : ∀ i ∈ is, i.kind.cls ≠ 3) :
    State.Does p l ch s0 (s.postAll is) :=
  foldl (fun i hmem h => h.post i (hi i hmem)) h

/-- The incidents of records, all of one kind. -/
theorem postRecs (h : State.Does p l ch s0 s) (rs : List Rec) (k : Kind) (n : Rec → Nat) (hk : k.cls ≠ 3) :
    State.Does p l ch s0 (s.postAll (rs.map fun r => r.incident ch k (n r))) := by
  refine h.postAll _ fun i hi => ?_
  obtain ⟨r, -, rfl⟩ := List.mem_map.1 hi
  exact hk

theorem chosen (h : State.Does p l ch s0 s) : State.Does p l ch s0 s.chosen := h.marks rfl rfl rfl rfl rfl

theorem freed (h : State.Does p l ch s0 s) : State.Does p l ch s0 s.freed := h.marks rfl rfl rfl rfl rfl

theorem eitherOrder (h : State.Does p l ch s0 s) {f g : State → State}
    (hf : ∀ {s : State}, State.Does p l ch s0 s → State.Does p l ch s0 (f s))
    (hg : ∀ {s : State}, State.Does p l ch s0 s → State.Does p l ch s0 (g s)) :
    State.Does p l ch s0 (s.eitherOrder f g) := by
  rcases eitherOrder_cases s f g with e | e <;> rw [e]
  · exact hg (hf h.chosen)
  · exact hf (hg h.chosen)

/-! ### Headroom -/

theorem grant (h : State.Does p l ch s0 s) (y : Ch) : State.Does p l ch s0 (s.grant y).1 := by
  rcases grant_cases s y with ⟨b, hw, -, e⟩ | ⟨e, -⟩ <;> rw [e]
  · exact h.tail (.grant y b hw)
  · exact h

theorem settleRecheck (h : State.Does p l ch s0 s) : State.Does p l ch s0 s.settleRecheck := by
  have hs : State.Does p l ch s0 { s with recheckDue := false } := h.marks rfl rfl rfl rfl rfl
  refine ite (fun _ => ?_) fun _ => h
  unfold State.recheck
  dsimp only
  split
  · exact hs
  · exact hs.grant _
  · exact hs.grant _
  · exact ((hs.grant _).grant _).marks rfl rfl rfl rfl rfl

/-! ### The laser code -/

theorem takeStep (h : State.Does p l ch s0 s) : State.Does p l ch s0 (s.takeStep ch) := by
  have hs := h.settleRecheck
  unfold State.takeStep
  dsimp only
  refine ite (fun _ => hs) fun hne => ?_
  have hne' : (s.settleRecheck.chan ch).laser.code ≠ (s.settleRecheck.chan ch).laser.target :=
    fun e => hne (beq_iff_eq.2 e.symm)
  exact ite (fun _ => hs.tail (.step hne')) fun _ => hs.tail (.wait hne')

theorem leaveIdle (h : State.Does p l ch s0 s) : State.Does p l ch s0 (s.leaveIdle ch) :=
  ite (fun _ => h) fun _ => h.onChan _ rfl

theorem startReady (h : State.Does p l ch s0 s) : State.Does p l ch s0 (s.startReady ch) := by
  unfold State.startReady
  dsimp only
  split
  · exact ite (fun _ => h.onChan _ rfl) fun _ => h
  · exact h

/-- A change that bears, then a turn to the target of the state reached (R64). -/
theorem turnTo (hb : State.Bears p ch s w) (hcode : (w.chan ch).laser.code = (s.chan ch).laser.code)
    (hset : (s.chan ch).laser.isSettled = true → (w.chan ch).laser.isSettled = true)
    (hclear : p → clearOf (s.chan ch).ranges (s.chan ch).laser.code → clearOf (w.chan ch).ranges (w.chan ch).laser.code)
    (hl : l → s.LocksCalm w) : State.Does p l ch s ((w.aimed ch (w.firstTarget ch)).turn ch) := by
  let goal := w.firstTarget ch
  let m := (w.chan ch).laser.motion.turn ((w.chan ch).laser.code == goal)
  let v := w.onChan ch fun c => { c with laser := { c.laser with target := goal, motion := m } }
  have hv : v.chan ch = { w.chan ch with laser := { (w.chan ch).laser with target := goal, motion := m } } :=
    chan_onChan _ _ _
  have view : v.sansLaser = w.sansLaser := onChan_laser_sansLaser _ _ _ fun _ => rfl
  have hgoal : v.firstTarget ch = goal := by
    rw [← targetOf_eq_firstTarget, targetOf_congr view ch (by rw [hv]) (by rw [hv]), targetOf_eq_firstTarget]
  have hx : (v.chan ch).context = (w.chan ch).context := context_congr (by rw [hv]) (by rw [hv])
  have want : (v.chan ch).laser.want = none :=
    want_of_turn (m := (w.chan ch).laser.motion) (by rw [hv])
  have act : State.Act p l ch s v := by
    refine .renew (hb.trans (.onChan (.of_heads (.refl _) (fun _ => id) rfl .inl rfl))) ?_
      ?_ want ?_ ?_ ?_
    · rw [hv]
      exact hcode
    · rw [hgoal, hv]
    · rw [hv]
      intro hat hs
      have hsettled := hset hs
      simp only at hat
      simp only [Sequencer.isSettled] at hsettled ⊢
      cases hm : (w.chan ch).laser.motion with
      | settled since hold => simp [m, hm, ← hat, Motion.turn]
      | ramp => simp [hm] at hsettled
    · rw [ranges_congr hx, hv]
      exact hclear
    · exact fun k x hx => hl k x ((lockedOut_of_sansLaser view x).symm.trans hx)
  unfold State.turn
  simp only [State.aimed, onChan_onChan, chan_onChan]
  exact ite (fun _ => takeStep (.single act)) fun _ => .single act

theorem retarget (h : State.Does p l ch s0 s) : State.Does p l ch s0 (s.retarget ch) := by
  by_cases hs : s.firstTarget ch = (s.chan ch).laser.target
  · have he : s.retarget ch = s.leaveIdle ch := by
      unfold State.retarget
      simp [targetOf_eq_firstTarget, hs]
    rw [he]
    exact h.leaveIdle
  · rw [retarget_new hs]
    exact leaveIdle (h.trans (turnTo (.refl s) rfl id (fun _ => id) fun _ => locksCalm_of_eq fun _ => rfl))

/-- A change that bears and leaves no request waiting, then a recomputation of the target. -/
theorem retargetOf (hb : State.Bears p ch s w) (hcode : (w.chan ch).laser.code = (s.chan ch).laser.code)
    (hset : (s.chan ch).laser.isSettled = true → (w.chan ch).laser.isSettled = true)
    (hwant : (w.chan ch).laser.want = none)
    (hclear : p → clearOf (s.chan ch).ranges (s.chan ch).laser.code → clearOf (w.chan ch).ranges (w.chan ch).laser.code)
    (hl : l → s.LocksCalm w) : State.Does p l ch s (w.retarget ch) := by
  by_cases hs : w.firstTarget ch = (w.chan ch).laser.target
  · have he : w.retarget ch = w.leaveIdle ch := by
      unfold State.retarget
      simp [targetOf_eq_firstTarget, hs]
    rw [he]
    exact leaveIdle (.single (.renew hb hcode hs.symm hwant (fun _ => hset) hclear hl))
  · rw [retarget_new hs]
    exact leaveIdle (turnTo hb hcode hset hclear hl)

theorem directZero (h : State.Does p l ch s0 s) : State.Does p l ch s0 (s.directZero ch) :=
  h.tail (.zero (.refl s) fun _ _ => .inl)

/-! ### Lockout and the thermal monitor -/

theorem removeAll (h : State.Does p l ch s0 s) : State.Does p l ch s0 (s.onChan ch fun c => c.removeAll s.now) :=
  h.change (.emptied rfl rfl rfl id) rfl rfl rfl rfl

/-- A change that bears, then a lockout entry. -/
theorem enterLockoutOf (hb : State.Bears p ch s w) (hl : ∀ x, w.lockedOut x = true → s.lockedOut x = true ∨ x = ch) :
    State.Does p l ch s (w.enterLockout ch) := by
  have hr := hb.andOnChan (f := fun c => c.removeAll w.now) (.emptied rfl rfl rfl id)
  have zero : State.Act p l ch s ((w.onChan ch fun c => c.removeAll w.now).directZero ch) := by
    refine .zero hr fun _ x hx => ?_
    rcases hl x ((lockedOut_onChan w ch x _).symm.trans hx) with hx | rfl
    · exact .inl hx
    · exact .inr ⟨rfl, by rw [chan_onChan]; rfl, by rw [chan_onChan]; rfl⟩
  exact (retarget (.single zero)).postRecs _ _ _ (by decide)

/-- A change that bears, LOCKOUT staying as it was, then a class-3 incident of the channel. -/
theorem raiseFaultOf (hb : State.Bears p ch s w) (hw : ∀ x, w.lockedOut x = s.lockedOut x) (i : Incident)
    (hi : i.ch = ch) (hn : w.lockedOut ch = false) : State.Does p l ch s (w.raiseFault i) := by
  subst hi
  unfold State.raiseFault
  simp only [hn, Bool.false_eq_true, if_false]
  refine enterLockoutOf (hb.post i) fun x hx => ?_
  rcases lockedOut_of_post hx with hx | ⟨rfl, -⟩
  · exact .inl ((hw x).symm.trans hx)
  · exact .inr rfl

theorem raiseFault (h : State.Does p l ch s0 s) (i : Incident) (hi : i.ch = ch) :
    State.Does p l ch s0 (s.raiseFault i) := by
  cases hn : s.lockedOut ch with
  | false => exact h.trans (raiseFaultOf (.refl s) (fun _ => rfl) i hi hn)
  | true =>
    unfold State.raiseFault
    rw [hi, hn]
    refine h.shared (chan_post s i .A) (chan_post s i .B) (settings_post s i) fun _ x hx => ?_
    rcases lockedOut_of_post hx with hx | ⟨hx, -⟩
    · exact .inl hx
    · exact .inl (by rw [← hx, hi, hn])

/-- A change that bears and leaves the laser and LOCKOUT, then an evaluation of a head: a trip, or one more such
change (R118, R119). -/
theorem evaluateOf (hb : State.Bears p ch s w) (hlaser : (w.chan ch).laser = (s.chan ch).laser)
    (hw : ∀ x, w.lockedOut x = s.lockedOut x) (h : HeadNo) :
    State.Does p l ch s (w.evaluate ch h) ∨ (State.Bears p ch s (w.evaluate ch h) ∧
      ((w.evaluate ch h).chan ch).laser = (s.chan ch).laser ∧
      ((w.evaluate ch h).chan ch).context = (w.chan ch).context ∧
      ∀ x, (w.evaluate ch h).lockedOut x = s.lockedOut x) := by
  rcases evaluate_cases w ch h with ⟨-, e⟩ | ⟨x, -, hx⟩
  · rw [e]
    exact .inr ⟨hb, hlaser, rfl, hw⟩
  · have hv := hb.andOnChan (f := fun c => c.setHead h { (w.chan ch).headAt h with
      hold := holdAfter x ((w.chan ch).headAt h).accum ((w.chan ch).headAt h).hold })
      (.setHead _ h _ rfl (fun hc => hc) (.inl rfl))
    rcases hx with ⟨-, hn, e⟩ | ⟨-, e⟩ <;> rw [e]
    · refine .inl (raiseFaultOf hv (fun x => (lockedOut_onChan w ch x _).trans (hw x)) _ rfl ?_)
      rw [lockedOut_onChan, hn]
    · exact .inr ⟨hv, by rw [chan_onChan, setHead_laser, hlaser],
        by rw [chan_onChan]; exact context_setHead_of_active rfl,
        fun x => (lockedOut_onChan w ch x _).trans (hw x)⟩

theorem evaluate (h : State.Does p l ch s0 s) (hd : HeadNo) : State.Does p l ch s0 (s.evaluate ch hd) := by
  rcases evaluateOf (l := l) (.refl s) rfl (fun _ => rfl) hd with k | ⟨hb, hlaser, hctx, hl⟩
  · exact h.trans k
  · refine h.tail (.plain hb hctx (by rw [hlaser]) (by rw [hlaser]) ?_ ?_ fun _ => locksCalm_of_eq hl) <;> rw [hlaser]
    · exact fun _ => id
    · exact id

theorem evaluateAll (h : State.Does p l ch s0 s) : State.Does p l ch s0 (s.evaluateAll ch) :=
  foldl (fun hd _ h => h.evaluate hd) h

/-! ### The fence window and promotion -/

theorem keptAtFence_records {q : List Rec} {r : Rec} (h : r ∈ keptAtFence q) : r ∈ q := by
  rw [← keptAtFence_append_cut q]
  exact List.mem_append_left _ h

theorem beginFence (h : State.Does p l ch s0 s) : State.Does p l ch s0 (s.beginFence ch) := by
  refine postRecs (h.onQueue _ (.of_subset fun _ => keptAtFence_records) ?_ ⟨rfl, rfl, rfl, rfl⟩ rfl rfl) _ _ _
    (by decide)
  intro _ hl
  simp [Channel.beginFence, hl]

theorem computeFence (h : State.Does p l ch s0 s) : State.Does p l ch s0 (s.computeFence ch) := h.onChan _ rfl

theorem refenceEmpty (h : State.Does p l ch s0 s) : State.Does p l ch s0 (s.refenceEmpty ch) :=
  ite (fun _ => ite (fun _ => h.computeFence.beginFence.retarget) fun _ => h.computeFence) fun _ => h

/-- A change that bears and leaves the laser and LOCKOUT, then the sequencer's part of a promotion (R79). -/
theorem promoteLaserOf (hb : State.Bears p ch s w) (hlaser : (w.chan ch).laser = (s.chan ch).laser)
    (hw : ∀ x, w.lockedOut x = s.lockedOut x) (x : Context)
    (hclear : inRanges x.ranges (s.chan ch).laser.code.toNat = false → p →
      clearOf (s.chan ch).ranges (s.chan ch).laser.code → clearOf (w.chan ch).ranges (w.chan ch).laser.code) :
    State.Does p l ch s (w.promoteLaser ch x) := by
  have calm := locksCalm_of_eq hw
  unfold State.promoteLaser
  dsimp only
  refine ite (fun _ => ?_) fun hout => ?_
  · exact retarget (.single (.zero hb fun _ x hx => .inl ((hw x).symm.trans hx)))
  · rw [Bool.not_eq_true, hlaser] at hout
    refine ite (fun hwant => ?_) fun hwant => ?_
    · let v := w.onChan ch fun c => { c with laser := { c.laser with motion := c.laser.motion.turn false } }
      have hv : v.chan ch = { w.chan ch with laser :=
          { (w.chan ch).laser with motion := (w.chan ch).laser.motion.turn false } } := chan_onChan _ _ _
      have hturn : State.Does p l ch s (v.retarget ch) := by
        refine retargetOf
          (hb.andOnChan (.of_heads (.refl _) (fun _ => id) rfl .inl rfl)) ?_ ?_ ?_ ?_
          fun k y hy => calm y ((lockedOut_onChan w ch y _).symm.trans hy)
        · rw [chan_onChan, hlaser]
        · intro hs
          rw [hlaser, want_of_settled hs] at hwant
          contradiction
        · exact want_of_turn (m := (w.chan ch).laser.motion) (by rw [chan_onChan])
        · have hx : (v.chan ch).context = (w.chan ch).context := context_congr (by rw [hv]) (by rw [hv])
          rw [ranges_congr hx, hv]
          exact hclear hout
      exact ite (fun _ => hturn.takeStep) fun _ => hturn
    · refine retargetOf hb (by rw [hlaser]) (by rw [hlaser]; exact id) ?_ (hclear hout) fun _ => calm
      simpa using hwant

/-- A pending copy or unload of a head with no record queued is carried out (R132). -/
theorem promote (h : State.Does p l ch s0 s) (hd : HeadNo) (hr : (s.chan ch).hasRecordOf hd = false) :
    State.Does p l ch s0 (s.promote ch hd) := by
  refine h.trans ?_
  unfold State.promote
  dsimp only
  split
  · exact .refl
  · next x hx =>
    let new : Head := { (s.chan ch).headAt hd with active := some x, pending := .none }
    have hcodes : ((s.chan ch).headAt hd).CodesOk → new.CodesOk := fun hc =>
      ⟨fun y hy => hc.2 y (by rw [hx]; exact hy), by simp [new, Pending.waits]⟩
    have hb : State.Bears p ch s (s.onChan ch fun c => c.setHead hd new) := .onChan (.setHead _ hd _ rfl hcodes (.inr hr))
    have hlaser : ((s.onChan ch fun c => c.setHead hd new).chan ch).laser = (s.chan ch).laser := by rw [chan_onChan]; rfl
    have hlock : ∀ y, (s.onChan ch fun c => c.setHead hd new).lockedOut y = s.lockedOut y :=
      fun y => lockedOut_onChan s ch y _
    have hlen : hd.toNat < (s.chan ch).heads.length := by
      by_contra hlen
      rw [Channel.headAt, List.getD_eq_default _ _ (Nat.not_lt.1 hlen)] at hx
      simp [initialHead] at hx
    rcases evaluateOf (l := l) hb hlaser hlock hd with k | ⟨hb', hlaser', hctx, hlock'⟩
    · exact ite (fun _ => refenceEmpty (k.trans (promoteLaserOf (.refl _) rfl (fun _ => rfl) x fun _ _ => id))) fun _ => k
    · refine ite (fun hsel => refenceEmpty (promoteLaserOf hb' hlaser' hlock' x fun hout _ _ => ?_)) fun hsel => ?_
      · have hnew : ((s.chan ch).setHead hd new).context = some x := by
          rw [Channel.context, setHead_relay, beq_iff_eq.1 hsel]
          simp [Channel.contextOf, headAt_setHead, hlen, new]
        rw [chan_onChan, hnew] at hctx
        rw [hlaser', Channel.ranges, hctx]
        exact hout
      · rw [chan_onChan, context_setHead_of_other (by simpa using hsel)] at hctx
        refine .single (.plain hb' hctx (by rw [hlaser']) (by rw [hlaser']) ?_ ?_ fun _ => locksCalm_of_eq hlock') <;>
          rw [hlaser']
        · exact fun _ => id
        · exact id
  · have hcodes : ((s.chan ch).headAt hd).CodesOk →
        ({ (s.chan ch).headAt hd with active := none, pending := .none, hold := false } : Head).CodesOk :=
      fun _ => by simp [Head.CodesOk, Pending.waits]
    have hb : State.Bears p ch s (s.onChan ch fun c => c.setHead hd
        { (s.chan ch).headAt hd with active := none, pending := .none, hold := false }) :=
      .onChan (.setHead _ hd _ rfl hcodes (.inr hr))
    refine ite (fun _ => refenceEmpty (retarget (.single (.zero hb fun _ x hx => .inl ?_)))) fun hsel => ?_
    · rwa [lockedOut_onChan] at hx
    · exact change .refl (.setHead _ hd _ rfl hcodes (.inr hr)) (context_setHead_of_other (by simpa using hsel)) rfl rfl rfl

end State.Does

end Sys2Proof.Machine
end

section
/-! PROOFS. The acts that each command of a channel is made of. -/

namespace Sys2Proof.Machine

open Relation

/-! ### What admission has seen -/

theorem findBand_mem {period k i : Nat} {bs : List Band} {b : Band} (h : findBand period k bs = some (i, b)) : b ∈ bs := by
  obtain ⟨d, -, hd, -⟩ := (findBand_iff period k i bs b).1 h
  exact List.mem_of_getElem? hd

theorem admitWith_ok {s : State} {ch : Ch} {h : HeadNo} {x : Context} {a : Admission} (ha : s.admitWith ch h x = .ok a) :
    a.context = x ∧ a.band ∈ x.bands := by
  unfold State.admitWith at ha
  simp only at ha
  repeat' split at ha
  all_goals try contradiction
  next i b hb _ _ =>
    cases ha
    exact ⟨rfl, findBand_mem hb⟩

/-- An admitted rise meets no lockout, and takes a band of the selected head's context (R35, R39). -/
theorem admission_context {s : State} {ch : Ch} {a : Admission} (h : s.admission ch = .ok a) :
    s.lockedOut ch = false ∧ (s.chan ch).context = some a.context ∧ a.band ∈ a.context.bands := by
  unfold State.admission at h
  simp only at h
  split at h
  · contradiction
  next hl =>
  repeat' split at h
  all_goals try contradiction
  next hd hsel _ _ x hx _ =>
    obtain ⟨hctx, hband⟩ := admitWith_ok h
    refine ⟨by simpa using hl, ?_, by rw [hctx]; exact hband⟩
    rw [Channel.context, hsel, hctx]
    exact hx

/-! ### Records worked on -/

@[simp] theorem onHead_heads (c : Channel) (f : Rec → Rec) : (c.onHead f).heads = c.heads := by
  unfold Channel.onHead
  split <;> rfl

@[simp] theorem dropHead_code_target_motion_force (c : Channel) :
    c.dropHead.laser.code = c.laser.code ∧ c.dropHead.laser.target = c.laser.target ∧
      c.dropHead.laser.motion = c.laser.motion ∧ c.dropHead.laser.force = c.laser.force := by
  unfold Channel.dropHead
  split <;> exact ⟨rfl, rfl, rfl, rfl⟩

theorem dropHead_stems (c : Channel) : Stems c.dropHead.queue c.queue := by
  rw [dropHead_queue]
  exact .of_subset fun _ => List.mem_of_mem_tail

namespace State.Does

variable {p l : Prop} {ch : Ch} {s0 s w : State}

/-- The head record is worked on, and symbols leave the delay line (R11, R47, R48). -/
theorem onHead (h : State.Does p l ch s0 s) (f : Rec → Rec)
    (hf : ∀ r, (f r).head = r.head ∧ (f r).writeCode = r.writeCode) (g : Channel → Channel)
    (hg : (g (s.chan ch)).queue = ((s.chan ch).onHead f).queue)
    (hline : (s.chan ch).line = [] → (g (s.chan ch)).line = [])
    (hlaser : (g (s.chan ch)).laser.code = (s.chan ch).laser.code ∧
      (g (s.chan ch)).laser.target = (s.chan ch).laser.target ∧
      (g (s.chan ch)).laser.motion = (s.chan ch).laser.motion ∧ (g (s.chan ch)).laser.force = (s.chan ch).laser.force)
    (hh : (g (s.chan ch)).heads = (s.chan ch).heads)
    (hs : (g (s.chan ch)).relay.selected = (s.chan ch).relay.selected) : State.Does p l ch s0 (s.onChan ch g) :=
  h.onQueue g (by rw [hg]; exact .onHead _ hf) (fun _ => hline) hlaser hh hs

/-! ### The queue runs empty, the window opens and closes, the head is switched -/

theorem settleStore (h : State.Does p l ch s0 s) : State.Does p l ch s0 (s.settleStore ch) := by
  unfold State.settleStore
  split
  · refine ite (fun hd => h.promote _ ?_) fun _ => h
    simp only [State.promotionDue, Bool.and_eq_true, Bool.not_eq_true'] at hd
    exact hd.2
  · exact h

theorem hasRecordOf_nil {c : Channel} (h : c.queue = []) (hd : HeadNo) : c.hasRecordOf hd = false := by
  simp [Channel.hasRecordOf, h]

theorem announceEmpty (h : State.Does p l ch s0 s) (hq : (s.chan ch).queue = []) :
    State.Does p l ch s0 (s.announceEmpty ch) := by
  rcases announceEmpty_cases s ch with ⟨-, e⟩ | ⟨hd, -, e | e⟩ <;> rw [e]
  · exact h.retarget
  · exact (h.chosen.promote hd (hasRecordOf_nil (by rwa [chan_chosen]) hd)).retarget
  · exact h.chosen.retarget

theorem openFenceAfter (h : State.Does p l ch s0 s) (had : Bool) : State.Does p l ch s0 (s.openFenceAfter ch had) := by
  unfold State.openFenceAfter
  dsimp only
  refine ite (fun _ => h) fun _ => ite (fun hq => h.beginFence.announceEmpty ?_) fun _ => h.beginFence.retarget
  simpa using of_and_true hq

theorem openFence (h : State.Does p l ch s0 s) : State.Does p l ch s0 (s.openFence ch) := h.openFenceAfter _

theorem refence (h : State.Does p l ch s0 s) : State.Does p l ch s0 (s.refence ch) :=
  ite (fun _ => ite (fun _ => h.computeFence.openFence) fun _ => h.computeFence) fun _ => h

theorem closeFence (h : State.Does p l ch s0 s) : State.Does p l ch s0 (s.closeFence ch) :=
  ite (fun _ => (h.onChan _ rfl).retarget) fun _ => h

/-- A change that bears and begins no LOCKOUT, then a head switch over an empty queue (R78). -/
theorem switchHeadOf (hb : State.Bears p ch s w) (hw : ∀ x, w.lockedOut x = true → s.lockedOut x = true)
    (hq : p → (w.chan ch).queue = []) (hd : Option HeadNo) : State.Does p l ch s (w.switchHead ch hd) := by
  let select (c : Channel) : Channel :=
    { c with relay := { c.relay with selected := hd }, laser := { c.laser with park := false } }
  have hsel : (w.chan ch).Plain p w.straps.bench (select (w.chan ch)) :=
    { records := .refl _, line := fun _ => id, accums := rfl, codes := fun h => h, force := .inl
      fits := fun hp _ => .inl (hq hp) }
  rw [switchHead_eq]
  refine refence (retarget (.single (.zero (hb.andOnChan hsel) fun _ x hx => .inl (hw x ?_))))
  rwa [lockedOut_onChan] at hx

/-! ### Departures -/

theorem becomeHead (h : State.Does p l ch s0 s) (b : Bool) : State.Does p l ch s0 (s.becomeHead ch b) := by
  unfold State.becomeHead
  dsimp only
  split
  · exact h
  · next r rest hq =>
    refine (onQueue h _ ?_ (fun _ => id) ⟨rfl, rfl, rfl, rfl⟩ rfl rfl).retarget.startReady
    rw [hq]
    intro x hx
    rcases List.mem_cons.1 hx with rfl | hx
    · exact ⟨r, List.mem_cons_self .., rfl, rfl⟩
    · exact ⟨x, List.mem_cons_of_mem r hx, rfl, rfl⟩

theorem afterDeparture (h : State.Does p l ch s0 s) (b : Bool) : State.Does p l ch s0 (s.afterDeparture ch b) :=
  ite (fun hq => h.announceEmpty (by simpa using hq)) fun _ => h.becomeHead b

theorem dropHead (h : State.Does p l ch s0 s) : State.Does p l ch s0 (s.onChan ch Channel.dropHead) := by
  refine h.onQueue _ (dropHead_stems _) (fun hq hl => ?_) (dropHead_code_target_motion_force _) (dropHead_heads _)
    (by rw [dropHead_relay])
  rw [dropHead_nil _ hq, hl]

theorem departHead (h : State.Does p l ch s0 s) (b : Bool) (is : List Incident) (hi : ∀ i ∈ is, i.kind.cls ≠ 3) :
    State.Does p l ch s0 (s.departHead ch b is) :=
  (h.dropHead.postAll is hi).afterDeparture b

/-! ### The write gate -/

/-- An admitted record joins the queue (R41). -/
theorem enqueue (h : State.Does p l ch s0 s) (a : Admission) (n : Seq) (hl : s.lockedOut ch = false)
    (hs : (s.chan ch).relay.selected = some a.head) (hx : (s.chan ch).context = some a.context)
    (hb : a.band ∈ a.context.bands) : State.Does p l ch s0 (s.enqueue ch (newRecord a n)) := by
  unfold State.enqueue
  dsimp only
  split
  · exact becomeHead (h.tail (.joins (newRecord a n) a.context a.band hl hs hx hb rfl)) _
  · refine ite (fun _ => becomeHead ?_ _) fun _ => h.tail (.joins (newRecord a n) a.context a.band hl hs hx hb rfl)
    have joined : State.Act p l ch (s.onChan ch Channel.dropHead) _ :=
      .joins (newRecord a n) a.context a.band (by rwa [lockedOut_onChan]) (by rwa [chan_onChan, dropHead_relay])
        (by rw [chan_onChan, context_congr (dropHead_heads _) (by rw [dropHead_relay]), hx]) hb rfl
    rw [onChan_onChan] at joined
    exact h.dropHead.tail joined

theorem answerRise (h : State.Does p l ch s0 s) (n : Seq) : State.Does p l ch s0 (s.answerRise ch n) := by
  unfold State.answerRise
  split
  · next a ha =>
    obtain ⟨hs, -, -⟩ := admission_ok ha
    obtain ⟨hl, hx, hb⟩ := admission_context ha
    exact (h.onChan _ rfl).enqueue a n (by rwa [lockedOut_onChan]) (by rwa [chan_onChan])
      (by rw [chan_onChan]; exact hx) hb
  · exact (h.onChan _ rfl).post _

theorem cutFrame (h : State.Does p l ch s0 s) (n : Seq) : State.Does p l ch s0 (s.cutFrame ch n) := by
  unfold State.cutFrame
  dsimp only
  split
  · exact h.onChan _ rfl
  · exact (h.onChan _ rfl).post _

theorem writeRise (h : State.Does p l ch s0 s) : State.Does p l ch s0 (s.writeRise ch) := by
  have hs := (h.onChan (fun c => { c with wg := filterAt true, nextSeq := (s.chan ch).nextSeq + 1 }) rfl).settleStore
  exact ite (fun _ => hs.eitherOrder (fun h => h.cutFrame _) fun h => h.answerRise _)
    fun _ => (hs.cutFrame _).answerRise _

theorem writeFall (h : State.Does p l ch s0 s) : State.Does p l ch s0 (s.writeFall ch) :=
  h.onQueue _ (.map _ fun _ => ⟨rfl, rfl⟩) (fun _ => id) ⟨rfl, rfl, rfl, rfl⟩ rfl rfl

/-! ### The read gate and the servo gate -/

theorem readRise (h : State.Does p l ch s0 s) : State.Does p l ch s0 (s.readRise ch) := (h.onChan _ rfl).retarget

theorem readFall (h : State.Does p l ch s0 s) : State.Does p l ch s0 (s.readFall ch) := (h.onChan _ rfl).retarget

theorem encroach (h : State.Does p l ch s0 s) : State.Does p l ch s0 (s.encroach ch) := by
  have dropped : State.Does p l ch s0 (s.onChan ch fun c => (c.dropGate s.now).dropHead) := by
    have hd := (h.onChan (fun c => c.dropGate s.now) rfl).dropHead
    rwa [onChan_onChan] at hd
  unfold State.encroach
  dsimp only
  split
  · exact ite (fun _ => dropped.post _) fun _ => h.onChan _ rfl
  · exact h.onChan _ rfl

theorem servoFence (h : State.Does p l ch s0 s) : State.Does p l ch s0 (s.servoFence ch) :=
  ite (fun _ => ite (fun _ => h.encroach.afterDeparture _) fun _ => h.encroach) fun _ => h.encroach.openFenceAfter _

theorem capture (h : State.Does p l ch s0 s) : State.Does p l ch s0 (s.capture ch) := by
  unfold State.capture
  dsimp only
  split
  · exact h.onChan _ rfl
  · exact (h.onChan _ rfl).refence
  · exact ite (fun _ => (h.onChan _ rfl).refence) fun _ => (h.onChan _ rfl).post _

theorem servoRise (h : State.Does p l ch s0 s) : State.Does p l ch s0 (s.servoRise ch) := by
  have hs := h.onChan (fun c => { c with sg := filterAt true }) rfl
  exact ite (fun _ => hs.eitherOrder (fun h => h.servoFence) fun h => h.capture) fun _ => hs.servoFence.capture

theorem servoFall (h : State.Does p l ch s0 s) : State.Does p l ch s0 (s.servoFall ch) := (h.onChan _ rfl).closeFence

/-! ### The directive receivers -/

theorem takeNext (h : State.Does p l ch s0 s) : State.Does p l ch s0 s.takeNext := by
  rw [takeNext_eq]
  exact h.marks rfl rfl rfl rfl rfl

theorem join (h : State.Does p l ch s0 s) (e : Entry) : State.Does p l ch s0 (s.join e) := by
  have hs : State.Does p l ch s0 { s with directives := s.directives ++ [e] } := h.marks rfl rfl rfl rfl rfl
  exact ite (fun _ => hs.takeNext) fun _ => hs

theorem offer (h : State.Does p l ch s0 s) (e : Entry) : State.Does p l ch s0 (s.offer ch e) := by
  have marked : State.Does p l ch s0 { s with overrun := true } := h.marks rfl rfl rfl rfl rfl
  have kept : State.Does p l ch s0 (s.keepClear ch e) := ite (fun _ => h) fun _ => h.onChan _ rfl
  exact ite (fun _ => ite (fun _ => h) fun _ => ite (fun _ => ite (fun _ => h) fun _ => h.join e) fun _ => kept)
    fun _ => ite (fun _ => h.join e) fun _ => marked.post _

theorem handSymbol (h : State.Does p l ch s0 s) (b : Bool) : State.Does p l ch s0 (s.handSymbol ch b) := by
  have hs := h.onChan (fun c => { c with recv := { c.recv with hunt := ((s.chan ch).recv.hunt.take b).1 } }) rfl
  unfold State.handSymbol State.received
  dsimp only
  split
  · exact hs
  · exact hs.post _
  · exact hs.offer _

theorem handSymbols (h : State.Does p l ch s0 s) (bs : List Bool) : State.Does p l ch s0 (s.handSymbols ch bs) :=
  foldl (fun b _ h => h.handSymbol b) h

theorem joinClear (h : State.Does p l ch s0 s) : State.Does p l ch s0 (s.joinClear ch) := by
  unfold State.joinClear
  split
  · exact (h.onChan _ rfl).join _
  · exact h

/-! ### The write clock -/

theorem completeRate (h : State.Does p l ch s0 s) : State.Does p l ch s0 (s.completeRate ch) := by
  refine h.onChan _ ?_
  split <;> rfl

theorem abandonRate (h : State.Does p l ch s0 s) : State.Does p l ch s0 (s.abandonRate ch) :=
  ite (fun _ => h.onChan _ rfl) fun _ => (h.onChan _ rfl).post _

theorem rateEdge (h : State.Does p l ch s0 s) : State.Does p l ch s0 (s.rateEdge ch) := by
  have hs : State.Does p l ch s0 (if s.rateExpired ch then s.abandonRate ch else s) :=
    ite (fun _ => h.abandonRate) fun _ => h
  exact hs.onChan (fun c => { c with rate := c.rate.countEdge s.now }) rfl

theorem settleGate (h : State.Does p l ch s0 s) (f : Filter) {rise fall : State → State}
    (hr : State.Does p l ch s0 (rise s)) (hf : State.Does p l ch s0 (fall s)) :
    State.Does p l ch s0 (s.settleGate f rise fall) :=
  ite (fun _ => h) fun _ => ite (fun _ => hf) fun _ => hr

theorem settleEdges (h : State.Does p l ch s0 s) : State.Does p l ch s0 (s.settleEdges ch) := by
  have h1 := h.settleGate (s.chan ch).wg (rise := fun t => t.writeRise ch) (fall := fun t => t.writeFall ch)
    h.writeRise h.writeFall
  unfold State.settleEdges
  dsimp only
  generalize s.settleGate _ _ _ = s1 at h1 ⊢
  have h2 := h1.settleGate (s1.chan ch).sg (rise := fun t => t.servoRise ch) (fall := fun t => t.servoFall ch)
    h1.servoRise h1.servoFall
  generalize s1.settleGate _ _ _ = s2 at h2 ⊢
  have h3 := h2.settleGate (s2.chan ch).rg (rise := fun t => t.readRise ch) (fall := fun t => t.readFall ch)
    h2.readRise h2.readFall
  exact ite (fun _ => h3.completeRate) fun _ => h3

theorem releaseHead (h : State.Does p l ch s0 s) : State.Does p l ch s0 (s.releaseHead ch) := by
  unfold State.releaseHead
  dsimp only
  split
  · exact h
  · next r _ =>
    refine ite (fun _ => h.departHead _ _ (by simp [Rec.incident, incident, Kind.cls])) fun _ => ?_
    refine onHead h (fun r => r.asReleased (s.allowanceNow ch)) (fun _ => ⟨rfl, rfl⟩) _ rfl (fun hl => ?_) ?_ ?_ ?_
    · exact (onHead_line _ _).trans hl
    · rw [onHead_laser]
      exact ⟨rfl, rfl, rfl, rfl⟩
    · exact onHead_heads _ _
    · exact congrArg Relay.selected (onHead_relay _ _)

theorem normalEnd (h : State.Does p l ch s0 s) : State.Does p l ch s0 (s.normalEnd ch) := by
  have hs := h.onChan (fun c => { c with pwgFallDue := true }) rfl
  refine ite (fun _ => hs.departHead _ _ (by simp)) fun _ => ?_
  exact hs.onHead (fun r => r.enterTail s.now) (fun _ => ⟨rfl, rfl⟩) _ rfl (fun hl => (onHead_line _ _).trans hl)
    (by rw [onHead_laser]; exact ⟨rfl, rfl, rfl, rfl⟩) (onHead_heads _ _) (by rw [onHead_relay])

theorem truncateHead (h : State.Does p l ch s0 s) (r : Rec) : State.Does p l ch s0 (s.truncateHead ch r) := by
  refine post (onHead h (fun r => r.truncate.enterTail s.now) (fun _ => ⟨rfl, rfl⟩) _ rfl (fun hl => ?_) ?_ ?_ ?_) _
  · simp [hl]
  · rw [onHead_laser]
    exact ⟨rfl, rfl, rfl, rfl⟩
  · exact onHead_heads _ _
  · exact congrArg Relay.selected (onHead_relay _ _)

theorem sendSymbol (h : State.Does p l ch s0 s) (r : Rec) : State.Does p l ch s0 (s.sendSymbol ch r) := by
  unfold State.sendSymbol
  split
  · exact h
  · next x rest hline =>
    have sent : State.Does p l ch s0 (s.onChan ch fun c =>
        { c.onHead Rec.sendOne with line := rest, pwd := x.value, pwg := true }) := by
      refine onHead h Rec.sendOne (fun _ => ⟨rfl, rfl⟩) _ rfl (fun hl => ?_) ?_ ?_ ?_
      · simp [hline] at hl
      · rw [onHead_laser]
        exact ⟨rfl, rfl, rfl, rfl⟩
      · exact onHead_heads _ _
      · exact congrArg Relay.selected (onHead_relay _ _)
    exact ite (fun _ => sent.normalEnd) fun _ => ite (fun _ => sent.truncateHead _) fun _ => sent

theorem releaseEdge (h : State.Does p l ch s0 s) : State.Does p l ch s0 (s.releaseEdge ch) := by
  have hs := h.onChan (fun c => { c with releaseTaken := true }) rfl
  refine ite (fun _ => onChan (ite (fun _ => hs.releaseHead) fun _ => hs) _ rfl) fun _ => ?_
  split
  · exact hs.sendSymbol _
  · exact hs.onChan _ rfl

theorem overflowAbort (h : State.Does p l ch s0 s) (r : Rec) : State.Does p l ch s0 (s.overflowAbort ch r) := by
  have dropped : State.Does p l ch s0
      (s.onChan ch fun c => (if r.state == .releasing then c.dropGate s.now else c).dropNewest r) := by
    have newest (c : Channel) : Stems (c.dropNewest r).queue c.queue := .of_subset fun _ => List.mem_of_mem_dropLast
    cases r.state == .releasing with
    | true =>
      exact h.onQueue (fun c => (c.dropGate s.now).dropNewest r) (newest ((s.chan ch).dropGate s.now))
        (fun _ hl => by simp [Channel.dropNewest, Channel.dropGate, hl]) ⟨rfl, rfl, rfl, rfl⟩ rfl rfl
    | false =>
      exact h.onQueue (fun c => c.dropNewest r) (newest _) (fun _ hl => by simp [Channel.dropNewest, hl])
        ⟨rfl, rfl, rfl, rfl⟩ rfl rfl
  have hs := dropped.post (r.incident ch .delayOverflow r.symOut)
  refine ite (fun hq => (hs.onChan _ rfl).announceEmpty ?_) fun _ => hs
  rw [chan_onChan]
  simpa using hq

theorem storeSymbol (h : State.Does p l ch s0 s) (b : Bool) : State.Does p l ch s0 (s.storeSymbol ch b) := by
  unfold State.storeSymbol
  split
  · exact h
  · next r ho =>
    refine ite (fun _ => h.onQueue _ (.onLast _ fun _ => ⟨rfl, rfl⟩) (fun hq => ?_) ⟨rfl, rfl, rfl, rfl⟩ rfl rfl)
      fun _ => h.overflowAbort _
    simp [Channel.openRec, hq] at ho

theorem routeSymbol (h : State.Does p l ch s0 s) (b : Bool) : State.Does p l ch s0 (s.routeSymbol ch b) := by
  unfold State.routeSymbol
  split
  · exact h.handSymbol b
  · exact h.storeSymbol b
  · unfold State.discardSymbol
    split
    · exact h
    · exact h.onQueue _ (.onLast _ fun _ => ⟨rfl, rfl⟩) (fun _ => id) ⟨rfl, rfl, rfl, rfl⟩ rfl rfl

theorem intakeEdge (h : State.Does p l ch s0 s) (wd wg sg rg : Bool) :
    State.Does p l ch s0 (s.intakeEdge ch wd wg sg rg) := by
  have advanced : State.Does p l ch s0 (s.advanceHold ch wd) := by
    unfold State.advanceHold
    split
    · exact (h.onChan _ rfl).routeSymbol _
    · exact h.onChan _ rfl
  exact advanced.rateEdge.onChan _ rfl

/-! ### The laser, the heat and the wedge timer -/

theorem completeRamp (h : State.Does p l ch s0 s) : State.Does p l ch s0 (s.completeRamp ch) := by
  have hb : State.Bears p ch s (s.onChan ch fun c =>
      { c with laser := { c.laser with motion := .settled s.stamp 0 } }) :=
    .onChan (.of_heads (.refl _) (fun _ => id) rfl .inl rfl)
  refine (startReady (h.tail (.plain hb ?_ ?_ ?_ ?_ ?_ ?_))).leaveIdle
  · rw [chan_onChan]
    exact context_congr rfl rfl
  · rw [chan_onChan]
  · rw [chan_onChan]
  · rw [chan_onChan]
    simp [Sequencer.want]
  · rw [chan_onChan]
    exact fun _ => rfl
  · exact fun _ => locksCalm_of_eq fun x => lockedOut_onChan s ch x _

theorem advancePark (h : State.Does p l ch s0 s) : State.Does p l ch s0 (s.advancePark ch) :=
  ite (fun _ => h.onChan _ rfl) fun _ => h

theorem coast (h : State.Does p l ch s0 s) : State.Does p l ch s0 (s.coast ch) := by
  have hs := (h.onChan (fun c => { c with wedge := c.wedge.coast }) rfl).computeFence
  exact ite (fun _ => hs.closeFence) fun _ => ite (fun _ => hs.openFence) fun _ => hs

theorem secondMiss (h : State.Does p l ch s0 s) : State.Does p l ch s0 (s.secondMiss ch) :=
  ((h.onChan _ rfl).post _).closeFence

/-! ### The link relay -/

theorem onRelay (h : State.Does p l ch s0 s) (f : Relay → Relay)
    (hf : (f (s.chan ch).relay).selected = (s.chan ch).relay.selected) :
    State.Does p l ch s0 (s.onChan ch fun c => c.onRelay f) := by
  refine h.onChan _ ?_
  simp [Channel.core, Channel.onRelay, hf]

theorem takeHeader (h : State.Does p l ch s0 s) (header : BitVec 8) (fall : BitVec 31) :
    State.Does p l ch s0 (s.takeHeader ch header fall) := by
  have hs := h.onRelay (fun r => { r with taken := headerBits header }) rfl
  exact ite (fun _ => ite (fun _ => (hs.onChan _ rfl).onChan _ rfl) fun _ => (hs.onChan _ rfl).onChan _ rfl)
    fun _ => hs.onChan _ rfl

/-- A change that bears and begins no LOCKOUT, then a complete head-select write over an empty queue (R144). -/
theorem updateHeadOf (hb : State.Bears p ch s w) (hw : ∀ x, w.lockedOut x = true → s.lockedOut x = true)
    (hq : p → (w.chan ch).queue = []) (bits : List Bool) : State.Does p l ch s (w.updateHead ch bits) := by
  have hv := hb.andOnChan
    (f := fun c => c.onRelay fun r => { r.dropSlot with taken := bits, given := bits.length }) (.of_core rfl)
  refine ite (fun _ => switchHeadOf hv (fun x hx => hw x ?_) (fun hp => ?_) _)
    fun _ => switchHeadOf (hv.post _) (fun x hx => hw x ?_) (fun hp => ?_) _
  · rwa [lockedOut_onChan] at hx
  · rw [chan_onChan]
    exact hq hp
  · rcases lockedOut_of_post hx with hx | ⟨-, hc⟩
    · rwa [lockedOut_onChan] at hx
    · simp [incident, Kind.cls] at hc
  · rw [chan_post, chan_onChan]
    exact hq hp

/-- An upstream frame ends; a head-select write that is over downstream meets an empty queue (R143 to R145). -/
theorem endFrame (h : State.Does p l ch s0 s) (all : List Bool)
    (hq : p → (s.chan ch).relay.phase = .through → (s.chan ch).relay.slot.isSome = true → (s.chan ch).queue = []) :
    State.Does p l ch s0 (s.endFrame ch all) := by
  unfold State.endFrame
  dsimp only
  split
  · exact h.onChan _ rfl
  · exact h.onChan _ rfl
  · exact h.onRelay _ (endInCatchUp_keeps _ _).1
  · next hp =>
    refine ite (fun _ => h.onChan _ rfl) fun hslot => ite (fun _ => h.trans ?_) fun _ => h.onChan _ rfl
    refine updateHeadOf (.refl s) (fun _ => id) (fun k => hq k hp ?_) all
    simpa [Option.isSome_iff_ne_none] using hslot
  · exact ite (fun _ => h.onChan _ rfl) fun _ => h.onChan _ rfl
  · exact h
  · exact h

theorem forceSwitch (h : State.Does p l ch s0 s) : State.Does p l ch s0 (s.forceSwitch ch) := by
  unfold State.forceSwitch
  dsimp only
  split
  · refine (h.removeAll.post _).announceEmpty ?_
    rw [chan_post, chan_onChan]
    rfl
  · exact h.removeAll

/-! ### Every command of a channel -/

theorem guarded {q : Prop} [Decidable q] (h : q → State.Does p l ch s w) : State.Does p l ch s (if q then w else s) :=
  ite h fun _ => .refl

end State.Does

variable {p l : Prop}

theorem execLinkFrameStart_does (ch : Ch) (s : State) : ∃ t, execLinkFrameStart ch s = .next t ∧ State.Does p l ch s t := by
  have low : State.Does p l ch s (s.onChan ch fun c => { c with lks := false }) := .onChan .refl _ rfl
  exact ⟨_, rfl, .ite (fun _ => .ite (fun _ => low.onChan _ rfl) fun _ => .ite (fun _ => low.onChan _ rfl) fun _ => low)
    fun _ => low⟩

theorem execLinkFrameEnd_does (ch : Ch) (bits : List Bool) (s : State) (hp : p → ∀ ch, (s.chan ch).OneHead) :
    ∃ t, execLinkFrameEnd ch bits s = .next t ∧ State.Does p l ch s t := by
  have high : State.Does p l ch s (s.onChan ch fun c => { c with lks := true }) := .onChan .refl _ rfl
  refine ⟨_, rfl, .ite (fun _ => .ite (fun _ => high.onChan _ rfl) fun _ => high.endFrame _ fun k hph hs => ?_)
    fun _ => high⟩
  rw [chan_onChan] at hph hs ⊢
  obtain ⟨-, hslot, -, -⟩ := hp k ch
  exact hslot hs fun e => absurd (hph.symm.trans e) (by decide)

theorem execLrdyFall_does (ch : Ch) (s : State) : ∃ t, execLrdyFall ch s = .next t ∧ State.Does p l ch s t := by
  have low : State.Does p l ch s (s.onChan ch fun c => { c with lrdy := false }) := .onChan .refl _ rfl
  refine ⟨_, rfl, ?_⟩
  split
  · exact low.raiseFault _ rfl
  · exact low

theorem execSymbolIntake_does (ch : Ch) (wd wg sg rg : Bool) (s : State) :
    ∃ t, execSymbolIntake ch wd wg sg rg s = .next t ∧ State.Does p l ch s t := by
  have hs : State.Does p l ch s (s.settleEdges ch) := .settleEdges .refl
  exact ⟨_, rfl, .guarded fun _ => .intakeEdge (.ite (fun _ => hs) fun _ => hs.releaseEdge) wd wg sg rg⟩

theorem execCatchUpComplete_does (ch : Ch) (s : State) (hp : p → ∀ ch, (s.chan ch).OneHead) :
    ∃ t, execCatchUpComplete ch s = .next t ∧ State.Does p l ch s t := by
  refine ⟨_, rfl, .guarded fun h => .ite (fun hs => ?_) fun _ => .onRelay .refl _ ?_⟩
  · refine .updateHeadOf (.refl s) (fun _ => id) (fun k => ?_) _
    obtain ⟨⟨-, hph⟩, -⟩ : (s.live ch = true ∧ (s.chan ch).relay.phase = .catchUp) ∧
        (s.chan ch).relay.ownDone s.now = true := by simpa [State.catchUpDue] using h
    obtain ⟨-, hslot, -, -⟩ := hp k ch
    exact hslot (of_and_true hs) (by simp [hph])
  · unfold Relay.caughtUp
    split <;> rfl

theorem execReplayComplete_does (ch : Ch) (s : State) (hp : p → ∀ ch, (s.chan ch).OneHead) :
    ∃ t, execReplayComplete ch s = .next t ∧ State.Does p l ch s t := by
  refine ⟨_, rfl, .guarded fun h => ?_⟩
  refine .updateHeadOf (.onChan (.of_core rfl)) (fun x hx => ?_) (fun k => ?_) _
  · rwa [lockedOut_onChan] at hx
  · obtain ⟨⟨-, hph⟩, -⟩ : (s.live ch = true ∧ (s.chan ch).relay.phase = .replay) ∧
        (s.chan ch).relay.ownDone s.now = true := by simpa [State.replayEnds] using h
    obtain ⟨-, hslot, -, hreplay⟩ := hp k ch
    rw [chan_onChan]
    exact hslot (hreplay hph) (by simp [hph])

theorem execPromotion_does (ch : Ch) (hd : HeadNo) (s : State) :
    ∃ t, execPromotion ch hd s = .next t ∧ State.Does p l ch s t := by
  refine ⟨_, rfl, .guarded fun h => .promote .refl hd ?_⟩
  simp only [State.promotionDue, Bool.and_eq_true, Bool.not_eq_true'] at h
  exact h.2

theorem execReadyTimeout_does (ch : Ch) (s : State) : ∃ t, execReadyTimeout ch s = .next t ∧ State.Does p l ch s t := by
  refine ⟨_, rfl, .guarded fun _ => .departHead .refl _ _ ?_⟩
  unfold Channel.timeoutIncidents
  split <;> simp [Rec.incident, incident, Kind.cls]

/-- A command of a channel does what its acts do; `p` gives the law of the queue. -/
theorem exec_does (c : Instr) (ch : Ch) (s : State) (hc : channelOf c = some ch) (hp : p → ∀ ch, (s.chan ch).OneHead) :
    ∃ t, exec c s = .next t ∧ State.Does p l ch s t := by
  cases c with
  | powerOn | rstnLow | resetRelease | stepGrant | heatTick | headContext | releaseContext | levelTable | channelSetup
    | globalSetup | report | clear | deferredIncidentStore | channelReset | forceLevel | forceEnd | unknownKind
    | reportFrameEnd => simp [channelOf] at hc
  | writeGateRise _ =>
    cases hc
    exact ⟨_, rfl, .guarded fun _ => .writeRise .refl⟩
  | writeGateFall _ =>
    cases hc
    exact ⟨_, rfl, .guarded fun _ => .writeFall .refl⟩
  | symbolIntake _ wd wg sg rg =>
    cases hc
    exact execSymbolIntake_does _ wd wg sg rg s
  | symbolRelease _ =>
    cases hc
    exact ⟨_, rfl, .guarded fun _ => .releaseEdge (.settleEdges .refl)⟩
  | release _ =>
    cases hc
    exact ⟨_, rfl, .guarded fun _ => .releaseHead .refl⟩
  | tailExpiry _ =>
    cases hc
    exact ⟨_, rfl, .guarded fun _ => .departHead .refl _ _ (by simp)⟩
  | promotion _ hd =>
    cases hc
    exact execPromotion_does _ hd s
  | readyTimeout _ =>
    cases hc
    exact execReadyTimeout_does _ s
  | lrdyRise _ =>
    cases hc
    exact ⟨_, rfl, .onChan .refl _ rfl⟩
  | lrdyFall _ =>
    cases hc
    exact execLrdyFall_does _ s
  | pfiChange _ level =>
    cases hc
    exact ⟨_, rfl, .onChan .refl _ rfl⟩
  | rampStep _ =>
    cases hc
    exact ⟨_, rfl, .guarded fun _ => .takeStep .refl⟩
  | rampComplete _ =>
    cases hc
    exact ⟨_, rfl, .guarded fun _ => .completeRamp .refl⟩
  | parkExpiry _ =>
    cases hc
    exact ⟨_, rfl, .guarded fun _ => .retarget (.onChan .refl _ rfl)⟩
  | readGateRise _ =>
    cases hc
    exact ⟨_, rfl, .guarded fun _ => .readRise .refl⟩
  | readGateFall _ =>
    cases hc
    exact ⟨_, rfl, .guarded fun _ => .readFall .refl⟩
  | prgRise _ =>
    cases hc
    exact ⟨_, rfl, .guarded fun _ => .onChan .refl _ rfl⟩
  | servoGateRise _ =>
    cases hc
    exact ⟨_, rfl, .guarded fun _ => .servoRise .refl⟩
  | servoGateFall _ =>
    cases hc
    exact ⟨_, rfl, .guarded fun _ => .servoFall .refl⟩
  | fenceTickReached _ =>
    cases hc
    exact ⟨_, rfl, .guarded fun _ => .openFence .refl⟩
  | acquisitionAbandon _ =>
    cases hc
    exact ⟨_, rfl, .guarded fun _ => .onChan .refl _ rfl⟩
  | wedgeMissExpiry _ =>
    cases hc
    exact ⟨_, rfl, .guarded fun _ => .ite (fun _ => .coast .refl) fun _ => .secondMiss .refl⟩
  | rateWindowComplete _ =>
    cases hc
    exact ⟨_, rfl, .guarded fun _ => .completeRate .refl⟩
  | rateWindowAbandon _ =>
    cases hc
    exact ⟨_, rfl, .guarded fun _ => .abandonRate .refl⟩
  | linkFrameStart _ =>
    cases hc
    exact execLinkFrameStart_does _ s
  | linkHeaderTaken _ header fall =>
    cases hc
    exact ⟨_, rfl, .guarded fun _ => .takeHeader .refl header fall⟩
  | catchUpComplete _ =>
    cases hc
    exact execCatchUpComplete_does _ s hp
  | linkFrameEnd _ bits =>
    cases hc
    exact execLinkFrameEnd_does _ bits s hp
  | heldFrameReplay _ bits fall =>
    cases hc
    exact ⟨_, rfl, .guarded fun _ => .onRelay .refl _ (startReplay_selected _ _ _ _)⟩
  | replayComplete _ =>
    cases hc
    exact execReplayComplete_does _ s hp
  | waitingFrameRelease _ =>
    cases hc
    exact ⟨_, rfl, .guarded fun _ => .onChan .refl _ rfl⟩
  | holdLimitExpiry _ =>
    cases hc
    exact ⟨_, rfl, .guarded fun _ => .forceSwitch .refl⟩
  | directiveFrame _ symbols =>
    cases hc
    exact ⟨_, rfl, .guarded fun _ => .handSymbols .refl symbols⟩
  | waitingClearJoin _ =>
    cases hc
    exact ⟨_, rfl, .guarded fun _ => .joinClear .refl⟩

end Sys2Proof.Machine
end

section
/-! PROOFS. Settles O4: what a command of one channel leaves of the other (R66, R107). -/

namespace Sys2Proof.Machine

open Relation

/-- At tick `now` the channel stays as it is, or its waiting request is granted and its step taken whole (R66, R107). -/
def Channel.Granted (now : Tick) (c d : Channel) : Prop := d = c ∨ ∃ b, c.laser.want = some b ∧ d = c.stepTo now b

theorem Channel.Granted.refl (now : Tick) (c : Channel) : c.Granted now c := .inl rfl

theorem Channel.Granted.of_no_want {now : Tick} {c d : Channel} (h : c.Granted now d) (hw : c.laser.want = none) :
    d = c := by
  rcases h with h | ⟨b, hb, -⟩
  · exact h
  · rw [hw] at hb
    contradiction

/-- A request that has been granted waits no more, so that no second one is. -/
theorem Channel.Granted.trans {now : Tick} {c d e : Channel} (h : c.Granted now d) (k : d.Granted now e) :
    c.Granted now e := by
  rcases h with rfl | ⟨b, hb, rfl⟩
  · exact k
  · exact .inr ⟨b, hb, k.of_no_want rfl⟩

theorem grant_granted (s : State) (y x : Ch) : (s.chan x).Granted s.now ((s.grant y).1.chan x) := by
  rcases grant_cases s y with ⟨b, hw, -, e⟩ | ⟨e, -⟩ <;> rw [e]
  · rcases ch_cases y x with rfl | rfl
    · exact .inr ⟨b, hw, chan_stepTo s x b⟩
    · exact .inl (chan_stepTo_other s y b)
  · exact .refl _ _

theorem contest_granted (s : State) (x : Ch) : (s.chan x).Granted s.now (s.contest.chan x) := by
  have k := grant_granted (s.grant s.firstInContest).1 (otherCh s.firstInContest) x
  rw [sansLaser_now (grant_sansLaser s _)] at k
  unfold State.contest
  dsimp only
  rw [chan_with_loser]
  exact (grant_granted s _ x).trans k

theorem settleRecheck_granted (s : State) (x : Ch) : (s.chan x).Granted s.now (s.settleRecheck.chan x) := by
  have h (y : Ch) := grant_granted { s with recheckDue := false } y x
  have k := contest_granted { s with recheckDue := false } x
  simp only [chan_with_recheckDue] at h k
  unfold State.settleRecheck State.recheck
  dsimp only
  split
  · split
    · rw [chan_with_recheckDue]
      exact .refl _ _
    · exact h _
    · exact h _
    · exact k
  · exact .refl _ _

theorem directZero_granted (s : State) (ch : Ch) :
    (s.chan (otherCh ch)).Granted s.now ((s.directZero ch).chan (otherCh ch)) := by
  unfold State.directZero
  dsimp only
  rw [chan_freed, chan_onChan_other]
  exact settleRecheck_granted s _

section
variable {p l : Prop} {ch : Ch} {s t : State}

/-- An act leaves the other channel, but for a step granted, and the settings. -/
theorem State.Act.other (h : State.Act p l ch s t) :
    (s.chan (otherCh ch)).Granted s.now (t.chan (otherCh ch)) ∧ t.settings = s.settings := by
  cases h with
  | plain h | renew h => exact ⟨.inl h.other, h.settings⟩
  | @zero w h =>
    have k := directZero_granted w ch
    rw [(settings_ext h.settings).1, h.other] at k
    exact ⟨k, (settings_of_sansLaser (directZero_sansLaser w ch)).trans h.settings⟩
  | grant y b hw =>
    refine ⟨?_, settings_of_sansLaser (stepTo_sansLaser s y b)⟩
    rcases ch_cases y (otherCh ch) with e | e <;> rw [e]
    · exact .inr ⟨b, hw, chan_stepTo s y b⟩
    · exact .inl (chan_stepTo_other s y b)
  | step => exact ⟨.inl (chan_stepTo_other s ch _), settings_of_sansLaser (stepTo_sansLaser s ch _)⟩
  | wait | joins => exact ⟨.inl (chan_onChan_other s ch _), settings_onChan s ch _⟩

theorem State.Does.other (h : State.Does p l ch s t) :
    (s.chan (otherCh ch)).Granted s.now (t.chan (otherCh ch)) ∧ t.settings = s.settings := by
  induction h with
  | refl => exact ⟨.refl _ _, rfl⟩
  | tail _ h ih =>
    obtain ⟨hg, hs⟩ := ih
    obtain ⟨kg, ks⟩ := h.other
    rw [(settings_ext hs).1] at kg
    exact ⟨hg.trans kg, ks.trans hs⟩

end

/-- Settles O4: the acts of a command leave the other channel, but for one step granted. -/
theorem channelIsolation : Obligations.ChannelIsolation := by
  intro c ch s t hc ht
  obtain ⟨u, hu, hdoes⟩ := exec_does (p := False) (l := False) c ch s hc False.elim
  cases hu.symm.trans ht
  obtain ⟨hother, hset⟩ := hdoes.other
  obtain ⟨-, -, hlevels, hceiling, hdiv, hreg, hsending, hseq, hpending, -⟩ := settings_ext hset
  exact ⟨hother, hlevels, hceiling, hdiv, hreg, hsending, hseq, hpending⟩

end Sys2Proof.Machine
end

section
/-! PROOFS. The acts that the directive engine's applications, a CLEAR and a re-check are made of; and then every command
but a heat tick and a reset of the whole part. -/

namespace Sys2Proof.Machine

open Relation

/-! ### A payload becomes a context (R126 to R129) -/

theorem belowRanges_clear {rs : List Range} (h : rangesOk rs) (c : Code) : clearOf rs (belowRanges rs c) := by
  obtain ⟨hout, -, -⟩ := escapeDown_spec (lo_pos_of_rangesOk h) (n := rs.length) (c := c.toNat) List.countP_le_length
  rw [clearOf, belowRanges_toNat]
  exact hout

/-- An accepted HEAD CONTEXT makes a context as loading leaves it (R126, R127, R129). -/
theorem clampContext_codesOk {e : Entry} {b : Bool} (h : contextRefusal e b = none) :
    (clampContext (contextOfPayload e)).CodesOk := by
  have counts : countsMatch e = true := by
    by_contra hn
    simp only [contextRefusal, hn, if_false] at h
    split at h <;> contradiction
  have ok : contextOk (contextOfPayload e) (rangeCount e) (bandCount e) = true := by
    by_contra hn
    simp [contextRefusal, counts, hn] at h
  simp only [contextOk, Bool.and_eq_true, decide_eq_true_eq] at ok
  obtain ⟨⟨⟨⟨⟨⟨⟨⟨hcount, hband⟩, -⟩, hall⟩, hapart⟩, -⟩, -⟩, -⟩, -⟩ := ok
  have hranges : rangesOk (contextOfPayload e).ranges := by
    refine ⟨?_, List.all_eq_true.1 hall, hapart⟩
    simp only [contextOfPayload, rangesOf, List.length_map, List.length_take]
    omega
  have hbands : (contextOfPayload e).bands ≠ [] := by
    have hlen : (bandsOf e).length = bandCount e := by
      refine bandsOfWords_full _ _ ?_
      have := beq_iff_eq.1 counts
      simp only [List.length_drop]
      omega
    intro hnil
    change bandsOf e = [] at hnil
    simp [hnil] at hlen
    omega
  refine ⟨?_, le_max_left .., hranges, belowRanges_clear hranges _, belowRanges_clear hranges _, ?_⟩
  · simpa [clampContext] using hbands
  · intro x hx
    obtain ⟨y, -, rfl⟩ := List.mem_map.1 hx
    exact belowRanges_clear hranges _

namespace State.Does

variable {p l : Prop} {ch : Ch} {s0 s : State}

/-! ### The directive engine -/

theorem refuse (h : State.Does p l ch s0 s) (e : Entry) (named : Bool) (r : RefuseReason) :
    State.Does p l ch s0 (s.refuse e named r) :=
  h.post _ (by simp [refusalOf, incident, Kind.cls])

theorem setPending (h : State.Does p l ch s0 s) (hd : HeadNo) (x : Pending) (hx : ∀ c ∈ x.waits, c.CodesOk) :
    State.Does p l ch s0 (s.setPending ch hd x) := by
  have hs : State.Does p l ch s0 (s.onChan ch fun c => c.setHead hd { c.headAt hd with pending := x }) :=
    h.change (.setHead _ hd _ rfl (fun hc => ⟨hc.1, hx⟩) (.inl rfl)) (context_setHead_of_active rfl) rfl rfl rfl
  exact ite (fun _ => hs) fun hr => hs.promote hd (by simpa using hr)

theorem applyContext (s : State) (e : Entry) : State.Does p l e.target s (s.applyContext e) := by
  have hs : State.Does p l e.target s (if reasonOpen e then s.chosen else s) :=
    ite (fun _ => .chosen .refl) fun _ => .refl
  unfold State.applyContext State.loadContext
  dsimp only
  split
  · exact hs.refuse _ _ _
  · next hr =>
    refine setPending (ite (fun _ => hs) fun _ => hs.post _ (by simp [clampedIncident, incident, Kind.cls])) _ _
      fun c hc => ?_
    cases hc
    exact clampContext_codesOk hr

theorem applyRelease (s : State) (e : Entry) : State.Does p l e.target s (s.applyRelease e) :=
  ite (fun _ => .refl) fun _ => .setPending .refl _ _ (by simp [Pending.waits])

theorem parkOff (h : State.Does p l ch s0 s) : State.Does p l ch s0 (s.parkOff ch) :=
  ite (fun _ => ite (fun _ => (h.onChan _ rfl).retarget) fun _ => h.onChan _ rfl) fun _ => h

/-- The selected head meets a new heads count over an empty queue, or stays (R135, R136). -/
theorem recheckHead (h : State.Does p l ch s0 s)
    (hq : ∀ hd, (s.chan ch).relay.selected = some hd → (s.chan ch).setup.headsCount ≤ hd.toNat → (s.chan ch).queue = []) :
    State.Does p l ch s0 (s.recheckHead ch) := by
  unfold State.recheckHead
  dsimp only
  split
  · next hd hs =>
    refine ite (fun hn => h.trans (switchHeadOf (State.Bears.post (.refl s) _) (fun x hx => ?_) (fun _ => ?_) none))
      fun _ => h
    · rcases lockedOut_of_post hx with hx | ⟨-, hc⟩
      · exact hx
      · simp [incident, Kind.cls] at hc
    · rw [chan_post]
      exact hq hd hs hn
  · exact h

theorem parkOff_view (s : State) (ch : Ch) : (s.parkOff ch).sansLaser = s.sansLaser := by
  have cleared : (s.onChan ch fun c => { c with laser := { c.laser with park := false, parkDue := false } }).sansLaser =
      s.sansLaser := onChan_laser_sansLaser _ _ _ fun _ => rfl
  unfold State.parkOff
  dsimp only
  split
  · split
    · exact (retarget_sansLaser _ _).trans cleared
    · exact cleared
  · rfl

theorem applySetup (s : State) (e : Entry) : State.Does p l e.target s (s.applySetup e) := by
  have r : State.Does p l e.target s s := .refl
  refine ite (fun _ => ite (fun _ => r.chosen.refuse _ _ _) fun _ => r.refuse _ _ _) fun _ => ite (fun _ => r.refuse _ _ _)
    fun hbusy => ((r.onChan _ rfl).parkOff).recheckHead ?_
  have hv := parkOff_view (s.onChan e.target fun c => { c with setup := setupOfPayload e }) e.target
  rw [sansLaser_chan_relay hv, sansLaser_chan_setup hv, sansLaser_chan_queue hv, chan_onChan]
  intro hd hs hn
  by_contra hq
  have hsel : s.selected e.target = some hd := hs
  refine hbusy ?_
  simp only [State.setupBusy, hsel, Bool.and_eq_true, decide_eq_true_eq, Bool.not_eq_true', List.isEmpty_eq_false_iff]
  exact ⟨hn, hq⟩

theorem resetChannel (s : State) (ch : Ch) : State.Does p l ch s (s.resetChannel ch) := by
  have hs : State.Does p l ch s ((s.onChan ch fun c => c.resetBlocks s.now).directZero ch) := by
    refine .single (.zero (.onChan (.emptied rfl rfl rfl (by simp [Channel.resetBlocks]))) fun _ x hx => .inl ?_)
    rwa [lockedOut_onChan] at hx
  refine ite (fun _ => hs.retarget) fun _ => hs.announceEmpty ?_
  rw [sansLaser_chan_queue (directZero_sansLaser _ _), chan_onChan]
  rfl

/-- A force is new only on a bench part (R83, R84). -/
theorem onForce (h : State.Does p l ch s0 s) (g : Channel → Channel) (hb : s.straps.bench = true)
    (hg : (g (s.chan ch)).sansLaser = (s.chan ch).sansLaser)
    (hl : (g (s.chan ch)).laser.code = (s.chan ch).laser.code ∧ (g (s.chan ch)).laser.target = (s.chan ch).laser.target ∧
      (g (s.chan ch)).laser.motion = (s.chan ch).laser.motion) : State.Does p l ch s0 (s.onChan ch g) := by
  have hq : (g (s.chan ch)).queue = (s.chan ch).queue := (congrArg Channel.queue hg :)
  have hline : (g (s.chan ch)).line = (s.chan ch).line := (congrArg Channel.line hg :)
  have hh : (g (s.chan ch)).heads = (s.chan ch).heads := (congrArg Channel.heads hg :)
  have hs : (g (s.chan ch)).relay = (s.chan ch).relay := (congrArg Channel.relay hg :)
  exact h.change (.of_heads (by rw [hq]; exact .refl _) (by rw [hline]; exact fun _ => id) hh (fun _ => .inr hb) (by rw [hs]))
    (context_congr hh (by rw [hs])) hl.1 hl.2.1 hl.2.2

theorem applyForce (s : State) (e : Entry) (hb : s.straps.bench = true) : State.Does p l e.target s (s.applyForce e) :=
  ite (fun _ => (onForce .refl _ hb rfl ⟨rfl, rfl, rfl⟩).retarget) fun _ => .refuse .refl _ _ _

theorem endForce (s : State) (ch : Ch) : State.Does p l ch s (s.endForce ch) := by
  refine retarget (change .refl (.of_heads (.refl _) (fun _ => id) rfl ?_ rfl) (context_congr rfl rfl) rfl rfl rfl)
  simp

/-! ### CLEAR -/

theorem examineHeads (hs : List HeadNo) (h : State.Does p l ch s0 s) (hc : l → (s.chan ch).Calm) :
    State.Does p l ch s0 (hs.foldl (fun s h => s.examineHead ch h) s) := by
  induction hs generalizing s with
  | nil => exact h
  | cons hd hs ih =>
    have same (x : Ch) : (s.examineHead ch hd).chan x = s.chan x := by
      unfold State.examineHead
      dsimp only
      split
      · rfl
      · split <;> simp
    refine ih ?_ (by rwa [same])
    unfold State.examineHead
    dsimp only
    split
    · exact h
    · exact ite (fun _ => h.postCalm _ fun hl _ => hc hl) fun _ => h

/-- The lockout check of a channel that was calm, if it was in LOCKOUT (R120, R170). -/
theorem checkLockout (h : State.Does p l ch s0 s) (was : Bool) (hc : l → was = true → (s.chan ch).Calm) :
    State.Does p l ch s0 (s.checkLockout ch was) := by
  refine ite (fun hd => ?_) fun _ => h
  have hx : State.Does p l ch s0 (s.examine ch) :=
    examineHeads allHeads h fun hl => hc hl (Bool.and_eq_true _ _ ▸ hd).1
  exact ite (fun _ => hx) fun _ => (hx.onChan _ rfl).retarget

end State.Does

/-! ### The deferred incidents -/

/-- The storing of deferred incidents begins no LOCKOUT (R167, R169). -/
theorem lockedOut_of_storeDeferred {s : State} {d : Deferred} {x : Ch} (h : (s.storeDeferred d).lockedOut x = true) :
    s.lockedOut x = true ∨ (d.incident.ch = x ∧ d.incident.kind.cls = 3) := by
  unfold State.storeDeferred at h
  split at h
  · rw [lockedOut_iff] at h ⊢
    rcases h with ⟨y, hy, hx⟩ | ⟨y, hy, hx⟩
    · rcases List.mem_append.1 hy with hy | hy
      · exact .inl (.inl ⟨y, hy, hx⟩)
      · exact .inr (by simpa [List.mem_singleton.1 hy] using hx)
    · exact .inl (.inr ⟨y, List.mem_of_mem_erase hy, hx⟩)
  · exact .inl h

theorem lockedOut_of_storeDeferreds {ds : List Deferred} {s : State} {x : Ch}
    (h : (ds.foldl State.storeDeferred s).lockedOut x = true) :
    s.lockedOut x = true ∨ ∃ d ∈ ds, d.incident.ch = x ∧ d.incident.kind.cls = 3 := by
  induction ds generalizing s with
  | nil => exact .inl h
  | cons d ds ih =>
    rcases ih h with h | ⟨e, he, hx⟩
    · rcases lockedOut_of_storeDeferred h with h | hx
      · exact .inl h
      · exact .inr ⟨d, List.mem_cons_self .., hx⟩
    · exact .inr ⟨e, List.mem_cons_of_mem d he, hx⟩

theorem mem_deferredOrder {s : State} {d : Deferred} (h : d ∈ s.deferredOrder) : d ∈ s.deferred := by
  unfold State.deferredOrder at h
  split at h
  · next x y hd =>
    rw [hd]
    split at h
    · simpa [or_comm] using h
    · exact h
  · exact h

theorem lockedOut_of_storeAllDeferred {s : State} {x : Ch} (h : s.storeAllDeferred.lockedOut x = true) :
    s.lockedOut x = true := by
  unfold State.storeAllDeferred at h
  rcases lockedOut_of_storeDeferreds h with h | ⟨d, hd, hx⟩
  · split at h
    · exact h
    · exact h
  · exact (lockedOut_iff s x).2 (.inr ⟨d, mem_deferredOrder hd, hx⟩)

/-- The storing of deferred incidents touches the incident queue alone. -/
theorem storeDeferred_same (s : State) (d : Deferred) :
    (s.storeDeferred d).a = s.a ∧ (s.storeDeferred d).b = s.b ∧ (s.storeDeferred d).settings = s.settings := by
  unfold State.storeDeferred
  split <;> exact ⟨rfl, rfl, rfl⟩

theorem storeAllDeferred_same (s : State) :
    s.storeAllDeferred.a = s.a ∧ s.storeAllDeferred.b = s.b ∧ s.storeAllDeferred.settings = s.settings := by
  have fold (ds : List Deferred) (s : State) : (ds.foldl State.storeDeferred s).a = s.a ∧
      (ds.foldl State.storeDeferred s).b = s.b ∧ (ds.foldl State.storeDeferred s).settings = s.settings := by
    induction ds generalizing s with
    | nil => exact ⟨rfl, rfl, rfl⟩
    | cons d ds ih =>
      obtain ⟨ha, hb, hs⟩ := ih (s.storeDeferred d)
      obtain ⟨ka, kb, ks⟩ := storeDeferred_same s d
      exact ⟨ha.trans ka, hb.trans kb, hs.trans ks⟩
  unfold State.storeAllDeferred
  dsimp only
  split
  · exact fold _ s.chosen
  · exact fold _ s

/-! ### What a command does -/

section
variable {p l : Prop} {s t u : State}

theorem State.Runs.refl (s : State) : State.Runs p l s s := ReflTransGen.refl

theorem State.Runs.ite {q : Prop} [Decidable q] (ht : q → State.Runs p l u s) (he : ¬ q → State.Runs p l u t) :
    State.Runs p l u (if q then s else t) := by
  split
  · next hq => exact ht hq
  · next hq => exact he hq

/-- A change of shared fields beside the straps and the incidents. -/
theorem State.Runs.set (h : State.Runs p l u s) (ha : t.a = s.a) (hb : t.b = s.b) (hi : t.incidents = s.incidents)
    (hd : t.deferred = s.deferred) (hs : t.straps = s.straps) : State.Runs p l u t :=
  h.tail (.set ha hb hi hd hs)

theorem settleRecheck_runs (s : State) : State.Runs p l s s.settleRecheck :=
  (State.Does.settleRecheck (ch := .A) .refl).runs

theorem refuse_runs (s : State) (e : Entry) (named : Bool) (r : RefuseReason) : State.Runs p l s (s.refuse e named r) :=
  (State.Does.refuse (ch := .A) .refl e named r).runs

/-- An application runs when its effect does (R156, R157). -/
theorem applyKind_runs (s : State) (d : Directive) (pick : Entry → Bool) {effect : State → Entry → State}
    (he : ∀ e, s.generalCheck d e = none → State.Runs p l s (effect s e)) :
    State.Runs p l s (s.applyKind d pick effect) := by
  have next {v : State} (h : State.Runs p l s v) : State.Runs p l s v.takeNext :=
    h.trans (State.Does.takeNext (ch := .A) .refl).runs
  unfold State.applyKind State.apply
  split
  · next e _ =>
    refine next ?_
    split
    · exact refuse_runs _ _ _ _
    · next hg => exact he e hg
  · exact .refl s

theorem applyLevels_runs (s : State) (e : Entry) : State.Runs p l s (s.applyLevels e) := by
  have hs : State.Runs p l s s.settleRecheck := settleRecheck_runs s
  refine .ite (fun _ => hs.trans (refuse_runs _ _ _ _)) fun _ => .ite (fun _ => hs.trans (refuse_runs _ _ _ _))
    fun _ => .ite (fun _ => ?_) fun _ => ?_
  · exact hs.set rfl rfl rfl rfl rfl
  · exact hs.set rfl rfl rfl rfl rfl

theorem applyGlobal_runs (s : State) (e : Entry) : State.Runs p l s (s.applyGlobal e) := by
  have hs : State.Runs p l s s.settleRecheck := settleRecheck_runs s
  refine .ite (fun _ => hs.trans (refuse_runs _ _ _ _)) fun _ => .ite (fun _ => hs.trans (refuse_runs _ _ _ _))
    fun _ => .ite (fun _ => ?_) fun _ => ?_
  · exact hs.set rfl rfl rfl rfl rfl
  · exact hs.set rfl rfl rfl rfl rfl

theorem requestReport_runs (s : State) : State.Runs p l s s.requestReport :=
  .ite (fun _ => (State.Runs.refl s).set rfl rfl rfl rfl rfl) fun _ => (State.Runs.refl s).set rfl rfl rfl rfl rfl

theorem finishReport_runs (s : State) : State.Runs p l s s.finishReport :=
  .ite (fun _ => (State.Runs.refl s).set rfl rfl rfl rfl rfl) fun _ => (State.Runs.refl s).set rfl rfl rfl rfl rfl

/-- A CLEAR runs; `l` gives the law of lockout, by which the channels it examines are calm (R81, R120). -/
theorem applyClear_runs (s : State) (e : Entry) (hl : l → ∀ x, s.lockedOut x = true → (s.chan x).Calm) :
    State.Runs p l s (s.applyClear e) := by
  let n := (e.word 1).toNat
  let s1 := (s.removeIncidents n).storeAllDeferred
  obtain ⟨ha, hb, hset⟩ := storeAllDeferred_same (s.removeIncidents n)
  have stored : State.Does p l .A s s1 := by
    refine .shared .refl ha hb hset fun _ x hx => .inl ?_
    have hr := lockedOut_of_storeAllDeferred hx
    rw [lockedOut_iff] at hr ⊢
    exact hr.imp_left fun ⟨y, hy, hk⟩ => ⟨y, List.mem_of_mem_drop hy, hk⟩
  have calm (h : l) (x : Ch) (hx : s.lockedOut x = true) : (s1.chan x).Calm := by
    rw [chan_congr ha hb x]
    exact hl h x hx
  have checked : State.Runs p l s (s1.checkLockouts s) := by
    obtain ⟨first, t, ht, eq⟩ := checkLockouts_cases s1 s
    have same (x : Ch) : t.chan x = s1.chan x := by
      rcases ht with rfl | rfl <;> simp
    have begun : State.Runs p l s t := by
      rcases ht with rfl | rfl
      · exact stored.runs
      · exact stored.chosen.runs
    have one : State.Does p l first t (t.checkLockout first (s.lockedOut first)) :=
      .checkLockout .refl _ fun h hw => by rw [same]; exact calm h first hw
    have two : State.Does p l (otherCh first) (t.checkLockout first (s.lockedOut first)) (s1.checkLockouts s) := by
      rw [eq]
      refine .checkLockout .refl _ fun h hw => ?_
      have hc := calm h (otherCh first) hw
      have hg := one.other.1
      rw [same] at hg
      rwa [hg.of_no_want (want_of_settled hc.settled)]
    exact (begun.trans one.runs).trans two.runs
  have cleared : State.Runs p l s (s.clearIncidents n) :=
    .ite (fun _ => checked.set rfl rfl rfl rfl rfl) fun _ => checked
  exact cleared.set rfl rfl rfl rfl rfl

theorem execUnknownKind_runs (s : State) : ∃ t, execUnknownKind s = .next t ∧ State.Runs p l s t := by
  refine ⟨_, rfl, ?_⟩
  split
  · exact .ite (fun _ => (State.Does.takeNext (ch := .A) (.refuse .refl _ _ _)).runs) fun _ => .refl s
  · exact .refl s

theorem execDeferredIncidentStore_runs (ch : Ch) (s : State) :
    ∃ t, execDeferredIncidentStore ch s = .next t ∧ State.Runs p l s t := by
  refine ⟨_, rfl, ?_⟩
  split
  · next d hd =>
    obtain ⟨ha, hb, hset⟩ := storeDeferred_same s d
    refine (State.Does.shared (ch := .A) .refl ha hb hset fun _ x hx => .inl ?_).runs
    rcases lockedOut_of_storeDeferred hx with hx | hx
    · exact hx
    · exact (lockedOut_iff s x).2 (.inr ⟨d, List.mem_of_find?_eq_some hd, hx⟩)
  · exact .refl s

theorem bench_of_generalCheck {s : State} {e : Entry} (h : s.generalCheck .forceLevel e = none) :
    s.straps.bench = true := by
  by_contra hb
  have hb' : s.straps.bench = false := by simpa using hb
  simp [State.generalCheck, hb', apply_ite (· = none)] at h

/-- Every command but a heat tick and a reset of the whole part does what its acts do; `p` gives the law of the queue
and `l` that of lockout. -/
theorem exec_runs (c : Instr) (s : State) (hc : isReset c = false) (hh : c ≠ .heatTick)
    (hp : p → ∀ ch, (s.chan ch).OneHead) (hl : l → ∀ x, s.lockedOut x = true → (s.chan x).Calm) :
    ∃ t, exec c s = .next t ∧ State.Runs p l s t := by
  cases hch : channelOf c with
  | some ch =>
    obtain ⟨t, ht, hd⟩ := exec_does (p := p) (l := l) c ch s hch hp
    exact ⟨t, ht, hd.runs⟩
  | none =>
    cases c with
    | powerOn | rstnLow | resetRelease => simp [isReset] at hc
    | heatTick => exact absurd rfl hh
    | stepGrant => exact ⟨_, rfl, settleRecheck_runs s⟩
    | headContext => exact ⟨_, rfl, applyKind_runs s _ _ fun e _ => (State.Does.applyContext s e).runs⟩
    | releaseContext => exact ⟨_, rfl, applyKind_runs s _ _ fun e _ => (State.Does.applyRelease s e).runs⟩
    | levelTable => exact ⟨_, rfl, applyKind_runs s _ _ fun e _ => applyLevels_runs s e⟩
    | channelSetup => exact ⟨_, rfl, applyKind_runs s _ _ fun e _ => (State.Does.applySetup s e).runs⟩
    | globalSetup => exact ⟨_, rfl, applyKind_runs s _ _ fun e _ => applyGlobal_runs s e⟩
    | report => exact ⟨_, rfl, applyKind_runs s _ _ fun _ _ => requestReport_runs s⟩
    | clear => exact ⟨_, rfl, applyKind_runs s _ _ fun e _ => applyClear_runs s e hl⟩
    | deferredIncidentStore ch => exact execDeferredIncidentStore_runs ch s
    | channelReset => exact ⟨_, rfl, applyKind_runs s _ _ fun e _ => (State.Does.resetChannel s e.target).runs⟩
    | forceLevel =>
      exact ⟨_, rfl, applyKind_runs s _ _ fun e he => (State.Does.applyForce s e (bench_of_generalCheck he)).runs⟩
    | forceEnd => exact ⟨_, rfl, applyKind_runs s _ _ fun e _ => (State.Does.endForce s e.target).runs⟩
    | unknownKind => exact execUnknownKind_runs s
    | reportFrameEnd => exact ⟨_, rfl, .ite (fun _ => finishReport_runs s) fun _ => .refl s⟩
    | _ => simp [channelOf] at hch

end

end Sys2Proof.Machine
end

section
/-! PROOFS. Settles O53, O56 and O57: the laws of lockout, of the forces and the accumulators, and of the codes. -/

namespace Sys2Proof.Machine

open Relation

/-! ### A law is kept by every step -/

/-- What every command and the passing of a tick keep, every step keeps (log entry 2). -/
theorem step_law {Pre Post : State → Prop} (hpend : ∀ s v, Pre s → Pre { s with pending := v })
    (hexec : ∀ c s t, Pre s → exec c s = .next t → Post t) (htick : ∀ s, Pre s → Post s.tick) {s t : State} (h : Pre s)
    (hs : step s = .next t) : Post t := by
  unfold step at hs
  split at hs
  · exact hexec _ _ _ (hpend s _ h) hs
  · split at hs
    · exact hexec _ _ _ h hs
    · cases hs
      exact htick s h

/-- The state in which a heat tick has updated the accumulators and has still to evaluate the heads (R115). -/
def State.heated (s : State) : State := ({ s with heatTaken := true }.heatChannel .A).heatChannel .B

theorem heated_chan (s : State) (x : Ch) : s.heated.chan x =
    { s.chan x with heads := heatHeads (s.chan x).relay.selected (s.weight (s.chan x).laser.code) (s.chan x).heads } := by
  cases x <;> rfl

/-- HEAT_TICK by its cases (R115). -/
theorem exec_heatTick (s : State) : exec .heatTick s = .next (if s.heatDue then if s.rstnLow then
    { s with heatTaken := true } else { s with heatTaken := true }.takeHeat else s) := rfl

theorem takeHeat_eq (s : State) : { s with heatTaken := true }.takeHeat =
    (((s.heated.evaluateAll .A).evaluateAll .B).advancePark .A).advancePark .B := rfl

/-- Behind the accumulators' update a heat tick does what its acts do (R115 to R119). -/
theorem takeHeat_runs {p l : Prop} (s : State) : State.Runs p l s.heated { s with heatTaken := true }.takeHeat := by
  rw [takeHeat_eq]
  exact (((State.Does.evaluateAll (ch := .A) .refl).runs.trans (State.Does.evaluateAll (ch := .B) .refl).runs).trans
    (State.Does.advancePark (ch := .A) .refl).runs).trans (State.Does.advancePark (ch := .B) .refl).runs

/-- What a heat tick does: nothing, or its mark alone while RSTN is low, or the update of the accumulators and acts. -/
theorem exec_heatTick_runs {p l : Prop} {s t : State} (h : exec .heatTick s = .next t) :
    t = s ∨ t = { s with heatTaken := true } ∨ State.Runs p l s.heated t := by
  rw [exec_heatTick] at h
  have ht := Host.Outcome.next.inj h
  split at ht
  · split at ht
    · exact .inr (.inl ht.symm)
    · exact .inr (.inr (ht ▸ takeHeat_runs s))
  · exact .inl ht.symm

/-- A reset of the whole part leaves the state, or clears the incidents and brings each channel to its initial values,
the accumulators kept but at power-on (R15, R124). -/
theorem exec_reset_chan {c : Instr} {s t : State} (hc : isReset c = true) (h : exec c s = .next t) :
    t = s ∨ (t.incidents = [] ∧ t.deferred = [] ∧ ∀ x, ∃ now phase accums,
      t.chan x = (s.chan x).atReset now phase accums ∧
        (accums = (s.chan x).accums ∨ (accums = List.replicate 8 0 ∧ ∃ r a b, c = .powerOn r a b))) := by
  cases c with
  | powerOn rstn lcA lcB =>
    cases h
    refine .inr ?_
    cases rstn
    · refine ⟨rfl, rfl, fun x => ?_⟩
      cases x <;> exact ⟨_, _, _, rfl, .inr ⟨rfl, _, _, _, rfl⟩⟩
    · refine ⟨rfl, rfl, fun x => ?_⟩
      cases x <;> exact ⟨_, _, _, rfl, .inr ⟨rfl, _, _, _, rfl⟩⟩
  | rstnLow =>
    cases h
    cases s.rstnLow
    · refine .inr ⟨rfl, rfl, fun x => ?_⟩
      cases x <;> exact ⟨_, _, _, rfl, .inl rfl⟩
    · exact .inl rfl
  | resetRelease lcA lcB =>
    cases h
    cases s.rstnLow
    · exact .inl rfl
    · refine .inr ⟨rfl, rfl, fun x => ?_⟩
      cases x <;> exact ⟨_, _, _, rfl, .inl rfl⟩
  | _ => simp [isReset] at hc

/-! ### The law of lockout (R81) -/

/-- Every channel in LOCKOUT is calm. -/
def State.LockoutCalm (s : State) : Prop := ∀ x, s.lockedOut x = true → (s.chan x).Calm

theorem Channel.Calm.congr {c d : Channel} (h : c.Calm) (hl : d.laser = c.laser) (hq : d.queue = c.queue)
    (hline : d.line = c.line) : d.Calm :=
  ⟨by rw [hl, h.code], by rw [hl, h.target], by rw [hl, h.settled], by rw [hq, h.queue], by rw [hline, h.line]⟩

theorem Channel.Calm.no_want {c : Channel} (h : c.Calm) : c.laser.want = none := want_of_settled h.settled

/-- An act brings LOCKOUT to no channel of unrest, and stirs none that is in it (R81). -/
theorem act_lockoutCalm {p : Prop} {ch : Ch} {s t : State} (h : State.Act p True ch s t) (hs : s.LockoutCalm) :
    t.LockoutCalm := by
  have calm {w : State} (hw : s.LocksCalm w) {x : Ch} (hx : w.lockedOut x = true) : (s.chan x).Calm :=
    (hw x hx).elim (hs x) id
  intro x hx
  cases h with
  | plain hb _ hcode htarget _ hset hlock =>
    have hc := calm (hlock trivial) hx
    rcases ch_cases ch x with rfl | rfl
    · exact ⟨hcode.trans hc.code, htarget.trans hc.target, hset hc.settled, hb.own.queue_nil hc.queue,
        hb.own.line hc.queue hc.line⟩
    · rwa [hb.other]
  | renew hb hcode htarget _ hset _ hlock =>
    have hc := calm (hlock trivial) hx
    rcases ch_cases ch x with rfl | rfl
    · have hzero : (t.chan x).laser.target = 0 := htarget.trans (firstTarget_of_lockedOut hx)
      have hat : (t.chan x).laser.target = (t.chan x).laser.code := by rw [hzero, hcode, hc.code]
      exact ⟨hcode.trans hc.code, hzero, hset hat hc.settled, hb.own.queue_nil hc.queue, hb.own.line hc.queue hc.line⟩
    · rwa [hb.other]
  | @zero w hb hlock =>
    have hv := directZero_sansLaser w ch
    rw [lockedOut_of_sansLaser hv] at hx
    rcases ch_cases ch x with rfl | rfl
    · obtain ⟨hcode, hsettled, -⟩ := directZero_laser w x
      have gone : (w.chan x).queue = [] ∧ (w.chan x).line = [] := by
        rcases hlock trivial x hx with hx | ⟨-, hgone⟩
        · exact ⟨hb.own.queue_nil (hs x hx).queue, hb.own.line (hs x hx).queue (hs x hx).line⟩
        · exact hgone
      exact ⟨hcode, by rw [directZero_eq], hsettled, (sansLaser_chan_queue hv x).trans gone.1,
        (sansLaser_chan_line hv x).trans gone.2⟩
    · have hc : (s.chan (otherCh ch)).Calm := by
        rcases hlock trivial _ hx with hx | ⟨he, -⟩
        · exact hs _ hx
        · exact absurd he (by cases ch <;> decide)
      have hg := directZero_granted w ch
      rw [hb.other] at hg
      rwa [hg.of_no_want hc.no_want]
  | grant y b hw =>
    rw [lockedOut_of_sansLaser (stepTo_sansLaser s y b)] at hx
    rcases ch_cases y x with rfl | rfl
    · rw [(hs x hx).no_want] at hw
      contradiction
    · rw [chan_stepTo_other]
      exact hs _ hx
  | step hne =>
    rw [lockedOut_of_sansLaser (stepTo_sansLaser s ch _)] at hx
    rcases ch_cases ch x with rfl | rfl
    · exact absurd ((hs x hx).code.trans (hs x hx).target.symm) hne
    · rw [chan_stepTo_other]
      exact hs _ hx
  | wait hne =>
    rw [lockedOut_onChan] at hx
    rcases ch_cases ch x with rfl | rfl
    · exact absurd ((hs x hx).code.trans (hs x hx).target.symm) hne
    · rw [chan_onChan_other]
      exact hs _ hx
  | joins r y b hl =>
    rw [lockedOut_onChan] at hx
    rcases ch_cases ch x with rfl | rfl
    · rw [hl] at hx
      contradiction
    · rw [chan_onChan_other]
      exact hs _ hx

/-- A law that the acts keep, and that reads neither the settings nor the marks, is kept by what a command does. -/
theorem runs_law {p l : Prop} {P : State → Prop} (hact : ∀ {ch s t}, State.Act p l ch s t → P s → P t)
    (hset : ∀ {s t : State}, t.a = s.a → t.b = s.b → t.incidents = s.incidents → t.deferred = s.deferred →
      t.straps = s.straps → P s → P t) {s t : State} (h : State.Runs p l s t) (hs : P s) : P t := by
  induction h with
  | refl => exact hs
  | tail _ h ih =>
    cases h with
    | act ch h => exact hact h ih
    | set ha hb hi hd hstraps => exact hset ha hb hi hd hstraps ih

theorem lockoutCalm_shared {s t : State} (ha : t.a = s.a) (hb : t.b = s.b) (hi : t.incidents = s.incidents)
    (hd : t.deferred = s.deferred) (h : s.LockoutCalm) : t.LockoutCalm := by
  intro x hx
  rw [lockedOut_congr hi hd] at hx
  rw [chan_congr ha hb]
  exact h x hx

theorem exec_lockoutCalm {c : Instr} {s t : State} (h : s.LockoutCalm) (ht : exec c s = .next t) : t.LockoutCalm := by
  have runs {s t : State} (hr : State.Runs False True s t) (hs : s.LockoutCalm) : t.LockoutCalm :=
    runs_law act_lockoutCalm (fun ha hb hi hd _ => lockoutCalm_shared ha hb hi hd) hr hs
  cases hc : isReset c with
  | true =>
    rcases exec_reset_chan hc ht with rfl | ⟨hi, hd, -⟩
    · exact h
    · intro x hx
      rw [lockedOut_of_none hi hd] at hx
      contradiction
  | false =>
    by_cases hh : c = .heatTick
    · subst hh
      rcases exec_heatTick_runs ht with rfl | rfl | hr
      · exact h
      · exact lockoutCalm_shared rfl rfl rfl rfl h
      · refine runs hr fun x hx => ?_
        rw [heated_chan]
        exact (h x hx).congr rfl rfl rfl
    · obtain ⟨u, hu, hr⟩ := exec_runs (p := False) (l := True) c s hc hh False.elim fun _ => h
      cases hu.symm.trans ht
      exact runs hr h

theorem tick_lockedOut (s : State) (x : Ch) : s.tick.lockedOut x = s.lockedOut x := by
  simp [State.lockedOut, State.tick, Function.comp_def]

theorem tick_chan (s : State) (x : Ch) : s.tick.chan x = (s.chan x).age (s.now + 1) := by
  cases x <;> rfl

/-- A settled code stays settled as its kept tick grows older (R19, R63). -/
theorem age_isSettled (q : Sequencer) (now : Tick) : (q.age now).isSettled = q.isSettled := by
  unfold Sequencer.age Sequencer.isSettled
  cases q.motion <;> rfl

theorem age_want (q : Sequencer) (now : Tick) : (q.age now).want = q.want := by
  unfold Sequencer.age Sequencer.want
  cases q.motion <;> rfl

/-- Settles O53: LOCKOUT begins with the records gone and the code set to 0, and nothing that an act does moves a code
whose target is 0 at 0. -/
theorem lockoutLaw : Obligations.LockoutLaw := by
  intro s t hs h
  simp only [lockoutOk_iff] at hs ⊢
  refine step_law (Pre := State.LockoutCalm) (Post := State.LockoutCalm) (fun s v h => ?_) (fun c s t => exec_lockoutCalm)
    (fun s h x hx => ?_) hs h
  · exact lockoutCalm_shared rfl rfl rfl rfl h
  · rw [tick_lockedOut] at hx
    rw [tick_chan]
    have hc := h x hx
    exact ⟨hc.code, hc.target, (age_isSettled _ _).trans hc.settled, hc.queue, hc.line⟩

/-! ### The law of the forces and of the accumulators (R84, R115) -/

theorem act_accums {p l : Prop} {ch : Ch} {s t : State} (h : State.Act p l ch s t) (x : Ch) :
    (t.chan x).accums = (s.chan x).accums := by
  rcases ch_cases ch x with rfl | rfl
  · cases h with
    | plain hb | renew hb => exact hb.own.accums
    | @zero w hb =>
      rw [Channel.accums, sansLaser_chan_heads (directZero_sansLaser w x)]
      exact hb.own.accums
    | grant y b => rw [Channel.accums, sansLaser_chan_heads (stepTo_sansLaser s y b), Channel.accums]
    | step => rw [Channel.accums, sansLaser_chan_heads (stepTo_sansLaser s x _), Channel.accums]
    | wait | joins => rw [chan_onChan]; rfl
  · rcases h.other.1 with e | ⟨b, -, e⟩ <;> rw [e]
    rfl

/-- A force is present only on a bench part, in both channels (R84). -/
def State.Forced (s : State) : Prop := ∀ x, s.ForceOk x

theorem act_forced {p l : Prop} {ch : Ch} {s t : State} (h : State.Act p l ch s t) (hs : s.Forced) : t.Forced := by
  obtain ⟨hother, hset⟩ := h.other
  have hbench : t.straps = s.straps := (settings_ext hset).2.1
  intro x hf
  rw [hbench]
  have keep (k : (s.chan x).laser.force.isSome = true) : s.straps.bench = true := hs x k
  rcases ch_cases ch x with rfl | rfl
  · cases h with
    | plain hb | renew hb => exact (hb.own.force hf).elim keep id
    | @zero w hb =>
      rw [directZero_eq] at hf
      exact (hb.own.force (by rwa [← (settleRecheck_marks w x).1])).elim keep id
    | grant y b =>
      refine keep ?_
      rcases ch_cases y x with rfl | rfl
      · rwa [chan_stepTo] at hf
      · rwa [chan_stepTo_other] at hf
    | step =>
      rw [chan_stepTo] at hf
      exact keep hf
    | wait | joins =>
      rw [chan_onChan] at hf
      exact keep hf
  · rcases hother with e | ⟨b, -, e⟩ <;> rw [e] at hf <;> exact keep hf

theorem runs_accums {p l : Prop} {s t : State} (h : State.Runs p l s t) (x : Ch) :
    (t.chan x).accums = (s.chan x).accums :=
  runs_law (P := fun u => (u.chan x).accums = (s.chan x).accums) (fun ha hs => (act_accums ha x).trans hs)
    (fun ha hb _ _ _ hs => by rw [chan_congr ha hb, hs]) h rfl

theorem forced_shared {s t : State} (ha : t.a = s.a) (hb : t.b = s.b) (hs : t.straps = s.straps) (h : s.Forced) :
    t.Forced := by
  intro x hf
  rw [chan_congr ha hb] at hf
  rw [hs]
  exact h x hf

theorem heatOk_iff (c : Channel) : c.HeatOk ↔ c.accums.length = 8 ∧ ∀ a ∈ c.accums, a ≤ 65535 := by
  simp [Channel.HeatOk, Channel.accums]

/-- A heat tick keeps the accumulators of a channel within their range (R115). -/
theorem heated_heatOk {s : State} {x : Ch} (h : (s.chan x).HeatOk) : (s.heated.chan x).HeatOk := by
  rw [heated_chan]
  refine ⟨by simpa [heatHeads] using h.1, fun hd hmem => ?_⟩
  obtain ⟨i, hi, rfl⟩ := List.mem_mapIdx.1 hmem
  exact Nat.min_le_left ..

theorem exec_force_heat {c : Instr} {s t : State} (h : s.Forced ∧ ∀ x, (s.chan x).HeatOk) (ht : exec c s = .next t) :
    t.Forced ∧ ∀ x, (t.chan x).HeatOk := by
  have runs {s t : State} (hr : State.Runs False False s t) (hs : s.Forced ∧ ∀ x, (s.chan x).HeatOk) :
      t.Forced ∧ ∀ x, (t.chan x).HeatOk := by
    refine ⟨runs_law act_forced (fun ha hb _ _ hs => forced_shared ha hb hs) hr hs.1, fun x => ?_⟩
    rw [heatOk_iff, runs_accums hr, ← heatOk_iff]
    exact hs.2 x
  cases hc : isReset c with
  | true =>
    rcases exec_reset_chan hc ht with rfl | ⟨-, -, hchan⟩
    · exact h
    · refine ⟨fun x hf => ?_, fun x => ?_⟩
      · obtain ⟨now, phase, accums, e, -⟩ := hchan x
        rw [e] at hf
        contradiction
      · obtain ⟨now, phase, accums, e, ha⟩ := hchan x
        have he : (t.chan x).accums = accums := by
          rw [e]
          simp [Channel.accums, Channel.atReset, initialChannel, initialHead, Function.comp_def]
        rw [heatOk_iff, he]
        rcases ha with rfl | ⟨rfl, -⟩
        · exact (heatOk_iff _).1 (h.2 x)
        · simp
  | false =>
    by_cases hh : c = .heatTick
    · subst hh
      rcases exec_heatTick_runs ht with rfl | rfl | hr
      · exact h
      · exact ⟨forced_shared rfl rfl rfl h.1, fun x => by rw [chan_with_heatTaken]; exact h.2 x⟩
      · refine runs hr ⟨fun x hf => ?_, fun x => heated_heatOk (h.2 x)⟩
        rw [heated_chan] at hf
        exact h.1 x hf
    · obtain ⟨u, hu, hr⟩ := exec_runs (p := False) (l := False) c s hc hh False.elim False.elim
      cases hu.symm.trans ht
      exact runs hr h

/-- Settles O56. -/
theorem forceAndHeatLaw : Obligations.ForceAndHeatLaw := by
  refine ⟨fun s t hs h => ?_, fun c s t ch hheat hpower h => ?_⟩
  · have key := step_law (Pre := fun s => s.Forced ∧ ∀ x, (s.chan x).HeatOk)
      (Post := fun s => s.Forced ∧ ∀ x, (s.chan x).HeatOk) (fun s v h => ?_) (fun c s t => exec_force_heat) (fun s h => ?_)
      ⟨fun x => (hs x).1, fun x => (hs x).2⟩ h
    · exact fun x => ⟨key.1 x, key.2 x⟩
    · exact ⟨forced_shared rfl rfl rfl h.1, fun x => by rw [chan_with_pending]; exact h.2 x⟩
    · refine ⟨fun x hf => ?_, fun x => ?_⟩
      · rw [tick_chan] at hf
        exact h.1 x hf
      · rw [tick_chan]
        exact h.2 x
  · change (t.chan ch).accums = (s.chan ch).accums
    cases hc : isReset c with
    | true =>
      rcases exec_reset_chan hc h with rfl | ⟨-, -, hchan⟩
      · rfl
      · obtain ⟨now, phase, accums, e, rfl | ⟨-, r, a, b, hpow⟩⟩ := hchan ch
        · rw [e]
          simp [Channel.accums, Channel.atReset, initialChannel, initialHead, Function.comp_def]
        · exact absurd hpow (hpower r a b)
    | false =>
      obtain ⟨u, hu, hr⟩ := exec_runs (p := False) (l := False) c s hc hheat False.elim False.elim
      cases hu.symm.trans h
      exact runs_accums hr ch

/-! ### The law of the code and the forbidden ranges (R79) -/

/-- The records of every channel carry its selected head, and its codes lie outside the ranges. -/
def State.Ranged (s : State) : Prop := ∀ x, (s.chan x).Owned ∧ (s.chan x).RangesOk

theorem context_codesOk {c : Channel} {x : Context} (h : ∀ hd ∈ c.heads, hd.CodesOk) (hx : c.context = some x) :
    x.CodesOk := by
  obtain ⟨g, -, hg⟩ := Option.bind_eq_some_iff.1 hx
  exact (headAt_codesOk h g).1 x hg

theorem ranges_rangesOk {c : Channel} (h : ∀ hd ∈ c.heads, hd.CodesOk) : rangesOk c.ranges := by
  unfold Channel.ranges
  cases hx : c.context with
  | some x =>
    obtain ⟨-, -, hr, -⟩ := context_codesOk h hx
    exact hr
  | none => simp [rangesOk, rangesApart]

theorem rampParams_ranges (c : Channel) : c.rampParams.ranges = c.ranges := by
  unfold Channel.rampParams Channel.ranges
  cases c.context with
  | some x => rfl
  | none =>
    dsimp only
    split <;> rfl

theorem zero_clear {rs : List Range} (h : rangesOk rs) : clearOf rs 0 := by
  simp only [clearOf, inRanges, List.any_eq_false, Range.has_iff]
  intro r hr hin
  have hlo := lo_pos_of_rangesOk h r hr
  have hz : (0 : Code).toNat = 0 := rfl
  omega

/-- A step toward a target outside the ranges lands outside them, from wherever it starts outside (R26, R27). -/
theorem nextCode_clear {p : RampParams} {c t : Code} (hr : rangesOk p.ranges) (hc : clearOf p.ranges c)
    (ht : clearOf p.ranges t) : clearOf p.ranges (nextCode p c t) := by
  unfold nextCode
  split
  · next h =>
    obtain ⟨hout, -, hall⟩ := escapeUp_spec (rs := p.ranges) (n := p.ranges.length)
      (c := min (c.toNat + p.step) t.toNat) List.countP_le_length
    have hpast : escapeUp p.ranges p.ranges.length (min (c.toNat + p.step) t.toNat) ≤ t.toNat := by
      by_contra hlt
      have := hall t.toNat (by omega) (by omega)
      rw [ht] at this
      contradiction
    rw [clearOf, BitVec.toNat_ofNat, Nat.mod_eq_of_lt (by omega)]
    exact hout
  · split
    · next h =>
      obtain ⟨hout, hle, -⟩ := escapeDown_spec (lo_pos_of_rangesOk hr) (n := p.ranges.length)
        (c := max (c.toNat - p.step) t.toNat) List.countP_le_length
      rw [clearOf, BitVec.toNat_ofNat, Nat.mod_eq_of_lt (by omega)]
      exact hout
    · exact hc

/-- Every target of R62 lies outside the ranges of the selected head's context (R62, R83, R129). -/
theorem firstTarget_clear {s : State} {ch : Ch} (hh : ∀ hd ∈ (s.chan ch).heads, hd.CodesOk)
    (hq : ∀ r ∈ (s.chan ch).queue, clearOf (s.chan ch).ranges r.writeCode) :
    clearOf (s.chan ch).ranges (s.firstTarget ch) := by
  have hr := ranges_rangesOk hh
  rw [← targetOf_eq_firstTarget]
  unfold State.targetOf
  dsimp only
  split
  · exact zero_clear hr
  split
  · exact belowRanges_clear hr _
  split
  · next r hrec => exact hq r (List.mem_of_mem_head? hrec)
  split
  · exact zero_clear hr
  next x hx =>
    obtain ⟨-, -, -, hbias, hread, -⟩ := context_codesOk hh hx
    have hrs : (s.chan ch).ranges = x.ranges := by simp only [Channel.ranges, hx]
    rw [hrs] at hr ⊢
    split
    · exact hread
    split
    · exact hread
    split
    · exact zero_clear hr
    · exact hbias

/-- Where records only go or are worked on, and those left see the same context, their write codes stay clear. -/
theorem Channel.Plain.records_clear {p : Prop} {bench : Bool} {c d : Channel} (h : c.Plain p bench d) (hp : p)
    (ho : c.Owned) (hc : ∀ r ∈ c.queue, clearOf c.ranges r.writeCode) : ∀ r ∈ d.queue, clearOf d.ranges r.writeCode := by
  intro r hr
  rcases h.fits hp ho with hq | ⟨hx, -⟩
  · simp [hq] at hr
  · obtain ⟨q, hq, -, hcode⟩ := h.records r hr
    rw [ranges_congr hx, hcode]
    exact hc q hq

/-- A step that is taken lands clear if its landing is (R66). -/
theorem stepTo_ranged {c : Channel} {now : Tick} {b : Code} (h : c.Owned ∧ c.RangesOk) (hb : clearOf c.ranges b) :
    (c.stepTo now b).Owned ∧ (c.stepTo now b).RangesOk := by
  obtain ⟨ho, hh, hq, ht, -, -⟩ := h
  exact ⟨ho, hh, hq, ht, by simp [Channel.stepTo, Sequencer.want], hb⟩

theorem granted_ranged {c d : Channel} {now : Tick} (h : c.Owned ∧ c.RangesOk) (hg : c.Granted now d) :
    d.Owned ∧ d.RangesOk := by
  rcases hg with rfl | ⟨b, hb, rfl⟩
  · exact h
  · have ⟨_, _, _, _, hw, _⟩ := h
    exact stepTo_ranged h (hw b hb)

theorem want_waitFor {q : Sequencer} {m : Motion} {b : Code} (h : q.motion = m.waitFor b) : q.want = some b := by
  unfold Sequencer.want
  rw [h]
  cases m <;> rfl

theorem act_ranged {l : Prop} {ch : Ch} {s t : State} (h : State.Act True l ch s t) (hs : s.Ranged) : t.Ranged := by
  have hother := h.other.1
  intro x
  rcases ch_cases ch x with rfl | rfl
  swap
  · exact granted_ranged (hs _) hother
  obtain ⟨ho, hh, hq, ht, hw, hc⟩ := hs x
  have next : clearOf (s.chan x).ranges
      (nextCode (s.chan x).rampParams (s.chan x).laser.code (s.chan x).laser.target) := by
    rw [← rampParams_ranges] at hc ht ⊢
    exact nextCode_clear (by rw [rampParams_ranges]; exact ranges_rangesOk hh) hc ht
  cases h with
  | plain hb hctx hcode htarget hwant =>
    have hr := ranges_congr hctx
    refine ⟨hb.own.owned trivial ho, hb.own.codes hh, hb.own.records_clear trivial ho hq, ?_, fun b hm => ?_, ?_⟩ <;> rw [hr]
    · rwa [htarget]
    · exact hw b (hwant b hm)
    · rwa [hcode]
  | renew hb _ htarget hwant _ hclear =>
    have hrec := hb.own.records_clear trivial ho hq
    refine ⟨hb.own.owned trivial ho, hb.own.codes hh, hrec, ?_, by simp [hwant], hclear trivial hc⟩
    rw [htarget]
    exact firstTarget_clear (hb.own.codes hh) hrec
  | @zero w hb =>
    have hv := directZero_sansLaser w x
    have hx : ((w.directZero x).chan x).context = (w.chan x).context :=
      context_congr (sansLaser_chan_heads hv x) (by rw [sansLaser_chan_relay hv])
    have hz : clearOf (w.chan x).ranges 0 := zero_clear (ranges_rangesOk (hb.own.codes hh))
    have hl := directZero_eq w x
    refine ⟨?_, ?_, ?_, ?_, ?_, ?_⟩
    · rw [Channel.Owned, sansLaser_chan_queue hv, sansLaser_chan_relay hv]
      exact hb.own.owned trivial ho
    · rw [sansLaser_chan_heads hv]
      exact hb.own.codes hh
    · rw [sansLaser_chan_queue hv, ranges_congr hx]
      exact hb.own.records_clear trivial ho hq
    · rw [ranges_congr hx, hl]
      exact hz
    · rw [hl]
      simp [Sequencer.want]
    · rw [ranges_congr hx, hl]
      exact hz
  | grant y b hwait =>
    rcases ch_cases y x with rfl | rfl
    · rw [chan_stepTo]
      exact stepTo_ranged (hs x) (hw b hwait)
    · rw [chan_stepTo_other]
      exact hs _
  | step hne =>
    rw [chan_stepTo]
    exact stepTo_ranged (hs x) next
  | wait hne =>
    rw [chan_onChan]
    refine ⟨ho, hh, hq, ht, fun b hm => ?_, hc⟩
    rw [want_waitFor rfl] at hm
    cases hm
    exact next
  | joins r y b _ hsel hx hb hr =>
    rw [chan_onChan]
    have hcodes := context_codesOk hh hx
    have hrs : (s.chan x).ranges = y.ranges := by simp only [Channel.ranges, hx]
    refine ⟨fun r' hm => ?_, hh, fun r' hm => ?_, ht, hw, hc⟩
    · rcases List.mem_append.1 hm with hm | hm
      · exact ho r' hm
      · rw [List.mem_singleton.1 hm]
        exact hsel
    · rcases List.mem_append.1 hm with hm | hm
      · exact hq r' hm
      · change clearOf (s.chan x).ranges _
        rw [List.mem_singleton.1 hm, hr, hrs]
        obtain ⟨-, -, -, -, -, hbands⟩ := hcodes
        exact hbands b hb

/-- A channel at a reset holds no context, and so no range (R60, R138). -/
theorem atReset_rangesOk (c : Channel) (now : Tick) (phase : LinkPhase) (accums : List Nat) :
    (c.atReset now phase accums).RangesOk := by
  have clear (x : Code) : clearOf (c.atReset now phase accums).ranges x := rfl
  refine ⟨fun h hh => ?_, fun _ _ => clear _, clear _, fun _ _ => clear _, clear _⟩
  obtain ⟨a, -, rfl⟩ := List.mem_map.1 hh
  simp [Head.CodesOk, initialHead, Pending.waits]

/-- The update of the accumulators reads and changes no code (R115). -/
theorem heated_ranged {s : State} (h : s.Ranged) : s.heated.Ranged := by
  intro x
  obtain ⟨ho, hh, hq, ht, hw, hc⟩ := h x
  have hctx : (s.heated.chan x).context = (s.chan x).context := by
    rw [heated_chan]
    have hat (g : HeadNo) : ((heatHeads (s.chan x).relay.selected (s.weight (s.chan x).laser.code) (s.chan x).heads).getD
        g.toNat (initialHead 0)).active = ((s.chan x).heads.getD g.toNat (initialHead 0)).active := by
      simp only [heatHeads, List.getD_eq_getElem?_getD, List.getElem?_mapIdx]
      cases (s.chan x).heads[g.toNat]? <;> rfl
    simp only [Channel.context]
    exact congrArg _ (funext hat)
  have hr := ranges_congr hctx
  refine ⟨?_, ?_, ?_, ?_, ?_, ?_⟩
  · rw [heated_chan]
    exact ho
  · rw [heated_chan]
    intro hd hmem
    obtain ⟨i, hi, rfl⟩ := List.mem_mapIdx.1 hmem
    have hold := hh _ (List.getElem_mem hi)
    exact ⟨hold.1, hold.2⟩
  all_goals
    rw [hr, heated_chan]
    assumption

theorem exec_ranged {c : Instr} {s t : State} (h : ∀ x, (s.chan x).OneHead ∧ (s.chan x).RangesOk)
    (ht : exec c s = .next t) : ∀ x, (t.chan x).RangesOk := by
  have hs : s.Ranged := fun x => ⟨(h x).1.1, (h x).2⟩
  have shared {s t : State} (ha : t.a = s.a) (hb : t.b = s.b) (hs : s.Ranged) : t.Ranged := fun x => by
    rw [chan_congr ha hb]
    exact hs x
  have runs {s t : State} (hr : State.Runs True False s t) (hs : s.Ranged) (x : Ch) : (t.chan x).RangesOk :=
    (runs_law act_ranged (fun ha hb _ _ _ => shared ha hb) hr hs x).2
  cases hc : isReset c with
  | true =>
    rcases exec_reset_chan hc ht with rfl | ⟨-, -, hchan⟩
    · exact fun x => (h x).2
    · intro x
      obtain ⟨now, phase, accums, e, -⟩ := hchan x
      rw [e]
      exact atReset_rangesOk _ _ _ _
  | false =>
    by_cases hh : c = .heatTick
    · subst hh
      rcases exec_heatTick_runs ht with rfl | rfl | hr
      · exact fun x => (h x).2
      · exact fun x => (shared (t := { s with heatTaken := true }) rfl rfl hs x).2
      · exact runs hr (heated_ranged hs)
    · obtain ⟨u, hu, hr⟩ := exec_runs (p := True) (l := False) c s hc hh (fun _ x => (h x).1) False.elim
      cases hu.symm.trans ht
      exact runs hr hs

/-- Settles O57: every code an act sets is a landing, a target of R62 or 0, and all of these lie outside the ranges. -/
theorem rangesLaw : Obligations.RangesLaw := by
  intro s t hs h
  refine step_law (Pre := fun s => ∀ x, (s.chan x).OneHead ∧ (s.chan x).RangesOk)
    (Post := fun s => ∀ x, (s.chan x).RangesOk) (fun s v h x => ?_) (fun c s t => exec_ranged) (fun s h x => ?_) hs h
  · rw [chan_with_pending]
    exact h x
  · obtain ⟨hh, hq, ht, hw, hc⟩ := (h x).2
    have hctx : (s.tick.chan x).context = (s.chan x).context := by
      have hsel : ((s.chan x).relay.advance (s.now + 1)).selected = (s.chan x).relay.selected := by
        unfold Relay.advance
        split <;> rfl
      rw [tick_chan]
      exact context_congr rfl hsel
    have hr := ranges_congr hctx
    rw [tick_chan] at hr ⊢
    refine ⟨hh, ?_, ?_, ?_, ?_⟩ <;> rw [hr]
    · exact hq
    · exact ht
    · intro b hb
      exact hw b (by rwa [← age_want _ (s.now + 1)])
    · exact hc

end Sys2Proof.Machine
end

section
/-! PROOFS. Settles O24, O28, O11 and O51: the sequencer's table, and what meets a new target at a gate or a force. -/

namespace Sys2Proof.Machine

/-! ### The state by the case of the target (R63) -/

/-- The state of a record's case goes by the record's own state. -/
def stateOfRecord : RecState → SeqState
  | .releasing => .writing
  | .tail => .tail
  | .preparing => .preheat
  | .queued => .preheat

/-- The row of R63 for a settled code and a head record. -/
theorem stateOfCase_record (st : RecState) :
    ((stateOfCase 3 true (some st)).find? fun x => x.1).map (fun x => x.2) = some (stateOfRecord st) := by
  cases st <;> rfl

theorem stateOfCase_seqState (s : State) (ch : Ch) :
    ((stateOfCase (s.firstCase ch) (s.chan ch).laser.isSettled
      ((s.chan ch).queue.head?.map fun r => r.state)).find? fun x => x.1).map (fun x => x.2) = some (s.seqState ch) := by
  unfold State.firstCase State.targetCases State.seqState State.targetOf Channel.headRec
  dsimp only
  cases s.lockedOut ch with
  | true => rfl
  | false =>
    cases (s.chan ch).laser.force with
    | some f => rfl
    | none =>
      cases (s.chan ch).queue with
      | cons r rest =>
        cases (s.chan ch).laser.isSettled with
        | false => rfl
        | true =>
          refine (stateOfCase_record r.state).trans (congrArg some ?_)
          cases h : r.state <;> simp [h, stateOfRecord]
      | nil =>
        cases (s.chan ch).context with
        | none => cases (s.chan ch).laser.isSettled <;> rfl
        | some x =>
          cases (s.chan ch).wedge.fence with
          | true => rfl
          | false =>
            cases (s.chan ch).laser.isSettled <;> cases (s.chan ch).rg.level <;> cases (s.chan ch).laser.park <;> rfl

/-- Settles O24. -/
theorem targetAndState : Obligations.TargetAndState :=
  fun s ch => ⟨targetOf_eq_firstTarget s ch, stateOfCase_seqState s ch⟩

/-- The target of a channel with no lockout, force or record, and a context (R62). -/
theorem firstTarget_of_idle {s : State} {ch : Ch} {x : Context} (hl : s.lockedOut ch = false)
    (hf : (s.chan ch).laser.force = none) (hq : (s.chan ch).queue = []) (hx : (s.chan ch).context = some x) :
    s.firstTarget ch = if (s.chan ch).wedge.fence = true then x.read else if (s.chan ch).rg.level = true then x.read
      else if (s.chan ch).laser.park = true then 0 else x.bias := by
  rw [← targetOf_eq_firstTarget]
  simp only [State.targetOf, hl, hf, hx, Channel.headRec, hq, Bool.false_eq_true, if_false, List.head?_nil]
  cases (s.chan ch).wedge.fence <;> cases (s.chan ch).rg.level <;> cases (s.chan ch).laser.park <;> rfl

/-- The target of a channel under a force, out of LOCKOUT (R62, R83). -/
theorem firstTarget_of_force {s : State} {ch : Ch} {f : Code} (hl : s.lockedOut ch = false)
    (hf : (s.chan ch).laser.force = some f) : s.firstTarget ch = belowRanges (s.chan ch).ranges f := by
  rw [← targetOf_eq_firstTarget]
  simp only [State.targetOf, hl, hf, Bool.false_eq_true, if_false]

/-! ### RAMP_COMPLETE (R68, R72) -/

theorem exec_rampComplete {s : State} {ch : Ch} {last : Stamp} {dwell : Nat} {want : Option Code} {held : Bool}
    (hl : s.live ch = true) (hm : (s.chan ch).laser.motion = .ramp last dwell want held)
    (he : last.elapsed s.now dwell = true) (hc : (s.chan ch).laser.code = (s.chan ch).laser.target) :
    exec (.rampComplete ch) s = .next (s.completeRamp ch) := by
  have hdue : s.rampCompleteDue ch = true := by
    simp [State.rampCompleteDue, hl, Sequencer.isSettled, hc, stepIsDue_eq, hm, Motion.since, Motion.wait, he]
  exact congrArg _ (if_pos hdue)

/-- A start of the ready timer is all that a laser with a settled code can meet (R72). -/
theorem startReady_lands {s w : State} {ch : Ch} {code target : Code} {m : Motion} {ready : Option Tick}
    (h : State.Lands ch s w code target m ready) :
    State.Lands ch s (w.startReady ch) code target m ((w.startReady ch).chan ch).laser.ready := by
  by_cases hs : (w.chan ch).startsReady
  · rw [startReady_pos hs]
    refine ⟨by rw [chan_onChan_other, h.other], ?_, ?_, ?_, rfl⟩ <;> rw [chan_onChan]
    · exact h.code
    · exact h.target
    · exact h.motion
  · rw [startReady_neg hs]
    exact ⟨h.other, h.code, h.target, h.motion, rfl⟩

/-- Settles O28. -/
theorem rampComplete : Obligations.RampComplete := by
  intro s ch last dwell want held hl hm he hc
  let w := s.onChan ch fun c => { c with laser := { c.laser with motion := .settled s.stamp 0 } }
  have hw : w.chan ch = { s.chan ch with laser := { (s.chan ch).laser with motion := .settled s.stamp 0 } } :=
    chan_onChan _ _ _
  have hv : (s.completeRamp ch).sansLaser = s.sansLaser :=
    (leaveIdle_sansLaser _ ch).trans ((startReady_sansLaser w ch).trans (onChan_laser_sansLaser s ch _ fun _ => rfl))
  have start : State.Lands ch s w (s.chan ch).laser.code (s.chan ch).laser.target (.settled s.stamp 0)
      (s.chan ch).laser.ready := ⟨by rw [chan_onChan_other], by rw [hw], by rw [hw], by rw [hw], by rw [hw]⟩
  have ends := (startReady_lands start).leaveIdle
  refine ⟨_, exec_rampComplete hl hm he hc, hv, ends.code, ends.target, ends.motion, ?_, ?_⟩
  · intro r rest hq hst hmode hcode
    have hs : (w.chan ch).startsReady := by
      rw [hw]
      exact ⟨r, by simp [Channel.headRec, hq], hst, hmode, rfl, hcode⟩
    refine ends.ready.trans ?_
    rw [startReady_pos hs, chan_onChan]
    simp [w]
  · intro hq
    have hs : ¬ (w.chan ch).startsReady := by
      rintro ⟨r, hr, -⟩
      simp [hw, Channel.headRec, hq] at hr
    refine ends.ready.trans ?_
    rw [startReady_neg hs, hw]

/-! ### A change that leaves the code where it is, and a recomputation -/

/-- The same start meets its target in the same way, the ready timer being the same. -/
theorem State.SameStart.meetsTarget {ch : Ch} {s w : State} (h : State.SameStart ch s w)
    (hr : (w.chan ch).laser.ready = (s.chan ch).laser.ready) (t : State) : w.meetsTarget t ch = s.meetsTarget t ch := by
  have hcur : ∀ c, w.current c = s.current c := fun c => by simp only [State.current, h.levels]
  have hcode : ∀ x, w.code x = s.code x := by
    intro x
    rcases ch_cases ch x with rfl | rfl
    · exact h.code
    · exact congrArg Sequencer.code h.other
  simp only [State.meetsTarget, h.movesTo, State.takesStep, State.used, hcur, hcode, h.now, h.ceiling, h.code, h.target,
    h.motion, hr]

/-- A change of a channel that leaves its code, target, motion and ready timer. -/
def StaysPut (f : Channel → Channel) : Prop :=
  ∀ c : Channel, (f c).laser.code = c.laser.code ∧ (f c).laser.target = c.laser.target ∧
    (f c).laser.motion = c.laser.motion ∧ (f c).laser.ready = c.laser.ready

/-- Behind such a change a recomputation brings the target of R62, and the code meets it (R64 to R67). -/
theorem retarget_onChan {f : Channel → Channel} (hf : StaysPut f) (s : State) (ch : Ch) :
    let w := s.onChan ch f
    let t := w.retarget ch
    t.sansLaser = w.sansLaser ∧ (t.chan ch).laser.target = t.firstTarget ch ∧ t.firstTarget ch = w.firstTarget ch ∧
      (t.chan ch).laser.force = (f (s.chan ch)).laser.force ∧ (t.chan ch).laser.park = (f (s.chan ch)).laser.park ∧
      (s.recheckDue = false → s.meetsTarget t ch) := by
  dsimp only
  obtain ⟨hcode, htarget, hmotion, hready⟩ := hf (s.chan ch)
  obtain ⟨hfirst, haim, -⟩ := retarget_firstTarget (s.onChan ch f) ch
  obtain ⟨-, hforce, hpark⟩ := retarget_target (s.onChan ch f) ch
  have hs : State.SameStart ch s (s.onChan ch f) := sameStart_onChan s ch f hcode htarget hmotion
  refine ⟨retarget_sansLaser _ ch, haim.trans hfirst.symm, hfirst, hforce.trans (by rw [chan_onChan]),
    hpark.trans (by rw [chan_onChan]), fun hr => ?_⟩
  rw [← hs.meetsTarget (by rw [chan_onChan, hready])]
  exact retarget_meetsTarget (hs.recheck.trans hr)

/-- The target a gate brings to a channel with no lockout, force or record, and a context (R62). -/
theorem firstTarget_onChan {f : Channel → Channel} {s : State} {ch : Ch} {x : Context}
    (hl : s.lockedOut ch = false) (hf : (f (s.chan ch)).laser.force = none) (hq : (f (s.chan ch)).queue = [])
    (hx : (f (s.chan ch)).context = some x) : (s.onChan ch f).firstTarget ch =
      if (f (s.chan ch)).wedge.fence = true then x.read else if (f (s.chan ch)).rg.level = true then x.read
      else if (f (s.chan ch)).laser.park = true then 0 else x.bias := by
  have h := firstTarget_of_idle (s := s.onChan ch f) (ch := ch) (x := x)
  rw [chan_onChan, lockedOut_onChan] at h
  exact h hl hf hq hx

/-! ### The gates (R5, R7, R75, R77, R86, R98) -/

theorem exec_writeGateFall {s : State} {ch : Ch} (hl : s.live ch = true) (hw : (s.chan ch).wg.level = true) :
    exec (.writeGateFall ch) s = .next (s.writeFall ch) :=
  congrArg _ (if_pos (by rw [hl, hw]; rfl))

theorem exec_readGateRise {s : State} {ch : Ch} (hl : s.live ch = true) (hr : (s.chan ch).rg.level = false) :
    exec (.readGateRise ch) s = .next (s.readRise ch) :=
  congrArg _ (if_pos (by rw [hl, hr]; rfl))

theorem exec_readGateFall {s : State} {ch : Ch} (hl : s.live ch = true) (hr : (s.chan ch).rg.level = true) :
    exec (.readGateFall ch) s = .next (s.readFall ch) :=
  congrArg _ (if_pos (by rw [hl, hr]; rfl))

theorem exec_servoGateFall {s : State} {ch : Ch} (hl : s.live ch = true) (hg : (s.chan ch).sg.level = true) :
    exec (.servoGateFall ch) s = .next (s.servoFall ch) :=
  congrArg _ (if_pos (by rw [hl, hg]; rfl))

/-- PRGx rises for a part that may raise it, by the conditions of R7. -/
theorem prgDue_iff {s : State} {ch : Ch} (hl : s.live ch = true) (hp : (s.chan ch).prg = false) :
    s.prgDue ch = true ↔ (s.chan ch).rg.level = true ∧ (s.chan ch).pwg = false ∧ (s.chan ch).isReleasing = false ∧
      (s.chan ch).pwgFall.elapsed s.now (s.chan ch).setup.deadTime = true := by
  simp [State.prgDue, State.elapsed, hl, hp, and_assoc]

theorem exec_prgRise {s : State} {ch : Ch} : exec (.prgRise ch) s = .next
    (if s.prgDue ch then s.onChan ch fun c => { c with prg := true } else s) := rfl

/-- A read-gate rise: the read code is the target, where nothing outranks it (R62, R75, R77). -/
theorem readRise_meets (s : State) (ch : Ch) :
    (s.readRise ch).sansLaser = (s.onChan ch fun c => { c with rg := { level := true, run := 0 } }).sansLaser ∧
      ((s.readRise ch).chan ch).laser.park = false ∧
      ((s.readRise ch).chan ch).laser.target = (s.readRise ch).firstTarget ch ∧
      (s.recheckDue = false → s.meetsTarget (s.readRise ch) ch) ∧
      ∀ x, s.lockedOut ch = false ∧ (s.chan ch).laser.force = none ∧ (s.chan ch).queue = [] ∧
          (s.chan ch).context = some x → ((s.readRise ch).chan ch).laser.target = x.read := by
  obtain ⟨hv, ht, hfirst, -, hpark, hmeets⟩ := retarget_onChan (f := fun c =>
    { c with rg := filterAt true, laser := { c.laser with park := false } }) (fun _ => ⟨rfl, rfl, rfl, rfl⟩) s ch
  refine ⟨hv.trans (onChan_sansLaser_congr s ch rfl), hpark, ht, hmeets, ?_⟩
  rintro x ⟨hl, hf, hq, hx⟩
  refine (ht.trans hfirst).trans ((firstTarget_onChan (x := x) hl hf hq ?_).trans ?_)
  · exact (context_congr rfl rfl).trans hx
  · exact ite_self x.read

/-- A read-gate fall: PRGx falls, and what stands behind the read code is the target (R7, R62, R75). -/
theorem readFall_meets (s : State) (ch : Ch) :
    (s.readFall ch).sansLaser =
        (s.onChan ch fun c => { c with rg := { level := false, run := 0 }, prg := false }).sansLaser ∧
      ((s.readFall ch).chan ch).laser.park = (s.chan ch).laser.park ∧
      ((s.readFall ch).chan ch).laser.target = (s.readFall ch).firstTarget ch ∧
      (s.recheckDue = false → s.meetsTarget (s.readFall ch) ch) ∧
      ∀ x, s.lockedOut ch = false ∧ (s.chan ch).laser.force = none ∧ (s.chan ch).queue = [] ∧
          (s.chan ch).context = some x → ((s.readFall ch).chan ch).laser.target =
        if (s.chan ch).wedge.fence = true then x.read else if (s.chan ch).laser.park = true then 0 else x.bias := by
  obtain ⟨hv, ht, hfirst, -, hpark, hmeets⟩ := retarget_onChan (f := fun c =>
    { c with rg := filterAt false, prg := false }) (fun _ => ⟨rfl, rfl, rfl, rfl⟩) s ch
  refine ⟨hv, hpark, ht, hmeets, ?_⟩
  rintro x ⟨hl, hf, hq, hx⟩
  exact (ht.trans hfirst).trans (firstTarget_onChan (x := x) hl hf hq ((context_congr rfl rfl).trans hx))

/-- A servo-gate fall with the window open and F still ahead closes it (R98). -/
theorem servoFall_closes {s : State} {ch : Ch} (hf : (s.chan ch).wedge.fence = true)
    (hp : s.fencePassed ch (s.chan ch).wedge.fenceTick = false) : s.servoFall ch = (s.onChan ch fun c =>
      { c with sg := filterAt false, wedge := { c.wedge with fence := false } }).retarget ch := by
  have hw : ((s.onChan ch fun c => { c with sg := filterAt false }).chan ch) = { s.chan ch with sg := filterAt false } :=
    chan_onChan _ _ _
  rcases closeFence_cases (s.onChan ch fun c => { c with sg := filterAt false }) ch with ⟨-, -, -, e⟩ | ⟨no, -⟩
  · exact e.trans (congrArg (State.retarget · ch) (onChan_onChan _ _ _ _))
  · rw [hw] at no
    rcases no with no | no | no
    · exact absurd (hf.symm.trans no) (by decide)
    · cases no
    · rw [State.fenceReached, hw, onChan_now] at no
      exact absurd (hp.symm.trans no) (by decide)

/-- A servo-gate fall with the window closed, or F behind, leaves the window as it is (R98). -/
theorem servoFall_keeps {s : State} {ch : Ch} (h : (s.chan ch).wedge.fence = false ∨
    s.fencePassed ch (s.chan ch).wedge.fenceTick = true) :
    s.servoFall ch = s.onChan ch fun c => { c with sg := filterAt false } := by
  have hw : ((s.onChan ch fun c => { c with sg := filterAt false }).chan ch) = { s.chan ch with sg := filterAt false } :=
    chan_onChan _ _ _
  rcases closeFence_cases (s.onChan ch fun c => { c with sg := filterAt false }) ch with ⟨hf, -, hr, -⟩ | ⟨-, e⟩
  · rw [hw] at hf
    rw [State.fenceReached, hw, onChan_now] at hr
    rcases h with h | h
    · exact absurd (hf.symm.trans h) (by decide)
    · exact absurd (hr.symm.trans h) (by decide)
  · exact e

/-- A closing window lets the target fall behind the read code (R62, R98). -/
theorem servoFall_meets (s : State) (ch : Ch) :
    (s.servoFall ch).sansLaser = (s.onChan ch fun c =>
        { c with
          sg := { level := false, run := 0 }
          wedge := { c.wedge with
            fence := c.wedge.fence && s.fencePassed ch c.wedge.fenceTick } }).sansLaser ∧
      ((s.chan ch).wedge.fence = true → ((s.servoFall ch).chan ch).wedge.fence = false →
        ((s.servoFall ch).chan ch).laser.target = (s.servoFall ch).firstTarget ch ∧
        (s.recheckDue = false → s.meetsTarget (s.servoFall ch) ch) ∧
        ∀ x, s.lockedOut ch = false ∧ (s.chan ch).laser.force = none ∧ (s.chan ch).queue = [] ∧
            (s.chan ch).context = some x → ((s.servoFall ch).chan ch).laser.target =
          if (s.chan ch).rg.level = true then x.read
          else if (s.chan ch).laser.park = true then 0 else x.bias) := by
  by_cases h : (s.chan ch).wedge.fence = true ∧ s.fencePassed ch (s.chan ch).wedge.fenceTick = false
  · obtain ⟨hf, hp⟩ := h
    obtain ⟨hv, ht, hfirst, -, -, hmeets⟩ := retarget_onChan (f := fun c =>
      { c with sg := filterAt false, wedge := { c.wedge with fence := false } }) (fun _ => ⟨rfl, rfl, rfl, rfl⟩) s ch
    rw [servoFall_closes hf hp]
    refine ⟨hv.trans (onChan_sansLaser_congr s ch ?_), fun _ _ => ⟨ht, hmeets, ?_⟩⟩
    · simp only [hf, hp]
      rfl
    · rintro x ⟨hl, hforce, hq, hx⟩
      exact (ht.trans hfirst).trans (firstTarget_onChan (x := x) hl hforce hq ((context_congr rfl rfl).trans hx))
  · have keep : (s.chan ch).wedge.fence = false ∨ s.fencePassed ch (s.chan ch).wedge.fenceTick = true := by
      cases hf : (s.chan ch).wedge.fence with
      | false => exact .inl rfl
      | true => exact .inr (Bool.eq_true_of_not_eq_false fun hp => h ⟨hf, hp⟩)
    rw [servoFall_keeps keep]
    refine ⟨onChan_sansLaser_congr s ch ?_, fun hf hn => ?_⟩
    · have hw : ((s.chan ch).wedge.fence && s.fencePassed ch (s.chan ch).wedge.fenceTick) = (s.chan ch).wedge.fence := by
        rcases keep with hk | hk <;> simp [hk]
      rw [hw]
      rfl
    · rw [chan_onChan] at hn
      exact absurd (hf.symm.trans hn) (by decide)

/-- Settles O11. -/
theorem gateEdges : Obligations.GateEdges := by
  refine ⟨fun s ch hl hw => exec_writeGateFall hl hw, fun s ch hl hr => ⟨_, exec_readGateRise hl hr, readRise_meets s ch⟩,
    fun s ch hl hr => ⟨_, exec_readGateFall hl hr, readFall_meets s ch⟩,
    fun s ch hl hg => ⟨_, exec_servoGateFall hl hg, servoFall_meets s ch⟩, fun s ch hl hp => ?_⟩
  rw [exec_prgRise]
  simp only [prgDue_iff hl hp]

/-! ### FORCE LEVEL (R83, R84, R162) -/

/-- A frame that passes the checks of R157 passes those of its directive. -/
theorem generalCheck_of_passes {s : State} {e : Entry} {d : Directive} (hd : kindOf e.kind = some d)
    (h : s.firstRefusal e = none) : s.generalCheck d e = none := by
  have hk := (kindOf_iff _ _).1 hd
  have hpresent : (e.target == .B && !s.straps.twoChannels) = !s.present e.target := by cases e.target <;> rfl
  have hpass : ∀ x ∈ s.directiveChecks e, x.1 = false := by simpa [State.firstRefusal] using h
  simp only [State.directiveChecks, hk, List.forall_mem_cons, Bool.and_assoc, hpresent] at hpass
  obtain ⟨-, hlen, hchannel, hhead, hbench, hquiet, -⟩ := hpass
  have length : d.lengthOk e.payload.length = true := by
    rw [← Bool.not_eq_false', ← hlen]
    cases d <;> rfl
  have channel : (d.namesChannel && !s.present e.target) = false := by
    rw [← hchannel]
    cases d <;> rfl
  have head : (d.namesHead && decide ((s.chan e.target).setup.headsCount ≤ e.head.toNat)) = false := by
    rw [← hhead]
    cases d <;> rfl
  have bench : (d == .forceLevel && !s.straps.bench) = false := by
    rw [← hbench]
    cases d <;> rfl
  have quiet : (d.quiet && !(s.a.queue.isEmpty && s.b.queue.isEmpty)) = false := by
    rw [← hquiet]
    cases d <;> rfl
  simp only [State.generalCheck, length, channel, head, bench, quiet, Bool.not_true, Bool.false_eq_true, if_false]

/-- A frame that passes the checks is applied by the command of its kind, and the next one is taken up (R156, R157). -/
theorem applyKind_of_passes {s : State} {e : Entry} {d : Directive} {pick : Entry → Bool}
    (effect : State → Entry → State) (ha : s.applying = some e) (hr : s.firstRefusal e = none)
    (hd : kindOf e.kind = some d) (hp : pick e = true) : s.applyKind d pick effect = (effect s e).nextFrame := by
  have hkind : s.applyingKind d pick = some e := by simp [State.applyingKind, ha, hd, hp]
  rw [← takeNext_eq]
  simp only [State.applyKind, hkind, State.apply, generalCheck_of_passes hd hr]

/-- The refusal of a frame that names no head is its record in the report (R157, R164). -/
theorem refuse_eq {e : Entry} {reason : RefuseReason} (s : State) (hk : e.kind ≠ 1 ∧ e.kind ≠ 2) :
    s.refuse e false reason = s.post (refusedFrame e reason.value) := by
  have hk' : ¬ (e.kind = 1#6 ∨ e.kind = 2#6) := not_or.2 hk
  have hd : min 65535 (reason.value * 256 + e.kind.toNat) = reason.value * 256 + e.kind.toNat := by
    have := e.kind.isLt
    cases reason <;> simp only [RefuseReason.value] <;> omega
  simp only [State.refuse, refusalOf, incident, refusedFrame, if_neg hk', hd]
  rfl

/-- The recomputation behind a change of the force, with the next frame taken up (R83, R84). -/
theorem retarget_onChan_nextFrame {f : Channel → Channel} (hf : StaysPut f)
    (hv : ∀ c, (f c).sansLaser = c.sansLaser) (s : State) (ch : Ch) :
    let t := ((s.onChan ch f).retarget ch).nextFrame
    t.sansLaser = s.nextFrame.sansLaser ∧ (t.chan ch).laser.target = t.firstTarget ch ∧
      (t.chan ch).laser.force = (f (s.chan ch)).laser.force ∧ (t.chan ch).laser.park = (f (s.chan ch)).laser.park ∧
      (s.recheckDue = false → s.meetsTarget t ch) := by
  dsimp only
  obtain ⟨hview, ht, -, hforce, hpark, hmeets⟩ := retarget_onChan hf s ch
  have hend := sameEnd_nextFrame ((s.onChan ch f).retarget ch) ch
  rw [nextFrame_chan, hend.firstTarget]
  refine ⟨nextFrame_sansLaser (hview.trans (onChan_laser_sansLaser s ch f hv)), ht, hforce, hpark, fun hr => ?_⟩
  have hmet := hmeets hr
  unfold State.meetsTarget State.takesStep at hmet ⊢
  rw [hend.movesTo, nextFrame_chan]
  exact hmet

/-- Settles O51. -/
theorem forcing : Obligations.Forcing := by
  intro s e ha hr hk ch w
  have hkind : kindOf e.kind = some .forceLevel := by rw [hk]; rfl
  have one : ∃ v, e.payload = [v] := by
    have := generalCheck_of_passes hkind hr
    apply List.length_eq_one_iff.1
    by_contra hn
    simp [State.generalCheck, Directive.lengthOk, hn] at this
  obtain ⟨v, hv⟩ := one
  have hw : w = v.toNat := by simp [w, Entry.word, hv]
  have hend : isForceEnd e = decide (w = 65535) := by
    rw [Bool.eq_iff_iff, hw, decide_eq_true_iff]
    simp [isForceEnd, hv, BitVec.toNat_eq]
  have level (h : w ≠ 65535) : exec .forceLevel s = .next (s.applyForce e).nextFrame :=
    congrArg _ (applyKind_of_passes State.applyForce ha hr hkind (by simp [hend, h]))
  have ends (h : w = 65535) : exec .forceEnd s = .next (s.endForce ch).nextFrame :=
    congrArg _ (applyKind_of_passes (fun t e => t.endForce e.target) ha hr hkind (by simp [hend, h]))
  refine ⟨fun h => ?_, fun h h' => ?_, fun h => ?_⟩
  · obtain ⟨hview, ht, hforce, hpark, hmeets⟩ := retarget_onChan_nextFrame (f := fun c =>
      { c with laser := { c.laser with force := some (BitVec.ofNat 6 w), park := false } })
      (fun _ => ⟨rfl, rfl, rfl, rfl⟩) (fun _ => rfl) s ch
    refine ⟨_, (level (by omega)).trans ?_, hview, hforce, hpark, ht, hmeets, fun hl => ?_⟩
    · exact congrArg (fun t : State => Host.Outcome.next t.nextFrame) (if_pos h)
    · exact ht.trans (firstTarget_of_force hl hforce)
  · refine (level (by omega)).trans (congrArg (fun t : State => Host.Outcome.next t.nextFrame) ?_)
    exact (if_neg (by omega)).trans (refuse_eq s (by rw [hk]; decide))
  · obtain ⟨hview, ht, hforce, hpark, hmeets⟩ := retarget_onChan_nextFrame (f := fun c =>
      { c with laser := { c.laser with force := none } }) (fun _ => ⟨rfl, rfl, rfl, rfl⟩) (fun _ => rfl) s ch
    exact ⟨_, ends h, hview, hforce, hpark, ht, hmeets⟩

end Sys2Proof.Machine
end

section
/-! PROOFS. F recomputed with no record to cut, and the hold at 0 behind it; settles O36 and O47: head switches and
channel setups. -/

namespace Sys2Proof.Machine

/-! ### The hold at 0 (R69) -/

/-- From `s` to `t` what a hold at 0 of the channel reads is the same, a ready timer that is stopped staying so. -/
structure State.SameHold (ch : Ch) (s t : State) : Prop where
  now    : t.now = s.now
  code   : (t.chan ch).laser.code = (s.chan ch).laser.code
  target : (t.chan ch).laser.target = (s.chan ch).laser.target
  motion : (t.chan ch).laser.motion = (s.chan ch).laser.motion
  ready  : (s.chan ch).laser.ready = none → (t.chan ch).laser.ready = none
  force  : (t.chan ch).laser.force = (s.chan ch).laser.force
  heads  : (t.chan ch).heads = (s.chan ch).heads
  select : (t.chan ch).relay.selected = (s.chan ch).relay.selected

theorem State.SameHold.rampParams {ch : Ch} {s t : State} (h : State.SameHold ch s t) :
    (t.chan ch).rampParams = (s.chan ch).rampParams := rampParams_congr h.select h.heads h.force

theorem State.SameHold.heldAtZero {ch : Ch} {s t : State} (h : State.SameHold ch s t) (hz : s.heldAtZero ch) :
    t.heldAtZero ch := by
  obtain ⟨hcode, hready, hwait, hctx, hforce, hmotion⟩ := hz
  unfold State.heldAtZero
  simp only [h.code, h.target, h.motion, h.now, h.force, h.rampParams, context_congr h.heads h.select]
  exact ⟨hcode, h.ready hready, hwait, hctx, hforce, hmotion⟩

/-- The motion of a hold at 0 counts from the present tick. -/
theorem State.heldAtZero.motion {s : State} {ch : Ch} (h : s.heldAtZero ch) :
    (s.chan ch).laser.motion.since = stampAt s.now ∧ (s.chan ch).laser.motion.holdsZero = true := by
  obtain ⟨-, -, -, -, -, hmotion⟩ := h
  rw [hmotion]
  split <;> exact ⟨rfl, rfl⟩

theorem State.heldAtZero.zeroHeld {s : State} {ch : Ch} (h : s.heldAtZero ch) (hd : 1 ≤ (s.chan ch).rampParams.dwell) :
    s.zeroHeld ch := by
  obtain ⟨hcode, -, hwait, -⟩ := id h
  exact ⟨hcode, h.motion.1, hwait ▸ hd⟩

/-- A recomputation of the target leaves a code held at 0 where it is (R64, R69). -/
theorem retarget_heldAtZero {s : State} {ch : Ch} (h : s.heldAtZero ch) (hd : 1 ≤ (s.chan ch).rampParams.dwell) :
    (s.retarget ch).heldAtZero ch := by
  obtain ⟨hsince, hholds⟩ := h.motion
  have hdue := zeroHeld_not_due (h.zeroHeld hd)
  obtain ⟨hcode, hready, hwait, hctx, hforce, hmotion⟩ := h
  have hv := retarget_sansLaser s ch
  obtain ⟨-, hf, -⟩ := retarget_target s ch
  have hp : ((s.retarget ch).chan ch).rampParams = (s.chan ch).rampParams :=
    rampParams_congr (by rw [sansLaser_chan_relay hv]) (sansLaser_chan_heads hv ch) hf
  have hx : ((s.retarget ch).chan ch).context = (s.chan ch).context :=
    context_congr (sansLaser_chan_heads hv ch) (by rw [sansLaser_chan_relay hv])
  have held {m : Motion} {goal : Code} (l : State.Lands ch s (s.retarget ch) 0 goal m none)
      (hw : m.wait = (s.chan ch).laser.motion.wait)
      (hm : m = if goal = 0 then .settled (stampAt s.now) m.wait else .ramp (stampAt s.now) m.wait none true) :
      (s.retarget ch).heldAtZero ch := by
    unfold State.heldAtZero
    simp only [l.code, l.target, l.motion, l.ready, hp, hx, hf, sansLaser_now hv, hw]
    refine ⟨trivial, trivial, hwait, hctx, hforce, ?_⟩
    rwa [hw] at hm
  by_cases ht : s.firstTarget ch = (s.chan ch).laser.target
  · have l := retarget_same ht
    rw [hcode, hready] at l
    exact held l rfl hmotion
  · have l := retarget_turns ht (.inr hdue)
    rw [hcode, hready] at l
    by_cases hz : s.firstTarget ch = 0
    · rw [hz, beq_self_eq_true, turn_true, hholds, if_pos rfl, hsince] at l
      exact held l rfl rfl
    · rw [beq_eq_false_iff_ne.2 (Ne.symm hz), turn_false, hsince, hholds] at l
      exact held l rfl (if_neg hz).symm

/-! ### F recomputed (R96, R97) -/

/-- F by R96, of the channel as it stands. -/
def Channel.newFence (c : Channel) : Tick := fenceTickOf c.wedge.next c.wedge.margin c.context c.rate

theorem computeFence_chan (s : State) (ch : Ch) : (s.computeFence ch).chan ch =
    { s.chan ch with wedge := { (s.chan ch).wedge with fenceTick := (s.chan ch).newFence } } := chan_onChan _ _ _

/-- A recomputation of F with no record to cut does nothing in a timer that does not predict, opens the window, or
leaves the window as it is. -/
theorem refenceEmpty_cases (s : State) (ch : Ch) :
    ((s.chan ch).wedge.lock.predicts = false ∧ s.refenceEmpty ch = s) ∨
    ((s.chan ch).wedge.lock.predicts = true ∧
      (((s.computeFence ch).fenceReached ch = true ∧ (s.chan ch).wedge.fence = false ∧
          s.refenceEmpty ch = ((s.computeFence ch).beginFence ch).retarget ch) ∨
        (((s.computeFence ch).fenceReached ch = false ∨ (s.chan ch).wedge.fence = true) ∧
          s.refenceEmpty ch = s.computeFence ch))) := by
  have hw : ((s.computeFence ch).chan ch).wedge.fence = (s.chan ch).wedge.fence := by
    rw [State.computeFence, chan_onChan]
  unfold State.refenceEmpty
  simp only [hw]
  cases (s.chan ch).wedge.lock.predicts with
  | false => exact .inl ⟨rfl, rfl⟩
  | true =>
    cases (s.computeFence ch).fenceReached ch <;> cases (s.chan ch).wedge.fence <;> simp

theorem beginFence_empty {s : State} {ch : Ch} (hq : (s.chan ch).queue = []) :
    s.beginFence ch = s.onChan ch Channel.beginFence := by
  simp [State.beginFence, hq, cutAtFence, keptAtFence, State.postAll]

/-- With an empty queue both ways to recompute F agree: there is nothing to cut, and nothing to announce. -/
theorem refence_of_empty {s : State} {ch : Ch} (hq : (s.chan ch).queue = []) : s.refence ch = s.refenceEmpty ch := by
  have hu : ((s.computeFence ch).chan ch).queue = [] := by rw [State.computeFence, chan_onChan, ← hq]
  have hopen : (s.computeFence ch).openFence ch = if ((s.computeFence ch).chan ch).wedge.fence = true then
      s.computeFence ch else ((s.computeFence ch).beginFence ch).retarget ch := by
    simp only [State.openFence, State.openFenceAfter, hu, List.isEmpty_nil, Bool.not_true, Bool.false_and,
      Bool.false_eq_true, if_false]
  unfold State.refence State.refenceEmpty
  simp only [hopen]
  cases (s.computeFence ch).fenceReached ch <;> cases ((s.computeFence ch).chan ch).wedge.fence <;> simp

theorem computeFence_sameHold (s : State) (ch : Ch) : State.SameHold ch s (s.computeFence ch) := by
  have hc := computeFence_chan s ch
  refine ⟨onChan_now _ _ _, ?_, ?_, ?_, fun h => ?_, ?_, ?_, ?_⟩ <;> rw [hc]
  exact h

theorem beginFence_sameHold (s : State) (ch : Ch) : State.SameHold ch s (s.beginFence ch) := by
  have hc := beginFence_chan s ch
  have ready (h : (s.chan ch).laser.ready = none) : ((s.beginFence ch).chan ch).laser.ready = none := by
    rw [hc]
    simp only [Channel.beginFence, h, ite_self]
  refine ⟨(beginFence_settles s ch).now, ?_, ?_, ?_, ready, ?_, ?_, ?_⟩ <;> rw [hc] <;> rfl

/-- F recomputed leaves a code held at 0 where it is. -/
theorem refenceEmpty_heldAtZero {s : State} {ch : Ch} (h : s.heldAtZero ch) (hd : 1 ≤ (s.chan ch).rampParams.dwell) :
    (s.refenceEmpty ch).heldAtZero ch := by
  have hf := computeFence_sameHold s ch
  have hb := beginFence_sameHold (s.computeFence ch) ch
  rcases refenceEmpty_cases s ch with ⟨-, e⟩ | ⟨-, ⟨-, -, e⟩ | ⟨-, e⟩⟩ <;> rw [e]
  · exact h
  · exact retarget_heldAtZero (hb.heldAtZero (hf.heldAtZero h)) (by rw [hb.rampParams, hf.rampParams]; exact hd)
  · exact hf.heldAtZero h

/-- Beside the wedge timer and the laser, F recomputed with an empty queue changes nothing that an intake does not. -/
theorem refenceEmpty_context (s : State) (ch : Ch) : ((s.refenceEmpty ch).chan ch).context = (s.chan ch).context := by
  have hf := computeFence_sameHold s ch
  have hb := beginFence_sameHold (s.computeFence ch) ch
  have hv := retarget_sansLaser ((s.computeFence ch).beginFence ch) ch
  rcases refenceEmpty_cases s ch with ⟨-, e⟩ | ⟨-, ⟨-, -, e⟩ | ⟨-, e⟩⟩ <;> rw [e]
  · exact (context_congr (sansLaser_chan_heads hv ch) (by rw [sansLaser_chan_relay hv])).trans
      ((context_congr hb.heads hb.select).trans (context_congr hf.heads hf.select))
  · exact context_congr hf.heads hf.select

/-- F is that of R96 for the context, and the window opens by R97. -/
theorem refenceEmpty_refences (s : State) (ch : Ch) : s.refences (s.refenceEmpty ch) ch := by
  have hx := refenceEmpty_context s ch
  have hc := computeFence_chan s ch
  have hr : (s.computeFence ch).fenceReached ch = ((s.chan ch).wedge.lock.predicts &&
      decide (0 ≤ (s.now - (s.chan ch).newFence).toInt)) := by
    simp only [State.fenceReached, hc]
    rw [State.computeFence, onChan_now]
    rfl
  unfold State.refences
  dsimp only
  rw [hx, ← Channel.newFence]
  rcases refenceEmpty_cases s ch with ⟨hp, e⟩ | ⟨hp, ⟨hreach, hfence, e⟩ | ⟨hreach, e⟩⟩ <;> rw [e]
  · rw [if_neg (by rw [hp]; decide)]
  · rw [hp, Bool.true_and, hreach] at hr
    rw [if_pos hp, sansLaser_chan_wedge (retarget_sansLaser _ _), beginFence_chan, hc, ← hr, Bool.or_true]
    rfl
  · rw [hp, Bool.true_and] at hr
    rw [if_pos hp, hc, ← hr]
    rcases hreach with h | h <;> simp [h]

/-- The recomputation reads the timer, the rate and the clock of the state it starts from. -/
theorem refences_congr {s w t : State} {ch : Ch} (h : w.refences t ch) (hn : w.now = s.now)
    (hw : (w.chan ch).wedge = (s.chan ch).wedge) (hr : (w.chan ch).rate = (s.chan ch).rate) : s.refences t ch := by
  unfold State.refences at h ⊢
  rwa [hn, hw, hr] at h

/-- Two states that agree beside the lasers agree so with the same wedge timer. -/
theorem setWedge_sansLaser {s t : State} (h : t.sansLaser = s.sansLaser) (ch : Ch) (w : Wedge) :
    (t.onChan ch fun c => { c with wedge := w }).sansLaser = (s.onChan ch fun c => { c with wedge := w }).sansLaser := by
  cases ch
  · exact congrArg (fun v : State => { v with a := { v.a with wedge := w } }) h
  · exact congrArg (fun v : State => { v with b := { v.b with wedge := w } }) h

/-- F recomputed with an empty queue changes the wedge timer alone beside the laser, the park condition is not set, and
the code keeps meeting its target (R77, R96, R97). -/
theorem refenceEmpty_of_empty {s : State} {ch : Ch} (hq : (s.chan ch).queue = []) :
    (∃ w, (s.refenceEmpty ch).sansLaser = (s.onChan ch fun c => { c with wedge := w }).sansLaser) ∧
      ((s.chan ch).laser.park = false → ((s.refenceEmpty ch).chan ch).laser.park = false) ∧
      ((s.chan ch).laser.target = s.firstTarget ch →
        ((s.refenceEmpty ch).chan ch).laser.target = (s.refenceEmpty ch).firstTarget ch) := by
  let u := s.computeFence ch
  have hu : u = s.onChan ch fun c => { c with wedge := { c.wedge with fenceTick := c.newFence } } := rfl
  have huq : (u.chan ch).queue = [] := by rw [computeFence_chan]; exact hq
  rcases refenceEmpty_cases s ch with ⟨-, e⟩ | ⟨-, ⟨-, -, e⟩ | ⟨-, e⟩⟩ <;> rw [e]
  · refine ⟨⟨(s.chan ch).wedge, ?_⟩, id, id⟩
    exact (congrArg State.sansLaser (setChan_chan s ch)).symm
  · have hb : (u.beginFence ch).sansLaser = (u.onChan ch fun c => { c with wedge := { c.wedge with fence := true } }).sansLaser := by
      rw [beginFence_empty huq]
      refine onChan_sansLaser_congr u ch ?_
      simp [Channel.beginFence, huq, cutAtFence, keptAtFence, runTotal, Intake.afterCut, Channel.sansLaser]
    obtain ⟨hfirst, haim, -⟩ := retarget_firstTarget (u.beginFence ch) ch
    obtain ⟨-, -, hpark⟩ := retarget_target (u.beginFence ch) ch
    refine ⟨⟨{ (s.chan ch).wedge with fenceTick := (s.chan ch).newFence, fence := true }, ?_⟩, fun _ => ?_,
      fun _ => haim.trans hfirst.symm⟩
    · refine (retarget_sansLaser _ ch).trans (hb.trans ?_)
      rw [hu, onChan_onChan]
      exact onChan_sansLaser_congr s ch rfl
    · rw [hpark, beginFence_chan]
      rfl
  · have hend : State.SameEnd ch s u :=
      sameEnd_onChan s ch _ ⟨rfl, rfl, rfl, rfl, rfl, rfl, rfl, rfl, rfl, rfl⟩
    refine ⟨⟨{ (s.chan ch).wedge with fenceTick := (s.chan ch).newFence }, onChan_sansLaser_congr s ch rfl⟩,
      fun h => hend.aim.park.trans h, fun h => ?_⟩
    rw [hend.aim.target, hend.firstTarget, h]

/-! ### A head switch (R69, R78, R96, R144) -/

/-- The channel with another head selected, or none. -/
def Channel.selecting (h : Option HeadNo) (c : Channel) : Channel := { c with relay := { c.relay with selected := h } }

/-- A head switch with an empty queue: the head is selected, the code held at 0 for a dwell of the new context, the park
condition clear, and F recomputed. -/
theorem switchHead_of_empty {s : State} {ch : Ch} (h : Option HeadNo) (hq : (s.chan ch).queue = [])
    (hx : ∀ x, ((s.chan ch).selecting h).context = some x → 1 ≤ x.dwell) :
    (∃ w, (s.switchHead ch h).sansLaser = (s.onChan ch fun c => { c.selecting h with wedge := w }).sansLaser) ∧
      (s.switchHead ch h).heldAtZero ch ∧ s.refences (s.switchHead ch h) ch ∧
      ((s.switchHead ch h).chan ch).laser.park = false ∧
      ((s.switchHead ch h).chan ch).laser.target = (s.switchHead ch h).firstTarget ch := by
  let s1 := s.onChan ch fun c => { c.selecting h with laser := { c.laser with park := false } }
  let s2 := (s1.directZero ch).retarget ch
  have hc : s1.chan ch = { (s.chan ch).selecting h with laser := { (s.chan ch).laser with park := false } } :=
    chan_onChan _ _ _
  have hctx : (s1.chan ch).context = ((s.chan ch).selecting h).context := by rw [hc]; exact context_congr rfl rfl
  have hv : s2.sansLaser = s1.sansLaser := (retarget_sansLaser _ ch).trans (directZero_sansLaser s1 ch)
  have hview : s2.sansLaser = (s.onChan ch (Channel.selecting h)).sansLaser :=
    hv.trans (onChan_sansLaser_congr s ch rfl)
  have hq2 : (s2.chan ch).queue = [] := by rw [sansLaser_chan_queue hv, hc]; exact hq
  have hx2 : (s2.chan ch).context = (s1.chan ch).context :=
    context_congr (sansLaser_chan_heads hv ch) (by rw [sansLaser_chan_relay hv])
  have hheld : s2.heldAtZero ch := directZero_retarget_held fun x e => hx x (hctx.symm.trans e)
  have hdwell : 1 ≤ (s2.chan ch).rampParams.dwell := one_le_dwell fun x e => hx x (hctx.symm.trans (hx2.symm.trans e))
  obtain ⟨hfirst, haim, -⟩ := retarget_firstTarget (s1.directZero ch) ch
  obtain ⟨-, -, hpark⟩ := retarget_target (s1.directZero ch) ch
  have hpark2 : (s2.chan ch).laser.park = false := by
    rw [hpark, directZero_eq, (settleRecheck_marks s1 ch).2.1, hc]
  obtain ⟨⟨w, hw⟩, park, target⟩ := refenceEmpty_of_empty hq2
  have e : s.switchHead ch h = s2.refenceEmpty ch := (switchHead_eq s ch h).trans (refence_of_empty hq2)
  rw [e]
  refine ⟨⟨w, hw.trans ?_⟩, refenceEmpty_heldAtZero hheld hdwell, ?_, park hpark2, target (haim.trans hfirst.symm)⟩
  · exact (setWedge_sansLaser hview ch w).trans (by rw [onChan_onChan])
  · refine refences_congr (refenceEmpty_refences s2 ch) (sansLaser_now hv |>.trans (onChan_now _ _ _)) ?_ ?_
    · rw [sansLaser_chan_wedge hv, hc]
      rfl
    · rw [sansLaser_chan_rate hv, hc]
      rfl

/-! ### A complete head-select write (R140, R144, R147) -/

/-- A head-select write that ends downstream, the queue being empty: the new head or none, as HeadSwitch states it. -/
theorem updateHead_of_empty {s : State} {ch : Ch} (bits : List Bool) (hq : (s.chan ch).queue = [])
    (hx : ∀ (g : HeadNo) (x : Context), (s.chan ch).contextOf g = some x → 1 ≤ x.dwell) :
    let h := requestedHead bits
    let n := (s.chan ch).setup.headsCount
    let t := s.updateHead ch bits
    let went (sel : Option HeadNo) : Prop := (t.chan ch).relay =
      { (s.chan ch).relay.dropSlot with taken := bits, given := bits.length, selected := sel }
    t.heldAtZero ch ∧ s.refences t ch ∧ (t.chan ch).laser.park = false ∧ (t.chan ch).laser.target = t.firstTarget ch ∧
      (t.chan ch).heads = (s.chan ch).heads ∧ (t.chan ch).queue = [] ∧
      (h.toNat < n → went (some h) ∧ t.incidents = s.incidents) ∧
      (n ≤ h.toNat → went none ∧ t.incidents = (s.post
        { kind := .headInvalid, ch := ch, head := some h, burst := none, detail := min 65535 n }).incidents) := by
  intro h n
  let s1 := s.onChan ch fun c => c.onRelay fun r => { r.dropSlot with taken := bits, given := bits.length }
  have hc : s1.chan ch = (s.chan ch).onRelay fun r => { r.dropSlot with taken := bits, given := bits.length } :=
    chan_onChan _ _ _
  have ends {w : State} (sel : Option HeadNo) (hw : w.chan ch = s1.chan ch) (hn : w.now = s.now) :
      let t := w.switchHead ch sel
      t.heldAtZero ch ∧ s.refences t ch ∧ (t.chan ch).laser.park = false ∧
        (t.chan ch).laser.target = t.firstTarget ch ∧ (t.chan ch).heads = (s.chan ch).heads ∧ (t.chan ch).queue = [] ∧
        (t.chan ch).relay = { (s.chan ch).relay.dropSlot with taken := bits, given := bits.length, selected := sel } ∧
        t.incidents = w.incidents := by
    have hdwell : ∀ x, ((w.chan ch).selecting sel).context = some x → 1 ≤ x.dwell := by
      intro x hxs
      rw [hw, hc] at hxs
      obtain ⟨g, -, hg⟩ := Option.bind_eq_some_iff.1 hxs
      exact hx g x hg
    obtain ⟨⟨v, hv⟩, hheld, hfence, hpark, htarget⟩ := switchHead_of_empty sel (by rw [hw, hc]; exact hq) hdwell
    refine ⟨hheld, refences_congr hfence hn (by rw [hw, hc]; rfl) (by rw [hw, hc]; rfl), hpark, htarget, ?_, ?_, ?_, ?_⟩
    · rw [sansLaser_chan_heads hv, chan_onChan, hw, hc]
      rfl
    · rw [sansLaser_chan_queue hv, chan_onChan, hw, hc]
      exact hq
    · rw [sansLaser_chan_relay hv, chan_onChan, hw, hc]
      rfl
    · rw [sansLaser_incidents hv, onChan_incidents]
  have hcount : (s1.chan ch).setup.headsCount = n := by rw [hc]; rfl
  by_cases hh : h.toNat < n
  · have e : s.updateHead ch bits = s1.switchHead ch (some h) := if_pos hh
    obtain ⟨hheld, hfence, hpark, htarget, hheads, hqueue, hrelay, hinc⟩ := ends (some h) rfl (onChan_now _ _ _)
    rw [e]
    exact ⟨hheld, hfence, hpark, htarget, hheads, hqueue, fun _ => ⟨hrelay, hinc.trans (onChan_incidents _ _ _)⟩,
      fun no => absurd hh (Nat.not_lt.2 no)⟩
  · let i := incident .headInvalid ch (some h) none n
    have e : s.updateHead ch bits = (s1.post i).switchHead ch none := if_neg hh
    obtain ⟨hheld, hfence, hpark, htarget, hheads, hqueue, hrelay, hinc⟩ :=
      ends (w := s1.post i) none (chan_post s1 i ch) ((post_settles s1 i).now.trans (onChan_now _ _ _))
    rw [e]
    refine ⟨hheld, hfence, hpark, htarget, hheads, hqueue, fun yes => absurd yes hh, fun _ => ⟨hrelay, hinc.trans ?_⟩⟩
    exact post_incidents_congr i (onChan_incidents _ _ _) (onChan_nextIncident _ _ _)

/-- The three last bits of a whole frame name the head (R140). -/
theorem requestedHead_eq (all : List Bool) :
    let place (i : Nat) (v : Nat) : Nat := if all[i]? = some true then v else 0
    requestedHead all = BitVec.ofNat 3 (place 21 4 + place 22 2 + place 23 1) := by
  have bit (i : Nat) : all.getD i false = decide (all[i]? = some true) := by
    rw [List.getD_eq_getElem?_getD]
    rcases all[i]? with _ | _ | _ <;> rfl
  simp only [requestedHead, bit, decide_eq_true_eq]

/-- A whole head-select write that ends in THROUGH switches the head (R144). -/
theorem exec_linkFrameEnd_write {s : State} {ch : Ch} {bits all : List Bool} (hl : s.live ch = true)
    (hphase : (s.chan ch).relay.phase = .through) (hslot : (s.chan ch).relay.slot.isSome = true)
    (hlks : (s.chan ch).lks = false) (hwait : (s.chan ch).relay.waiting = false)
    (hbits : (s.chan ch).relay.taken ++ bits = all) (hall : all.length = 24) :
    exec (.linkFrameEnd ch bits) s = .next ((s.onChan ch fun c => { c with lks := true }).updateHead ch all) := by
  have htake : ((s.chan ch).relay.taken ++ bits).take 24 = all := by rw [hbits, List.take_of_length_le hall.le]
  have hslot' : (s.chan ch).relay.slot.isNone = false := by rw [← Option.not_isSome, hslot]; rfl
  simp [exec, execLinkFrameEnd, hl, hlks, hwait, htake, State.endFrame, hphase, hslot', hall]

/-- A replay that is over switches the head (R144, R147). -/
theorem exec_replayComplete_due {s : State} {ch : Ch} {all : List Bool} (hl : s.live ch = true)
    (hphase : (s.chan ch).relay.phase = .replay)
    (hslot : (s.chan ch).relay.slot = some { bits := all, complete := true })
    (hdone : (s.chan ch).relay.ownDone s.now = true) : exec (.replayComplete ch) s =
      .next ((s.onChan ch fun c => c.onRelay fun r => { r with lastOwn := s.stamp }).updateHead ch all) := by
  simp [exec, execReplayComplete, State.replayEnds, hl, hphase, hdone, State.finishReplay, hslot]

/-- A catch-up that is over with the whole write sent behind its upstream end switches the head (R144). -/
theorem exec_catchUpComplete_write {s : State} {ch : Ch} {all : List Bool} (hl : s.live ch = true)
    (hphase : (s.chan ch).relay.phase = .catchUp) (hending : (s.chan ch).relay.ending = true)
    (hslot : (s.chan ch).relay.slot.isSome = true) (htaken : (s.chan ch).relay.taken = all)
    (hdone : (s.chan ch).relay.ownDone s.now = true) :
    exec (.catchUpComplete ch) s = .next (s.updateHead ch all) := by
  simp [exec, execCatchUpComplete, State.catchUpDue, hl, hphase, hdone, hending, hslot, htaken]

/-- Settles O36. -/
theorem headSwitch : Obligations.HeadSwitch := by
  intro s ch all hl hq hx hall place h n switched
  have hhead : requestedHead all = h := requestedHead_eq all
  have switches {w : State} (hw : w.chan ch = { s.chan ch with lks := (w.chan ch).lks, relay := (w.chan ch).relay })
      (hn : w.now = s.now) (hi : w.incidents = s.incidents) (hnext : w.nextIncident = s.nextIncident)
      (hwait : (w.chan ch).relay.waiting = (s.chan ch).relay.waiting) :
      switched (w.updateHead ch all) ∧ ((w.updateHead ch all).chan ch).relay.lastOwn = (w.chan ch).relay.lastOwn := by
    have hcount : (w.chan ch).setup.headsCount = n := by rw [hw]
    have hctx : (w.chan ch).contextOf = (s.chan ch).contextOf := contextOf_congr (by rw [hw])
    obtain ⟨hheld, hfence, hpark, htarget, hheads, hqueue, inside, outside⟩ :=
      updateHead_of_empty (s := w) (ch := ch) all (by rw [hw]; exact hq) (by rw [hctx]; exact hx)
    rw [hhead, hcount] at inside outside
    have common : (w.updateHead ch all).heldAtZero ch ∧ s.refences (w.updateHead ch all) ch :=
      ⟨hheld, refences_congr hfence hn (by rw [hw]) (by rw [hw])⟩
    rw [hw] at hheads
    rcases Nat.lt_or_ge h.toNat n with hh | hh
    · obtain ⟨hrelay, hinc⟩ := inside hh
      refine ⟨⟨by rw [hrelay]; rfl, by rw [hrelay]; rfl, by rw [hrelay]; exact hwait, common.1, common.2, hpark, htarget,
        hheads, hqueue, fun _ => ⟨by rw [hrelay], hinc.trans hi⟩, fun no => absurd hh (Nat.not_lt.2 no)⟩,
        by rw [hrelay]; rfl⟩
    · obtain ⟨hrelay, hinc⟩ := outside hh
      refine ⟨⟨by rw [hrelay]; rfl, by rw [hrelay]; rfl, by rw [hrelay]; exact hwait, common.1, common.2, hpark, htarget,
        hheads, hqueue, fun yes => absurd yes (Nat.not_lt.2 hh), fun _ => ⟨by rw [hrelay], hinc.trans ?_⟩⟩,
        by rw [hrelay]; rfl⟩
      exact post_incidents_congr _ hi hnext
  refine ⟨fun bits hphase hslot hlks hwait hbits => ?_, fun hphase hgoal hslot hstart hlong => ?_,
    fun hphase hending hslot htaken hstart hlong => ?_⟩
  · have hc := chan_onChan s ch fun c => { c with lks := true }
    obtain ⟨done, -⟩ := switches (w := s.onChan ch fun c => { c with lks := true }) (by rw [hc]) (onChan_now _ _ _)
      (onChan_incidents _ _ _) (onChan_nextIncident _ _ _) (by rw [hc])
    exact ⟨_, exec_linkFrameEnd_write hl hphase hslot hlks hwait hbits hall, done⟩
  · have hc := chan_onChan s ch fun c => c.onRelay fun r => { r with lastOwn := s.stamp }
    obtain ⟨done, hown⟩ := switches (w := s.onChan ch fun c => c.onRelay fun r => { r with lastOwn := s.stamp })
      (by rw [hc]; rfl) (onChan_now _ _ _) (onChan_incidents _ _ _) (onChan_nextIncident _ _ _) (by rw [hc]; rfl)
    have hdone : (s.chan ch).relay.ownDone s.now = true :=
      (ownDone_iff s _).2 ⟨hstart, by rw [hgoal]; exact hlong⟩
    exact ⟨_, exec_replayComplete_due hl hphase hslot hdone, done, hown.trans (by rw [hc]; rfl)⟩
  · obtain ⟨done, hown⟩ := switches (w := s) rfl rfl rfl rfl rfl
    have hdone : (s.chan ch).relay.ownDone s.now = true := (ownDone_iff s _).2 ⟨hstart, hlong⟩
    exact ⟨_, exec_catchUpComplete_write hl hphase hending hslot htaken hdone, done, hown⟩

end Sys2Proof.Machine
end

section
/-! PROOFS. Settles O47: CHANNEL SETUP (R76, R78, R135, R136, R158). -/

namespace Sys2Proof.Machine

/-! ### The payload's checks (R135) -/

theorem setupOk_iff (x : Setup) : setupOk x = true ↔ 1000 ≤ x.nominal ∧ x.nominal ≤ 1048575 ∧ 1 ≤ x.tolerance ∧
    x.faultMask ≤ 2 ∧ 1 ≤ x.headsCount ∧ x.headsCount ≤ 8 ∧ 1 ≤ x.holdLimit := by
  simp only [setupOk, Bool.and_eq_true, decide_eq_true_eq, and_assoc]

theorem setupBusy_iff (s : State) (ch : Ch) (x : Setup) : s.setupBusy ch x = true ↔
    (∃ h, (s.chan ch).relay.selected = some h ∧ x.headsCount ≤ h.toNat) ∧ (s.chan ch).queue ≠ [] := by
  unfold State.setupBusy State.selected
  cases (s.chan ch).relay.selected with
  | none => simp
  | some h => simp

/-- CHANNEL SETUP of a frame that passes the checks of R157. -/
theorem exec_channelSetup {s : State} {e : Entry} (ha : s.applying = some e) (hr : s.firstRefusal e = none)
    (hk : e.kind = 4) : exec .channelSetup s = .next (s.applySetup e).nextFrame :=
  congrArg _ (applyKind_of_passes State.applySetup ha hr (by rw [hk]; rfl) rfl)

/-- An incident does not read the count of free choices. -/
theorem post_chosen (s : State) (i : Incident) : s.chosen.post i = { s.post i with freeCount := s.freeCount + 1 } := by
  unfold State.post State.chosen
  dsimp only
  split
  · rfl
  · split <;> rfl

/-! ### The park delay and the selected head (R76, R78, R136) -/

theorem parkOff_zero {s : State} {ch : Ch} (h : (s.chan ch).setup.parkDelay = 0) : s.parkOff ch =
    let s1 := s.onChan ch fun c => { c with laser := { c.laser with park := false, parkDue := false } }
    if (s.chan ch).laser.park = true then s1.retarget ch else s1 := by
  simp [State.parkOff, h]

theorem steady_parkDue : Steady fun q => q.parkDue = false :=
  ⟨fun _ _ h => h, fun _ _ h => h, fun _ _ _ h => h, fun _ _ => rfl⟩

/-- A park delay of 0 clears the park condition and the mark of a comparison, and a park condition that was set gives
way to the next case of R62. -/
theorem parkOff_clears {s : State} {ch : Ch} (h : (s.chan ch).setup.parkDelay = 0) :
    ((s.parkOff ch).chan ch).laser.park = false ∧ ((s.parkOff ch).chan ch).laser.parkDue = false ∧
      ((s.chan ch).laser.park = true →
        ((s.parkOff ch).chan ch).laser.target = (s.parkOff ch).firstTarget ch) := by
  let s1 := s.onChan ch fun c => { c with laser := { c.laser with park := false, parkDue := false } }
  have hc : (s1.chan ch).laser = { (s.chan ch).laser with park := false, parkDue := false } :=
    congrArg Channel.laser (chan_onChan _ _ _)
  rw [parkOff_zero h]
  dsimp only
  split
  · obtain ⟨hfirst, haim, -⟩ := retarget_firstTarget s1 ch
    obtain ⟨-, -, hpark⟩ := retarget_target s1 ch
    exact ⟨hpark.trans (by rw [hc]), retarget_keeps steady_parkDue (by rw [hc]), fun _ => haim.trans hfirst.symm⟩
  · next hp => exact ⟨by rw [hc], by rw [hc], fun h => absurd h hp⟩

/-- A selected head within the heads count stays selected (R136). -/
theorem recheckHead_stays {s : State} {ch : Ch}
    (h : ∀ g, (s.chan ch).relay.selected = some g → g.toNat < (s.chan ch).setup.headsCount) : s.recheckHead ch = s := by
  unfold State.recheckHead State.selected
  dsimp only
  split
  · next g hg => exact if_neg (Nat.not_le.2 (h g hg))
  · rfl

/-- A selected head outside the heads count gives way to none (R78, R136). -/
theorem recheckHead_switches {s : State} {ch : Ch} {h : HeadNo} (hs : (s.chan ch).relay.selected = some h)
    (hn : (s.chan ch).setup.headsCount ≤ h.toNat) : s.recheckHead ch =
      (s.post (incident .headInvalid ch (some h) none (s.chan ch).setup.headsCount)).switchHead ch none := by
  unfold State.recheckHead State.selected
  simp only [hs]
  exact if_pos hn

/-! ### The directive -/

/-- The setup of a channel written, before what follows from it. -/
def State.written (s : State) (ch : Ch) (x : Setup) : State := s.onChan ch fun c => { c with setup := x }

theorem written_chan (s : State) (ch : Ch) (x : Setup) : (s.written ch x).chan ch = { s.chan ch with setup := x } :=
  chan_onChan _ _ _

/-- A sound setup that meets no queued record of a lost head is written, and the head checked (R135, R136). -/
theorem applySetup_sound {s : State} {e : Entry} (hok : setupOk (setupOfPayload e) = true)
    (hb : s.setupBusy e.target (setupOfPayload e) = false) : s.applySetup e =
      ((s.written e.target (setupOfPayload e)).parkOff e.target).recheckHead e.target := by
  simp [State.applySetup, hok, hb, State.written]

/-- With the head still within the count, nothing follows but what the park delay brings. -/
theorem applySetup_keeps_head {s : State} {e : Entry} (hok : setupOk (setupOfPayload e) = true)
    (hn : ∀ h, ¬ ((s.chan e.target).relay.selected = some h ∧ (setupOfPayload e).headsCount ≤ h.toNat)) :
    s.applySetup e = (s.written e.target (setupOfPayload e)).parkOff e.target := by
  have hb : s.setupBusy e.target (setupOfPayload e) = false :=
    Bool.eq_false_iff.2 fun hb => by
      obtain ⟨⟨h, hlost⟩, -⟩ := (setupBusy_iff _ _ _).1 hb
      exact hn h hlost
  have hv := State.Does.parkOff_view (s.written e.target (setupOfPayload e)) e.target
  rw [applySetup_sound hok hb]
  refine recheckHead_stays fun g hg => Nat.lt_of_not_le fun hle => hn g ⟨?_, ?_⟩
  · rwa [sansLaser_chan_relay hv, written_chan] at hg
  · rwa [sansLaser_chan_setup hv, written_chan] at hle

/-- A lost head with an empty queue gives way to none: the code is held at 0, and a HEAD_INVALID tells of it (R78, R136). -/
theorem applySetup_loses_head {s : State} {e : Entry} {h : HeadNo} (hok : setupOk (setupOfPayload e) = true)
    (hs : (s.chan e.target).relay.selected = some h) (hn : (setupOfPayload e).headsCount ≤ h.toNat)
    (hq : (s.chan e.target).queue = []) :
    let t := s.applySetup e
    let ch := e.target
    (t.chan ch).setup = setupOfPayload e ∧ (t.chan ch).relay = { (s.chan ch).relay with selected := none } ∧
      (t.chan ch).laser.code = 0 ∧ (t.chan ch).laser.park = false ∧ (t.chan ch).laser.target = t.firstTarget ch ∧
      (t.chan ch).heads = (s.chan ch).heads ∧ (t.chan ch).queue = [] ∧
      t.incidents = (s.post (incident .headInvalid ch (some h) none (setupOfPayload e).headsCount)).incidents := by
  intro t ch
  let w := s.written ch (setupOfPayload e)
  let v := w.parkOff ch
  let i := incident .headInvalid ch (some h) none (setupOfPayload e).headsCount
  have hw : w.chan ch = { s.chan ch with setup := setupOfPayload e } := written_chan _ _ _
  have hv : v.sansLaser = w.sansLaser := State.Does.parkOff_view w ch
  have hb : s.setupBusy e.target (setupOfPayload e) = false :=
    Bool.eq_false_iff.2 fun hb => ((setupBusy_iff _ _ _).1 hb).2 hq
  have hsetup : (v.chan ch).setup = setupOfPayload e := by rw [sansLaser_chan_setup hv, hw]
  have hrelay : (v.chan ch).relay = (s.chan ch).relay := by rw [sansLaser_chan_relay hv, hw]
  have hqueue : (v.chan ch).queue = [] := by rw [sansLaser_chan_queue hv, hw]; exact hq
  have ht : t = (v.post i).switchHead ch none := by
    have := recheckHead_switches (s := v) (ch := ch) (by rw [hrelay]; exact hs) (by rw [hsetup]; exact hn)
    rw [hsetup] at this
    exact (applySetup_sound hok hb).trans this
  have hp : (v.post i).chan ch = v.chan ch := chan_post v i ch
  obtain ⟨⟨x, hx⟩, ⟨hcode, -⟩, -, hpark, htarget⟩ := switchHead_of_empty (s := v.post i) (ch := ch) none
    (by rw [hp]; exact hqueue) (fun x hx => by rw [Channel.context] at hx; contradiction)
  rw [ht]
  refine ⟨?_, ?_, hcode, hpark, htarget, ?_, ?_, ?_⟩
  · rw [sansLaser_chan_setup hx, chan_onChan, hp]
    exact hsetup
  · rw [sansLaser_chan_relay hx, chan_onChan, hp]
    exact congrArg (fun r : Relay => { r with selected := none }) hrelay
  · rw [sansLaser_chan_heads hx, chan_onChan, hp]
    exact (sansLaser_chan_heads hv ch).trans (by rw [hw])
  · rw [sansLaser_chan_queue hx, chan_onChan, hp]
    exact hqueue
  · rw [sansLaser_incidents hx, onChan_incidents]
    exact post_incidents_congr i ((sansLaser_incidents hv).trans (onChan_incidents _ _ _))
      ((sansLaser_nextIncident hv).trans (onChan_nextIncident _ _ _))

/-- Settles O47. -/
theorem channelSetup : Obligations.ChannelSetup := by
  intro s e ha hr hk ch x sound lost written
  have hexec := exec_channelSetup ha hr hk
  have hkind : e.kind ≠ 1 ∧ e.kind ≠ 2 := by rw [hk]; decide
  have hok : setupOk x = true ↔ sound := setupOk_iff x
  have hbusy : s.setupBusy ch x = true ↔ (∃ h, lost h) ∧ (s.chan ch).queue ≠ [] := setupBusy_iff s ch x
  have unsound (h : ¬ sound) : setupOk x = false := Bool.eq_false_iff.2 (hok.not.2 h)
  refine ⟨fun hs hq => ?_, fun hs hl hq => ?_, fun hs hl hq => ?_, fun hs hl hp => ?_, fun hs hl hp => ?_,
    fun h hs hl hq => ?_⟩
  · have hb : s.setupBusy ch x = false := Bool.eq_false_iff.2 fun hb => by
      obtain ⟨⟨h, hlost⟩, hne⟩ := hbusy.1 hb
      exact hq.elim (fun no => no h hlost) hne
    have happly : s.applySetup e = s.refuse e false .payload := by
      simp only [State.applySetup, unsound hs, hb, Bool.not_false, if_true, Bool.false_eq_true, if_false, x, ch]
    rw [hexec, happly, refuse_eq s hkind]
    rfl
  · have hb : s.setupBusy ch x = true := hbusy.2 ⟨hl, hq⟩
    have happly : s.applySetup e = s.chosen.refuse e false (if s.choose then .payload else .busy) := by
      simp only [State.applySetup, unsound hs, hb, Bool.not_false, if_true, x, ch]
    refine ⟨(if s.choose then RefuseReason.payload else .busy).value, ?_, ?_⟩
    · cases s.choose
      · exact .inl rfl
      · exact .inr rfl
    · rw [hexec, happly, refuse_eq _ hkind, post_chosen]
      rfl
  · have hb : s.setupBusy ch x = true := hbusy.2 ⟨hl, hq⟩
    have happly : s.applySetup e = s.refuse e false .busy := by
      simp only [State.applySetup, hok.2 hs, hb, Bool.not_true, Bool.false_eq_true, if_true, if_false, x, ch]
    rw [hexec, happly, refuse_eq s hkind]
    rfl
  · have hkeep : (s.written ch x).parkOff ch = s.written ch x := by
      have hd : ((s.written ch x).chan ch).setup.parkDelay ≠ 0 := by rwa [written_chan]
      simp [State.parkOff, hd]
    rw [hexec, applySetup_keeps_head (hok.2 hs) hl]
    exact congrArg (fun t : State => Host.Outcome.next t.nextFrame) hkeep
  · obtain ⟨hpark, hdue, htarget⟩ := parkOff_clears (s := s.written ch x) (ch := ch) (by rw [written_chan]; exact hp)
    rw [written_chan] at htarget
    have hend := sameEnd_nextFrame ((s.written ch x).parkOff ch) ch
    refine ⟨((s.written ch x).parkOff ch).nextFrame, hexec.trans (by rw [applySetup_keeps_head (hok.2 hs) hl]),
      nextFrame_sansLaser (State.Does.parkOff_view _ ch), ?_, ?_, fun h => ?_⟩
    · rw [nextFrame_chan]
      exact hpark
    · rw [nextFrame_chan]
      exact hdue
    · rw [nextFrame_chan, hend.firstTarget]
      exact htarget h
  · obtain ⟨hsel, hcount⟩ := hl
    obtain ⟨hsetup, hrelay, hcode, hpark, htarget, hheads, hqueue, hinc⟩ :=
      applySetup_loses_head (hok.2 hs) hsel hcount hq
    have hend := sameEnd_nextFrame (s.applySetup e) ch
    have hdetail : min 65535 x.headsCount = x.headsCount := by
      obtain ⟨-, -, -, -, -, hmax, -⟩ := hs
      omega
    refine ⟨_, hexec, ?_⟩
    rw [nextFrame_chan, hend.firstTarget]
    refine ⟨hsetup, hrelay, hcode, hpark, htarget, hheads, hqueue, hinc.trans ?_⟩
    rw [incident, hdetail]

end Sys2Proof.Machine
end

section
/-! PROOFS. The sequencer at a promotion of the selected head's context (R64 to R67, R79). -/

namespace Sys2Proof.Machine

/-! ### A waiting request, cleared and asked for again -/

/-- From `s` to `t` the code has met the target of a new context `x` that does not cover it: by a recomputation where no
request waited, and where one did it has been cleared, and asked for again if its step is due (R64 to R67, R79). -/
def State.asksAgain (s t : State) (ch : Ch) (x : Context) : Prop :=
  let q := (s.chan ch).laser
  let u := (t.chan ch).laser
  let n := nextCode (t.chan ch).rampParams q.code u.target
  let cost : Int := (s.current n : Int) - (s.current q.code : Int)
  let stays (m : Motion) : Prop := u.code = q.code ∧ u.motion = m ∧ u.ready = q.ready
  u.target = t.firstTarget ch ∧ (q.want = none → s.meetsTarget t ch) ∧
    ∀ last dwell b held, q.motion = .ramp last dwell (some b) held →
      (u.target = q.code → u.code = q.code ∧ u.want = none) ∧
      (u.target ≠ q.code → last.elapsed s.now dwell = false → stays (.ramp last dwell none held)) ∧
      (u.target ≠ q.code → last.elapsed s.now dwell = true →
        (u.target.toNat < q.code.toNat ∨ cost ≤ 0 ∨ (s.used : Int) + cost ≤ s.ceiling →
          u.code = n ∧ u.ready = none ∧
            u.motion = .ramp { tick := s.now, old := false } x.dwell none false) ∧
        (q.code.toNat < u.target.toNat → 0 < cost → (s.ceiling : Int) < s.used + cost →
          stays (.ramp last dwell (some n) false)))

/-- The same start asks for the same. -/
theorem State.SameStart.asksAgain {ch : Ch} {s w : State} (h : State.SameStart ch s w)
    (hr : (w.chan ch).laser.ready = (s.chan ch).laser.ready) (t : State) (x : Context) :
    w.asksAgain t ch x = s.asksAgain t ch x := by
  have hcur : ∀ c, w.current c = s.current c := fun c => by simp only [State.current, h.levels]
  have hcode : ∀ y, w.code y = s.code y := by
    intro y
    rcases ch_cases ch y with rfl | rfl
    · exact h.code
    · exact congrArg Sequencer.code h.other
  have hwant : (w.chan ch).laser.want = (s.chan ch).laser.want := by simp only [Sequencer.want, h.motion]
  simp only [State.asksAgain, h.meetsTarget hr, State.used, hcur, hcode, h.now, h.ceiling, h.code, h.motion, hr, hwant]

/-- The same end, the ready timer being the same, answers the same. -/
theorem State.SameEnd.asksAgain {ch : Ch} {t u : State} (h : State.SameEnd ch t u)
    (hr : (u.chan ch).laser.ready = (t.chan ch).laser.ready) (s : State) (x : Context) :
    s.asksAgain u ch x = s.asksAgain t ch x := by
  have hwant : (u.chan ch).laser.want = (t.chan ch).laser.want := by simp only [Sequencer.want, h.aim.motion]
  simp only [State.asksAgain, State.meetsTarget, h.movesTo, State.takesStep, h.firstTarget, h.aim.code, h.aim.target,
    h.aim.motion, h.aim.rampParams, hr, hwant]

/-- The step a sequencer asks for where it waits for none and one is due (R65). -/
def State.askStep (s : State) (ch : Ch) : State :=
  if !(s.chan ch).laser.isSettled && (s.chan ch).laser.want.isNone && s.stepIsDue ch then s.takeStep ch else s

/-- The state in which the waiting request of a channel has been cleared. -/
def State.unasked (s : State) (ch : Ch) : State :=
  s.onChan ch fun c => { c with laser := { c.laser with motion := c.laser.motion.turn false } }

/-- A promotion with the code outside the new ranges and a request waiting (R79). -/
theorem promoteLaser_asks {s : State} {ch : Ch} {x : Context} (hr : inRanges x.ranges (s.chan ch).laser.code.toNat = false)
    (hw : (s.chan ch).laser.want.isSome = true) : s.promoteLaser ch x = ((s.unasked ch).retarget ch).askStep ch := by
  simp only [State.promoteLaser, hr, hw, Bool.false_eq_true, if_false, if_true]
  rfl

/-- A promotion with the code outside the new ranges and no request waiting (R79). -/
theorem promoteLaser_of_no_want {s : State} {ch : Ch} {x : Context}
    (hr : inRanges x.ranges (s.chan ch).laser.code.toNat = false) (hw : (s.chan ch).laser.want = none) :
    s.promoteLaser ch x = s.retarget ch := by
  simp only [State.promoteLaser, hr, hw, Bool.false_eq_true, if_false, Option.isSome_none]

theorem askStep_not_due {s : State} {ch : Ch} (h : s.stepIsDue ch = false) : s.askStep ch = s := by
  simp [State.askStep, h]

theorem askStep_of_want {s : State} {ch : Ch} {b : Code} (h : (s.chan ch).laser.want = some b) : s.askStep ch = s := by
  simp [State.askStep, h]

theorem askStep_sansLaser (s : State) (ch : Ch) : (s.askStep ch).sansLaser = s.sansLaser := by
  unfold State.askStep
  split
  · exact takeStep_sansLaser s ch
  · rfl

/-- A step asked for brings neither another target nor another case of R62. -/
theorem askStep_firstTarget (s : State) (ch : Ch) : (s.askStep ch).firstTarget ch = s.firstTarget ch ∧
    ((s.askStep ch).chan ch).laser.target = (s.chan ch).laser.target ∧
    ((s.askStep ch).chan ch).rampParams = (s.chan ch).rampParams := by
  have hv := askStep_sansLaser s ch
  obtain ⟨hf, hp, ht⟩ : ((s.askStep ch).chan ch).laser.force = (s.chan ch).laser.force ∧
      ((s.askStep ch).chan ch).laser.park = (s.chan ch).laser.park ∧
      ((s.askStep ch).chan ch).laser.target = (s.chan ch).laser.target := by
    unfold State.askStep
    split
    · exact takeStep_marks s ch ch
    · exact ⟨rfl, rfl, rfl⟩
  refine ⟨?_, ht, rampParams_congr (by rw [sansLaser_chan_relay hv]) (sansLaser_chan_heads hv ch) hf⟩
  rw [← targetOf_eq_firstTarget, ← targetOf_eq_firstTarget, targetOf_congr hv ch hf hp]

/-- A sequencer that waits for nothing and stands at its target is left so (R65). -/
theorem askStep_at_target {s : State} {ch : Ch} (hw : (s.chan ch).laser.want = none)
    (hc : (s.chan ch).laser.target = (s.chan ch).laser.code) :
    ((s.askStep ch).chan ch).laser = (s.chan ch).laser := by
  have hg : s.settleRecheck.chan ch = s.chan ch := (settleRecheck_granted s ch).of_no_want hw
  unfold State.askStep
  split
  · simp only [State.takeStep, hg, hc, beq_self_eq_true, if_true]
  · rfl

/-! ### The cleared request (R79) -/

section
variable {s : State} {ch : Ch} {last : Stamp} {dwell : Nat} {b : Code} {held : Bool}

theorem unasked_laser (hm : (s.chan ch).laser.motion = .ramp last dwell (some b) held) :
    ((s.unasked ch).chan ch).laser = { (s.chan ch).laser with motion := .ramp last dwell none held } := by
  rw [State.unasked, chan_onChan, hm]
  simp [Motion.turn]

theorem unasked_due (hm : (s.chan ch).laser.motion = .ramp last dwell (some b) held) :
    (s.unasked ch).stepIsDue ch = last.elapsed s.now dwell := by
  rw [stepIsDue_eq, unasked_laser hm, State.unasked, onChan_now]
  rfl

theorem unasked_firstTarget (s : State) (ch : Ch) : (s.unasked ch).firstTarget ch = s.firstTarget ch := by
  have hv : (s.unasked ch).sansLaser = s.sansLaser := onChan_laser_sansLaser s ch _ fun _ => rfl
  rw [← targetOf_eq_firstTarget, ← targetOf_eq_firstTarget,
    targetOf_congr hv ch (by rw [State.unasked, chan_onChan]) (by rw [State.unasked, chan_onChan])]

theorem unasked_rampParams (s : State) (ch : Ch) : ((s.unasked ch).chan ch).rampParams = (s.chan ch).rampParams := by
  rw [State.unasked, chan_onChan]
  exact rampParams_congr rfl rfl rfl

theorem unasked_fits (s : State) (ch : Ch) (n : Code) : (s.unasked ch).fits ch n = s.fits ch n := by
  refine fits_congr ch n (onChan_levels _ _ _) (onChan_ceiling _ _ _) fun y => ?_
  rcases ch_cases ch y with rfl | rfl
  · simp only [State.code, State.unasked, chan_onChan]
  · simp only [State.code, State.unasked, chan_onChan_other]

/-- A recomputation that finds the same target ends IDLE, if that, and nothing else. -/
theorem retarget_of_same (h : s.firstTarget ch = (s.chan ch).laser.target) : s.retarget ch = s.leaveIdle ch := by
  simp only [State.retarget, targetOf_eq_firstTarget, h, beq_self_eq_true, if_true]

theorem leaveIdle_recheckDue (s : State) (ch : Ch) : (s.leaveIdle ch).recheckDue = s.recheckDue := by
  unfold State.leaveIdle
  split
  · rfl
  · exact onChan_recheckDue _ _ _

/-- A cleared request whose new target is the code: nothing is asked for, and the code stays (R64, R67). -/
theorem asks_at_target (hm : (s.chan ch).laser.motion = .ramp last dwell (some b) held)
    (hc : s.firstTarget ch = (s.chan ch).laser.code) :
    ((((s.unasked ch).retarget ch).askStep ch).chan ch).laser.code = (s.chan ch).laser.code ∧
      ((((s.unasked ch).retarget ch).askStep ch).chan ch).laser.want = none := by
  have hl := unasked_laser hm
  have hfirst : (s.unasked ch).firstTarget ch = (s.chan ch).laser.code := (unasked_firstTarget s ch).trans hc
  have hcode : ((s.unasked ch).chan ch).laser.code = (s.chan ch).laser.code := by rw [hl]
  obtain ⟨-, htarget, -⟩ := retarget_firstTarget (s.unasked ch) ch
  have stands : (((s.unasked ch).retarget ch).chan ch).laser.code = (s.chan ch).laser.code ∧
      (((s.unasked ch).retarget ch).chan ch).laser.want = none := by
    by_cases h : (s.unasked ch).firstTarget ch = ((s.unasked ch).chan ch).laser.target
    · have l := retarget_same h
      exact ⟨l.code.trans hcode, by rw [Sequencer.want, l.motion, hl]⟩
    · have l := retarget_turns h (.inl (hcode.trans hfirst.symm))
      exact ⟨l.code.trans hcode, want_of_turn l.motion⟩
  obtain ⟨hstays, hwant⟩ := stands
  rw [askStep_at_target hwant (by rw [htarget, hfirst, hstays])]
  exact ⟨hstays, hwant⟩

/-- A cleared request whose step is not due: the ramp counts on from its last change (R64, R67). -/
theorem asks_not_due (hm : (s.chan ch).laser.motion = .ramp last dwell (some b) held)
    (hc : s.firstTarget ch ≠ (s.chan ch).laser.code) (he : last.elapsed s.now dwell = false) :
    let u := ((((s.unasked ch).retarget ch).askStep ch).chan ch).laser
    u.code = (s.chan ch).laser.code ∧ u.motion = .ramp last dwell none held ∧ u.ready = (s.chan ch).laser.ready := by
  have hl := unasked_laser hm
  have hfirst := unasked_firstTarget s ch
  have lands : State.Lands ch (s.unasked ch) ((s.unasked ch).retarget ch) (s.chan ch).laser.code (s.firstTarget ch)
      (.ramp last dwell none held) (s.chan ch).laser.ready := by
    by_cases h : (s.unasked ch).firstTarget ch = ((s.unasked ch).chan ch).laser.target
    · have l := retarget_same h
      rwa [← h, hl, hfirst] at l
    · have l := retarget_turns h (.inr ((unasked_due hm).trans he))
      rwa [hl, hfirst, beq_eq_false_iff_ne.2 (Ne.symm hc), turn_false] at l
  have hnow : ((s.unasked ch).retarget ch).now = s.now :=
    (sansLaser_now (retarget_sansLaser _ ch)).trans (onChan_now _ _ _)
  have hd : ((s.unasked ch).retarget ch).stepIsDue ch = false := by
    rw [stepIsDue_eq, lands.motion, hnow]
    exact he
  intro u
  simp only [u, askStep_not_due hd]
  exact ⟨lands.code, lands.motion, lands.ready⟩

/-- A cleared request whose step is due is asked for by the new step, ranges and target: it is taken, down or where it
fits, or waits again (R65, R66, R79, R105). -/
theorem asks_due (hm : (s.chan ch).laser.motion = .ramp last dwell (some b) held)
    (hc : s.firstTarget ch ≠ (s.chan ch).laser.code) (he : last.elapsed s.now dwell = true)
    (hr : s.recheckDue = false) (hdwell : 1 ≤ (s.chan ch).rampParams.dwell) :
    let q := (s.chan ch).laser
    let u := ((((s.unasked ch).retarget ch).askStep ch).chan ch).laser
    let n := nextCode (s.chan ch).rampParams q.code (s.firstTarget ch)
    if (s.firstTarget ch).toNat < q.code.toNat ∨ s.fits ch n = true then
      u.code = n ∧ u.motion = .ramp (stampAt s.now) (s.chan ch).rampParams.dwell none false ∧ u.ready = none
    else u.code = q.code ∧ u.motion = .ramp last dwell (some n) false ∧ u.ready = q.ready := by
  have hl := unasked_laser hm
  have hfirst := unasked_firstTarget s ch
  have hp := unasked_rampParams s ch
  have hr' : (s.unasked ch).recheckDue = false := (onChan_recheckDue _ _ _).trans hr
  have hnow' : (s.unasked ch).now = s.now := onChan_now _ _ _
  let w := (s.unasked ch).retarget ch
  have hnow : w.now = s.now := (sansLaser_now (retarget_sansLaser _ ch)).trans hnow'
  intro q u n
  by_cases h : (s.unasked ch).firstTarget ch = ((s.unasked ch).chan ch).laser.target
  · have l := retarget_same h
    rw [← h, hl, hfirst] at l
    have hw : w = (s.unasked ch).leaveIdle ch := retarget_of_same h
    have hask : w.askStep ch = w.takeStep ch := by
      have hdue : w.stepIsDue ch = true := by
        rw [stepIsDue_eq, l.motion, hnow]
        exact he
      refine if_pos ?_
      rw [hdue, Sequencer.isSettled, Sequencer.want, l.motion]
      rfl
    obtain ⟨-, -, hpw⟩ := retarget_firstTarget (s.unasked ch) ch
    have hfit : w.fits ch n = s.fits ch n := by
      refine Eq.trans ?_ (unasked_fits s ch n)
      refine fits_congr ch n (sansLaser_levels (retarget_sansLaser _ ch)) (sansLaser_ceiling (retarget_sansLaser _ ch))
        fun y => ?_
      rcases ch_cases ch y with rfl | rfl
      · exact l.code.trans (congrArg Sequencer.code hl).symm
      · exact congrArg Sequencer.code l.other
    have step := takeStep_lands (s := w) (ch := ch) (by rw [hw, leaveIdle_recheckDue]; exact hr')
      (by rw [l.code, l.target]; exact Ne.symm hc)
    dsimp only at step
    rw [l.code, l.target, l.motion, l.ready, hpw, hp, hnow] at step
    change if _ ∨ w.fits ch n = true then _ else _ at step
    rw [hfit] at step
    simp only [u, ← hask] at step ⊢
    split at step
    · rw [if_pos (by assumption)]
      exact ⟨step.code, step.motion, step.ready⟩
    · rw [if_neg (by assumption)]
      exact ⟨step.code, step.motion, step.ready⟩
  · have l := retarget_steps hr' h (by rw [hl, hfirst]; exact Ne.symm hc) ((unasked_due hm).trans he)
    dsimp only at l
    rw [hl, hfirst, hp, hnow'] at l
    change if _ ∨ (s.unasked ch).fits ch n = true then _ else _ at l
    rw [unasked_fits] at l
    split at l
    · rw [if_pos (by assumption)]
      have hd : w.stepIsDue ch = false := by
        have hz : ticksFrom s.now s.now = 0 := by simp [ticksFrom]
        rw [stepIsDue_eq, l.motion, hnow]
        simp [Motion.since, Motion.wait, Stamp.elapsed, stampAt, hz, Nat.one_le_iff_ne_zero.1 hdwell]
      simp only [u, w, askStep_not_due hd]
      exact ⟨l.code, l.motion, l.ready⟩
    · rw [if_neg (by assumption)]
      have hw : (w.chan ch).laser.want = some n := by rw [Sequencer.want, l.motion]
      simp only [u, w, askStep_of_want hw]
      exact ⟨l.code, l.motion, l.ready⟩

end

/-! ### The sequencer with the new context (R79) -/

/-- With the code outside the new ranges, a promotion lets the code meet the target of the new context. -/
theorem promoteLaser_asksAgain {s : State} {ch : Ch} {x : Context} (hx : (s.chan ch).context = some x)
    (hrange : inRanges x.ranges (s.chan ch).laser.code.toNat = false) (hdwell : 1 ≤ x.dwell)
    (hr : s.recheckDue = false) : s.asksAgain (s.promoteLaser ch x) ch x := by
  have hparam : (s.chan ch).rampParams.dwell = x.dwell := by simp [Channel.rampParams, hx, Context.ramp]
  cases hw : (s.chan ch).laser.want with
  | none =>
    obtain ⟨hfirst, htarget, -⟩ := retarget_firstTarget s ch
    rw [promoteLaser_of_no_want hrange hw]
    refine ⟨htarget.trans hfirst.symm, fun _ => retarget_meetsTarget hr, fun last dwell b held hm => ?_⟩
    simp [Sequencer.want, hm] at hw
  | some y =>
    have hv := askStep_firstTarget ((s.unasked ch).retarget ch) ch
    obtain ⟨hfirst, htarget, hp⟩ := hv
    obtain ⟨hfirst', htarget', hp'⟩ := retarget_firstTarget (s.unasked ch) ch
    have hgoal : ((((s.unasked ch).retarget ch).askStep ch).chan ch).laser.target = s.firstTarget ch :=
      htarget.trans (htarget'.trans (unasked_firstTarget s ch))
    rw [promoteLaser_asks hrange (by rw [hw]; rfl)]
    refine ⟨hgoal.trans ?_, fun no => ?_, fun last dwell b held hm => ?_⟩
    · rw [hfirst, hfirst', unasked_firstTarget]
    · rw [hw] at no
      contradiction
    · rw [hgoal, hp, hp', unasked_rampParams]
      refine ⟨fun hc => asks_at_target hm hc, fun hc he => asks_not_due hm hc he, fun hc he => ?_⟩
      have hstep := asks_due hm hc he hr (by rw [hparam]; exact hdwell)
      dsimp only at hstep
      rw [hparam] at hstep
      refine ⟨fun hfit => ?_, fun hup hcost hover => ?_⟩
      · rw [if_pos (by rw [fits_iff]; exact hfit)] at hstep
        obtain ⟨hcode, hmotion, hready⟩ := hstep
        exact ⟨hcode, hready, hmotion⟩
      · rw [if_neg (by rw [fits_iff]; omega)] at hstep
        exact hstep

end Sys2Proof.Machine
end

section
/-! PROOFS. Settles O23: a promotion or unload is carried out (R69, R79, R96, R118, R121, R132). -/

namespace Sys2Proof.Machine

/-! ### What an evaluation leaves, and what a trip does (R118, R119, R169) -/

theorem deferredOk_congr {s t : State} (h : t.deferred = s.deferred) (hd : s.DeferredOk) : t.DeferredOk := by
  unfold State.DeferredOk
  rwa [h]

/-- A fault raised leaves the wedge timer, the rate meter, the relay and the clock. -/
theorem raiseFault_keeps (s : State) (i : Incident) :
    ((s.raiseFault i).chan i.ch).wedge = (s.chan i.ch).wedge ∧ ((s.raiseFault i).chan i.ch).rate = (s.chan i.ch).rate ∧
      ((s.raiseFault i).chan i.ch).relay = (s.chan i.ch).relay ∧ (s.raiseFault i).now = s.now := by
  have hnow := (raiseFault_settles s i).now
  cases hl : s.lockedOut i.ch with
  | true =>
    have e : s.raiseFault i = s.post i := if_pos hl
    rw [e, chan_post]
    exact ⟨rfl, rfl, rfl, (post_settles s i).now⟩
  | false =>
    have hv := shutDown_chan (s.post i) i.ch
    rw [chan_post] at hv
    rw [raiseFault_enters hl] at hnow ⊢
    rw [chan_postAll]
    exact ⟨(congrArg Channel.wedge hv :), (congrArg Channel.rate hv :), (congrArg Channel.relay hv :), hnow⟩

/-- An evaluation leaves the wedge timer, the rate meter, the relay and the clock. -/
theorem evaluate_keeps (s : State) (ch : Ch) (h : HeadNo) :
    ((s.evaluate ch h).chan ch).wedge = (s.chan ch).wedge ∧ ((s.evaluate ch h).chan ch).rate = (s.chan ch).rate ∧
      ((s.evaluate ch h).chan ch).relay = (s.chan ch).relay ∧ (s.evaluate ch h).now = s.now := by
  rcases evaluate_cases s ch h with ⟨-, e⟩ | ⟨x, -, ⟨-, -, e⟩ | ⟨-, e⟩⟩ <;> rw [e]
  · exact ⟨rfl, rfl, rfl, rfl⟩
  · let u := s.onChan ch fun c => c.setHead h { (s.chan ch).headAt h with
      hold := holdAfter x ((s.chan ch).headAt h).accum ((s.chan ch).headAt h).hold }
    have k : ((u.raiseFault (u.tripIncident ch h)).chan ch).wedge = (u.chan ch).wedge ∧
        ((u.raiseFault (u.tripIncident ch h)).chan ch).rate = (u.chan ch).rate ∧
        ((u.raiseFault (u.tripIncident ch h)).chan ch).relay = (u.chan ch).relay ∧
        (u.raiseFault (u.tripIncident ch h)).now = u.now := raiseFault_keeps u (u.tripIncident ch h)
    rwa [chan_onChan, onChan_now] at k
  · rw [chan_onChan]
    exact ⟨rfl, rfl, rfl, onChan_now _ _ _⟩

/-- A fault that enters LOCKOUT leaves the channel locked, the code held at 0 (R81, R169). -/
theorem raiseFault_locks {s : State} {i : Incident} (hc : i.kind.cls = 3) (hd : s.DeferredOk)
    (hn : s.lockedOut i.ch = false) :
    (s.raiseFault i).lockedOut i.ch = true ∧ (s.raiseFault i).heldAtZero i.ch := by
  obtain ⟨hlock, hheld, -⟩ := shutDown_lockedOut (post_locks hc hd hn)
  rw [raiseFault_enters hn]
  exact ⟨postAll_lockedOut _ hlock, postAll_heldAtZero _ hheld⟩

/-- A head at its trip watermark finds its channel in LOCKOUT, and enters it with the code held at 0 (R119, R169). -/
theorem evaluate_trips {s : State} {ch : Ch} {h : HeadNo} {x : Context} (hx : ((s.chan ch).headAt h).active = some x)
    (ht : x.tripMark ≤ ((s.chan ch).headAt h).accum) (hd : s.DeferredOk) :
    (s.evaluate ch h).lockedOut ch = true ∧ (s.lockedOut ch = false → (s.evaluate ch h).heldAtZero ch) := by
  rcases evaluate_cases s ch h with ⟨hn, -⟩ | ⟨y, hy, k⟩
  · rw [hx] at hn
    contradiction
  obtain rfl : x = y := Option.some.inj (hx.symm.trans hy)
  rcases k with ⟨-, hl, e⟩ | ⟨no, e⟩ <;> rw [e]
  · obtain ⟨hlock, hheld⟩ := raiseFault_locks (s := s.onChan ch fun c => c.setHead h { (s.chan ch).headAt h with
      hold := holdAfter x ((s.chan ch).headAt h).accum ((s.chan ch).headAt h).hold }) (i := State.tripIncident _ ch h)
      rfl (deferredOk_congr (onChan_deferred _ _ _) hd) ((lockedOut_onChan _ _ _ _).trans hl)
    exact ⟨hlock, fun _ => hheld⟩
  · have hl : s.lockedOut ch = true := no.resolve_left (Nat.not_lt.2 ht)
    rw [lockedOut_onChan]
    exact ⟨hl, fun hn => absurd (hl.symm.trans hn) (by decide)⟩

/-- A head below its trip watermark, or in a channel in LOCKOUT, has its hold flag evaluated and no more (R118). -/
theorem evaluate_quiet {s : State} {ch : Ch} {h : HeadNo} {x : Context} (hx : ((s.chan ch).headAt h).active = some x)
    (ht : ((s.chan ch).headAt h).accum < x.tripMark ∨ s.lockedOut ch = true) :
    s.evaluate ch h = s.onChan ch fun c => c.setHead h { (s.chan ch).headAt h with
      hold := holdAfter x ((s.chan ch).headAt h).accum ((s.chan ch).headAt h).hold } := by
  rcases evaluate_cases s ch h with ⟨hn, -⟩ | ⟨y, hy, ⟨ht', hl, -⟩ | ⟨-, e⟩⟩
  · rw [hx] at hn
    contradiction
  · obtain rfl : x = y := Option.some.inj (hx.symm.trans hy)
    rcases ht with h | h
    · exact absurd ht' (Nat.not_le.2 h)
    · exact absurd (h.symm.trans hl) (by decide)
  · obtain rfl : x = y := Option.some.inj (hx.symm.trans hy)
    exact e

/-! ### F recomputed behind a promotion (R96, R97) -/

theorem refenceEmpty_lockedOut {s : State} {ch : Ch} (h : s.lockedOut ch = true) :
    (s.refenceEmpty ch).lockedOut ch = true := by
  have hf : (s.computeFence ch).lockedOut ch = true := (lockedOut_onChan s ch ch _).trans h
  have hb : ((s.computeFence ch).beginFence ch).lockedOut ch = true :=
    postAll_lockedOut _ ((lockedOut_onChan _ ch ch _).trans hf)
  rcases refenceEmpty_cases s ch with ⟨-, e⟩ | ⟨-, ⟨-, -, e⟩ | ⟨-, e⟩⟩ <;> rw [e]
  · exact h
  · rwa [lockedOut_of_sansLaser (retarget_sansLaser _ ch)]
  · exact hf

/-- F recomputed with no window opening leaves the lasers, and what decides the target (R96). -/
theorem refenceEmpty_stays {s : State} {ch : Ch} (h : ((s.refenceEmpty ch).chan ch).wedge.fence = (s.chan ch).wedge.fence) :
    State.SameEnd ch s (s.refenceEmpty ch) ∧
      ((s.refenceEmpty ch).chan ch).laser.ready = (s.chan ch).laser.ready := by
  rcases refenceEmpty_cases s ch with ⟨-, e⟩ | ⟨-, ⟨-, hf, e⟩ | ⟨-, e⟩⟩ <;> rw [e] at h ⊢
  · exact ⟨.refl ch s, rfl⟩
  · rw [sansLaser_chan_wedge (retarget_sansLaser _ _), beginFence_chan, hf] at h
    contradiction
  · refine ⟨sameEnd_onChan s ch _ ⟨rfl, rfl, rfl, rfl, rfl, rfl, rfl, rfl, rfl, rfl⟩, ?_⟩
    rw [computeFence_chan]

/-! ### The new context at the sequencer (R69, R79) -/

/-- A new context that covers the code sets it directly to 0, and a code that is held at 0 stays so. -/
theorem promoteLaser_held {s : State} {ch : Ch} {x : Context} (hx : (s.chan ch).context = some x) (hd : 1 ≤ x.dwell)
    (h : inRanges x.ranges (s.chan ch).laser.code.toNat = true ∨ s.heldAtZero ch) :
    (s.promoteLaser ch x).heldAtZero ch := by
  have hdwell : ∀ y, (s.chan ch).context = some y → 1 ≤ y.dwell := by
    intro y hy
    obtain rfl : x = y := Option.some.inj (hx.symm.trans hy)
    exact hd
  cases hr : inRanges x.ranges (s.chan ch).laser.code.toNat with
  | true =>
    have e : s.promoteLaser ch x = (s.directZero ch).retarget ch := if_pos hr
    rw [e]
    exact directZero_retarget_held hdwell
  | false =>
    have hz : s.heldAtZero ch := h.resolve_left (by rw [hr]; decide)
    have hw : (s.chan ch).laser.want = none := by
      obtain ⟨-, -, -, -, -, hm⟩ := hz
      unfold Sequencer.want
      rw [hm]
      split
      · next hsome => split at hsome <;> cases hsome; rfl
      · rfl
    rw [promoteLaser_of_no_want hr hw]
    exact retarget_heldAtZero hz (one_le_dwell hdwell)

/-! ### PROMOTION (R132) -/

theorem exec_promotion_due {s : State} {ch : Ch} {h : HeadNo} (hl : s.live ch = true)
    (hr : (s.chan ch).hasRecordOf h = false) (hp : ((s.chan ch).headAt h).pending ≠ .none) :
    exec (.promotion ch h) s = .next (s.promote ch h) :=
  congrArg _ (if_pos (by simp [State.promotionDue, hl, hr, hp]))

/-- The state in which a pending copy has become the active copy, and the head is still to be evaluated. -/
def State.copied (s : State) (ch : Ch) (h : HeadNo) (x : Context) : State :=
  s.onChan ch fun c => c.setHead h { (s.chan ch).headAt h with active := some x, pending := .none }

section
variable {s : State} {ch : Ch} {h : HeadNo} {x : Context}

theorem promote_copy (hp : ((s.chan ch).headAt h).pending = .copy x) : s.promote ch h =
    if (s.chan ch).relay.selected = some h then
      (((s.copied ch h x).evaluate ch h).promoteLaser ch x).refenceEmpty ch
    else (s.copied ch h x).evaluate ch h := by
  by_cases hs : (s.chan ch).relay.selected = some h <;> simp [State.promote, hp, hs, State.copied]

theorem promote_unload (hp : ((s.chan ch).headAt h).pending = .unload) : s.promote ch h =
    let u := s.onChan ch fun c => c.setHead h
      { (s.chan ch).headAt h with active := none, pending := .none, hold := false }
    if (s.chan ch).relay.selected = some h then ((u.directZero ch).retarget ch).refenceEmpty ch else u := by
  by_cases hs : (s.chan ch).relay.selected = some h <;> simp [State.promote, hp, hs]

theorem copied_headAt (hlen : (s.chan ch).heads.length = 8) : ((s.copied ch h x).chan ch).headAt h =
    { (s.chan ch).headAt h with active := some x, pending := .none } := by
  rw [State.copied, chan_onChan]
  exact headAt_set hlen h _

theorem copied_accum (hlen : (s.chan ch).heads.length = 8) :
    (((s.copied ch h x).chan ch).headAt h).accum = ((s.chan ch).headAt h).accum := by
  rw [copied_headAt hlen]

theorem copied_active (hlen : (s.chan ch).heads.length = 8) :
    (((s.copied ch h x).chan ch).headAt h).active = some x := by
  rw [copied_headAt hlen]

theorem copied_laser : ((s.copied ch h x).chan ch).laser = (s.chan ch).laser := by
  rw [State.copied, chan_onChan]
  rfl

/-- The new copy is the context of the channel once the selected head has been evaluated with it. -/
theorem evaluate_copied_context (hlen : (s.chan ch).heads.length = 8) (hs : (s.chan ch).relay.selected = some h) :
    (((s.copied ch h x).evaluate ch h).chan ch).context = some x := by
  have hlen' : ((s.copied ch h x).chan ch).heads.length = 8 := by
    rw [State.copied, chan_onChan]
    exact List.length_set.trans hlen
  obtain ⟨-, -, hrelay, -⟩ := evaluate_keeps (s.copied ch h x) ch h
  have hsel : (((s.copied ch h x).evaluate ch h).chan ch).relay.selected = some h := by
    rw [hrelay, State.copied, chan_onChan]
    exact hs
  have hat : (((s.copied ch h x).evaluate ch h).chan ch).headAt h = { ((s.copied ch h x).chan ch).headAt h with
      hold := holdAfter x (((s.copied ch h x).chan ch).headAt h).accum (((s.copied ch h x).chan ch).headAt h).hold } := by
    rw [Channel.headAt, evaluate_heads (copied_active hlen), headAt_set hlen']
  simp only [Channel.context, hsel, Option.bind_some, Channel.contextOf, hat, copied_active hlen]

/-- A new copy that covers the code, or trips its head, leaves the code held at 0 (R69, R79, R81). -/
theorem promote_copy_held (hlen : (s.chan ch).heads.length = 8) (hd : s.DeferredOk)
    (hp : ((s.chan ch).headAt h).pending = .copy x) (hs : (s.chan ch).relay.selected = some h)
    (hr : inRanges x.ranges (s.chan ch).laser.code.toNat = true) (hdwell : 1 ≤ x.dwell) :
    (s.promote ch h).heldAtZero ch := by
  let w := (s.copied ch h x).evaluate ch h
  have hctx : (w.chan ch).context = some x := evaluate_copied_context hlen hs
  have hv := promoteLaser_sansLaser w ch x
  have start : inRanges x.ranges (w.chan ch).laser.code.toNat = true ∨ w.heldAtZero ch := by
    by_cases trip : x.tripMark ≤ ((s.chan ch).headAt h).accum ∧ s.lockedOut ch = false
    · obtain ⟨ht, hl⟩ := trip
      exact .inr ((evaluate_trips (copied_active hlen) (by rw [copied_accum hlen]; exact ht)
        (deferredOk_congr (onChan_deferred _ _ _) hd)).2 ((lockedOut_onChan _ _ _ _).trans hl))
    · have quiet : ((s.chan ch).headAt h).accum < x.tripMark ∨ s.lockedOut ch = true := by
        rcases Nat.lt_or_ge ((s.chan ch).headAt h).accum x.tripMark with hlt | hge
        · exact .inl hlt
        · exact .inr (Bool.eq_true_of_not_eq_false fun hl => trip ⟨hge, hl⟩)
      have e : w = _ := evaluate_quiet (copied_active hlen)
        (quiet.imp (fun hlt => by rw [copied_accum hlen]; exact hlt) ((lockedOut_onChan _ _ _ _).trans ·))
      refine .inl ?_
      rw [e, chan_onChan]
      exact (congrArg (fun q : Sequencer => inRanges x.ranges q.code.toNat) copied_laser).trans hr
  have hend : ((w.promoteLaser ch x).chan ch).context = some x :=
    (context_congr (sansLaser_chan_heads hv ch) (by rw [sansLaser_chan_relay hv])).trans hctx
  rw [promote_copy hp, if_pos hs]
  refine refenceEmpty_heldAtZero (promoteLaser_held hctx hdwell start) (one_le_dwell fun y hy => ?_)
  obtain rfl : x = y := Option.some.inj (hend.symm.trans hy)
  exact hdwell

/-- F is recomputed behind a new copy of the selected head's context (R96). -/
theorem promote_copy_refences (hp : ((s.chan ch).headAt h).pending = .copy x)
    (hs : (s.chan ch).relay.selected = some h) : s.refences (s.promote ch h) ch := by
  have hv := promoteLaser_sansLaser ((s.copied ch h x).evaluate ch h) ch x
  obtain ⟨hwedge, hrate, -, hnow⟩ := evaluate_keeps (s.copied ch h x) ch h
  have hc : (s.copied ch h x).chan ch =
      (s.chan ch).setHead h { (s.chan ch).headAt h with active := some x, pending := .none } := chan_onChan _ _ _
  rw [promote_copy hp, if_pos hs]
  refine refences_congr (refenceEmpty_refences _ ch) ((sansLaser_now hv).trans (hnow.trans (onChan_now _ _ _))) ?_ ?_
  · rw [sansLaser_chan_wedge hv, hwedge, hc]
    rfl
  · rw [sansLaser_chan_rate hv, hrate, hc]
    rfl

/-- A new copy that covers no code and trips nothing lets the code meet its target (R79). -/
theorem promote_copy_asksAgain (hlen : (s.chan ch).heads.length = 8) (hp : ((s.chan ch).headAt h).pending = .copy x)
    (hs : (s.chan ch).relay.selected = some h) (hr : inRanges x.ranges (s.chan ch).laser.code.toNat = false)
    (hdwell : 1 ≤ x.dwell) (ht : ((s.chan ch).headAt h).accum < x.tripMark) (hrecheck : s.recheckDue = false)
    (hfence : ((s.promote ch h).chan ch).wedge.fence = (s.chan ch).wedge.fence) :
    s.asksAgain (s.promote ch h) ch x := by
  let w := (s.copied ch h x).evaluate ch h
  have e : w = (s.copied ch h x).onChan ch _ :=
    evaluate_quiet (copied_active hlen) (.inl (by rw [copied_accum hlen]; exact ht))
  have start : State.SameStart ch s w ∧ (w.chan ch).laser = (s.chan ch).laser := by
    have first : State.SameStart ch s (s.copied ch h x) := sameStart_onChan s ch _ rfl rfl rfl
    rw [e]
    refine ⟨first.trans (sameStart_onChan _ ch _ rfl rfl rfl), ?_⟩
    rw [chan_onChan]
    exact copied_laser
  obtain ⟨hstart, hlaser⟩ := start
  have hctx : (w.chan ch).context = some x := evaluate_copied_context hlen hs
  have hv := promoteLaser_sansLaser w ch x
  obtain ⟨hwedge, -⟩ := evaluate_keeps (s.copied ch h x) ch h
  have hfence' : ((w.promoteLaser ch x).chan ch).wedge.fence = (s.chan ch).wedge.fence := by
    rw [sansLaser_chan_wedge hv, hwedge, State.copied, chan_onChan]
    rfl
  rw [promote_copy hp, if_pos hs] at hfence ⊢
  obtain ⟨hend, hready⟩ := refenceEmpty_stays (hfence.trans hfence'.symm)
  rw [hend.asksAgain hready, ← hstart.asksAgain (by rw [hlaser])]
  exact promoteLaser_asksAgain hctx (by rw [hlaser]; exact hr) hdwell (hstart.recheck.trans hrecheck)

end

/-- Settles O23. -/
theorem promotion : Obligations.Promotion := by
  intro s ch h hl hlen hrec hd
  have others (hp : ((s.chan ch).headAt h).pending ≠ .none) :
      ∀ g, g ≠ h → ((s.promote ch h).chan ch).headAt g = (s.chan ch).headAt g := fun g hg => by
    rw [Channel.headAt, promote_heads hlen hp]
    exact headAt_set_other hg _
  have own (hp : ((s.chan ch).headAt h).pending ≠ .none) :
      ((s.promote ch h).chan ch).headAt h = ((s.chan ch).headAt h).promoted := by
    rw [Channel.headAt, promote_heads hlen hp, headAt_set hlen]
  refine ⟨fun x hp => ?_, fun hp => ?_⟩
  · have hne : ((s.chan ch).headAt h).pending ≠ .none := by rw [hp]; exact Pending.noConfusion
    refine ⟨_, exec_promotion_due hl hrec hne, ?_, fun ht => ?_, fun hs hr hdwell => promote_copy_held hlen hd hp hs hr hdwell,
      fun hs => promote_copy_refences hp hs, fun hs => ?_, fun hs hr hdwell ht hrecheck hfence =>
        promote_copy_asksAgain hlen hp hs hr hdwell ht hrecheck hfence, others hne⟩
    · rw [own hne]
      simp only [Head.promoted, hp]
      rfl
    · have hlock := (evaluate_trips (copied_active (x := x) hlen) (by rw [copied_accum hlen]; exact ht)
        (deferredOk_congr (onChan_deferred _ _ _) hd)).1
      rw [promote_copy hp]
      split
      · refine refenceEmpty_lockedOut ?_
        rwa [lockedOut_of_sansLaser (promoteLaser_sansLaser _ ch x)]
      · exact hlock
    · obtain ⟨hwedge, -⟩ := evaluate_keeps (s.copied ch h x) ch h
      rw [promote_copy hp, if_neg hs, hwedge, State.copied, chan_onChan]
      rfl
  · have hne : ((s.chan ch).headAt h).pending ≠ .none := by rw [hp]; exact Pending.noConfusion
    let u := s.onChan ch fun c => c.setHead h
      { (s.chan ch).headAt h with active := none, pending := .none, hold := false }
    have hu : u.chan ch = (s.chan ch).setHead h
      { (s.chan ch).headAt h with active := none, pending := .none, hold := false } := chan_onChan _ _ _
    refine ⟨_, exec_promotion_due hl hrec hne, ?_, fun hs => ?_, fun hs => ?_, others hne⟩
    · rw [own hne]
      simp only [Head.promoted, hp]
    · have hctx : (u.chan ch).context = none := by
        rw [hu]
        simp only [Channel.context, Channel.setHead, hs, Option.bind_some, Channel.contextOf, Channel.headAt,
          headAt_set hlen]
      have none_dwell : ∀ y, (u.chan ch).context = some y → 1 ≤ y.dwell := fun y hy => by rw [hctx] at hy; contradiction
      have hv : ((u.directZero ch).retarget ch).sansLaser = u.sansLaser :=
        (retarget_sansLaser _ ch).trans (directZero_sansLaser u ch)
      have hsame := context_congr (sansLaser_chan_heads hv ch) (by rw [sansLaser_chan_relay hv])
      rw [promote_unload hp]
      dsimp only
      rw [if_pos hs]
      refine ⟨refenceEmpty_heldAtZero (directZero_retarget_held none_dwell) (one_le_dwell fun y hy =>
        none_dwell y (hsame.symm.trans hy)), refences_congr (refenceEmpty_refences _ ch)
          ((sansLaser_now hv).trans (onChan_now _ _ _)) ?_ ?_⟩
      · rw [sansLaser_chan_wedge hv, hu]
        rfl
      · rw [sansLaser_chan_rate hv, hu]
        rfl
    · rw [promote_unload hp]
      dsimp only
      rw [if_neg hs, hu]
      exact ⟨rfl, rfl⟩

end Sys2Proof.Machine
end

section
/-! PROOFS. The evaluation of a channel's heads at a heat tick: hold flags, and at most one trip (R115, R118, R119). -/

namespace Sys2Proof.Machine

/-! ### The ledger: what incidents are written to -/

/-- The incident queue with its next number, and the deferred incidents. -/
def State.ledger (s : State) : List Stored × Seq × List Deferred := (s.incidents, s.nextIncident, s.deferred)

theorem ledger_ext {s t : State} (h : t.ledger = s.ledger) :
    t.incidents = s.incidents ∧ t.nextIncident = s.nextIncident ∧ t.deferred = s.deferred := by
  simpa [State.ledger] using h

theorem ledger_of_sansLaser {s t : State} (h : t.sansLaser = s.sansLaser) : t.ledger = s.ledger :=
  Prod.ext (sansLaser_incidents h) (Prod.ext (sansLaser_nextIncident h) (sansLaser_deferred h))

@[simp] theorem onChan_ledger (s : State) (ch : Ch) (f : Channel → Channel) : (s.onChan ch f).ledger = s.ledger :=
  Prod.ext (onChan_incidents s ch f) (Prod.ext (onChan_nextIncident s ch f) (onChan_deferred s ch f))

theorem lockedOut_of_ledger {s t : State} (h : t.ledger = s.ledger) (ch : Ch) : t.lockedOut ch = s.lockedOut ch := by
  obtain ⟨hi, -, hd⟩ := ledger_ext h
  exact lockedOut_congr hi hd ch

theorem deferredOk_of_ledger {s t : State} (h : t.ledger = s.ledger) (hd : s.DeferredOk) : t.DeferredOk :=
  deferredOk_congr (ledger_ext h).2.2 hd

/-- What an incident writes depends on the ledger alone. -/
theorem post_ledger {s t : State} (i : Incident) (h : t.ledger = s.ledger) : (t.post i).ledger = (s.post i).ledger := by
  obtain ⟨hi, hn, hd⟩ := ledger_ext h
  unfold State.post
  rw [hi, hd, hn]
  split
  · simp only [State.ledger]
  · split <;> simp only [State.ledger]

theorem postAll_ledger (is : List Incident) {s t : State} (h : t.ledger = s.ledger) :
    (t.postAll is).ledger = (s.postAll is).ledger := by
  induction is generalizing s t with
  | nil => exact h
  | cons i is ih => exact ih (post_ledger i h)

/-- Deferred incidents stay of class 3, at most one for each channel (R167). -/
theorem post_deferredOk {s : State} (i : Incident) (h : s.DeferredOk) : (s.post i).DeferredOk := by
  obtain ⟨hcls, hnodup⟩ := h
  rcases post_cases s i with ⟨-, e⟩ | ⟨-, hc, hnew, e⟩ | ⟨-, -, e⟩ <;> rw [e]
  · exact ⟨hcls, hnodup⟩
  · refine ⟨fun d hd => ?_, ?_⟩
    · rcases List.mem_append.1 hd with hd | hd
      · exact hcls d hd
      · rw [List.mem_singleton.1 hd]
        exact hc
    · simp only [List.map_append, List.map_cons, List.map_nil]
      refine List.Nodup.append hnodup (List.nodup_singleton _) ?_
      rw [List.disjoint_singleton]
      intro hm
      obtain ⟨d, hd, he⟩ := List.mem_map.1 hm
      exact List.any_eq_false.1 hnew d hd (beq_iff_eq.2 he)
  · exact ⟨hcls, hnodup⟩

theorem postAll_deferredOk (is : List Incident) {s : State} (h : s.DeferredOk) : (s.postAll is).DeferredOk := by
  induction is generalizing s with
  | nil => exact h
  | cons i is ih => exact ih (post_deferredOk i h)

/-- Incidents of one channel bring no other into LOCKOUT (R169). -/
theorem postAll_lockedOut_other {is : List Incident} {x : Ch} (h : ∀ i ∈ is, i.ch ≠ x) (s : State) :
    (s.postAll is).lockedOut x = s.lockedOut x := by
  induction is generalizing s with
  | nil => rfl
  | cons i is ih =>
    obtain ⟨hi, his⟩ := List.forall_mem_cons.1 h
    refine (ih his (s.post i)).trans ?_
    refine Bool.eq_iff_iff.2 ⟨fun hl => ?_, post_lockedOut i⟩
    exact (lockedOut_of_post hl).resolve_right fun ⟨he, _⟩ => hi he

/-- The incidents stored of a run are its first ones, as far as there is room (R166). -/
theorem postAll_stored (is : List Incident) (s : State) : ∃ new, (s.postAll is).incidents = s.incidents ++ new ∧
    new.map (fun n => n.incident) = is.take (16 - s.incidents.length) := by
  induction is generalizing s with
  | nil => exact ⟨[], (List.append_nil _).symm, List.take_nil.symm⟩
  | cons i is ih =>
    obtain ⟨new, hnew, hmap⟩ := ih (s.post i)
    rcases post_cases s i with ⟨hroom, e⟩ | ⟨hfull, -, -, e⟩ | ⟨hfull, -, e⟩
    · refine ⟨{ number := s.nextIncident, incident := i } :: new, hnew.trans ?_, ?_⟩
      · simp [e]
      · rw [e, List.length_append, List.length_singleton] at hmap
        obtain ⟨k, hk⟩ : ∃ k, 16 - s.incidents.length = k + 1 := ⟨15 - s.incidents.length, by omega⟩
        rw [hk, List.take_succ_cons, List.map_cons, hmap]
        congr 2
        omega
    all_goals
      have hz : 16 - s.incidents.length = 0 := by omega
      rw [e, hz, List.take_zero, List.map_eq_nil_iff] at hmap
      refine ⟨new, hnew.trans (by rw [e]), ?_⟩
      rw [hz, hmap]
      rfl

/-! ### One head (R118, R119) -/

/-- A head after its evaluation (R118). -/
def Head.evaluated (hd : Head) : Head :=
  match hd.active with
  | none => hd
  | some x => { hd with hold := holdAfter x hd.accum hd.hold }

theorem evaluated_keeps (hd : Head) :
    hd.evaluated.active = hd.active ∧ hd.evaluated.pending = hd.pending ∧ hd.evaluated.accum = hd.accum := by
  unfold Head.evaluated
  split <;> exact ⟨rfl, rfl, rfl⟩

theorem evaluated_of_some {hd : Head} {x : Context} (h : hd.active = some x) :
    hd.evaluated = { hd with hold := holdAfter x hd.accum hd.hold } := by
  simp [Head.evaluated, h]

theorem evaluated_of_none {hd : Head} (h : hd.active = none) : hd.evaluated = hd := by
  simp [Head.evaluated, h]

/-- A loaded head at its trip watermark (R119). -/
def Head.isHot (hd : Head) : Bool :=
  match hd.active with
  | none => false
  | some x => decide (x.tripMark ≤ hd.accum)

theorem isHot_iff (hd : Head) : hd.isHot = true ↔ ∃ x, hd.active = some x ∧ x.tripMark ≤ hd.accum := by
  unfold Head.isHot
  split <;> simp_all

theorem evaluated_isHot (hd : Head) : hd.evaluated.isHot = hd.isHot := by
  obtain ⟨ha, -, hc⟩ := evaluated_keeps hd
  simp only [Head.isHot, ha, hc]

/-- What a trip of a head sends to the incident queue: the THERMAL_TRIP, and the REFUSED of every record (R56, R119). -/
def State.tripFaults (s : State) (ch : Ch) (h : HeadNo) : List Incident :=
  s.tripIncident ch h :: (s.chan ch).queue.map fun q => q.incident ch .refused Reason.lockout.value

/-- A trip out of LOCKOUT enters it (R119, R169). -/
theorem tripFaults_lock {s : State} {ch : Ch} (h : HeadNo) (hd : s.DeferredOk) (hl : s.lockedOut ch = false) :
    (s.postAll (s.tripFaults ch h)).lockedOut ch = true := by
  have first : (s.post (s.tripIncident ch h)).lockedOut ch = true := post_locks rfl hd hl
  change ((s.post (s.tripIncident ch h)).postAll _).lockedOut ch = true
  exact postAll_lockedOut _ first

theorem headAt_evaluated {c d : Channel} {h : HeadNo} (hlen : c.heads.length = 8)
    (hd : d.heads = c.heads.set h.toNat (c.headAt h).evaluated) (g : HeadNo) :
    d.headAt g = if g = h then (c.headAt g).evaluated else c.headAt g := by
  rw [Channel.headAt, hd]
  split
  · next e =>
    rw [e]
    exact headAt_set hlen h _
  · next e => exact headAt_set_other e _

/-- What the evaluation of one head does: at its trip watermark, out of LOCKOUT, it trips; else the hold flag is all. -/
theorem evaluate_step {s : State} {ch : Ch} (hlen : (s.chan ch).heads.length = 8) (h : HeadNo) :
    (((s.chan ch).headAt h).isHot = true ∧ s.lockedOut ch = false ∧
      (s.evaluate ch h).ledger = (s.postAll (s.tripFaults ch h)).ledger) ∨
    ((((s.chan ch).headAt h).isHot = false ∨ s.lockedOut ch = true) ∧ (s.evaluate ch h).ledger = s.ledger ∧
      (s.evaluate ch h).chan ch = { s.chan ch with heads := ((s.evaluate ch h).chan ch).heads }) := by
  rcases evaluate_cases s ch h with ⟨hn, e⟩ | ⟨x, hx, ⟨ht, hl, e⟩ | ⟨hq, e⟩⟩
  · exact .inr ⟨.inl (by simp [Head.isHot, hn]), by rw [e], by rw [e]⟩
  · let u := s.onChan ch fun c => c.setHead h { (s.chan ch).headAt h with
      hold := holdAfter x ((s.chan ch).headAt h).accum ((s.chan ch).headAt h).hold }
    let i := u.tripIncident ch h
    have hu : u.chan ch = (s.chan ch).setHead h { (s.chan ch).headAt h with
      hold := holdAfter x ((s.chan ch).headAt h).accum ((s.chan ch).headAt h).hold } := chan_onChan _ _ _
    have hlu : u.lockedOut ch = false := (lockedOut_onChan _ _ _ _).trans hl
    refine .inl ⟨(isHot_iff _).2 ⟨x, hx, ht⟩, hl, ?_⟩
    have hat : (u.chan ch).headAt h = { (s.chan ch).headAt h with
        hold := holdAfter x ((s.chan ch).headAt h).accum ((s.chan ch).headAt h).hold } := by
      rw [hu]
      exact headAt_set hlen h _
    have hq : (u.chan ch).queue = (s.chan ch).queue := by rw [hu]; rfl
    have hi : i = s.tripIncident ch h := by simp only [i, State.tripIncident, hat, Channel.headRec, hq]
    have hpost : ((u.post i).shutDown ch).ledger = (s.post i).ledger :=
      (ledger_of_sansLaser (shutDown_sansLaser (u.post i) ch)).trans
        ((onChan_ledger _ ch _).trans (post_ledger i (onChan_ledger s ch _)))
    rw [e]
    refine (congrArg State.ledger (raiseFault_enters hlu)).trans ((postAll_ledger _ hpost).trans ?_)
    rw [State.tripFaults, ← hi, ← hq]
    rfl
  · refine .inr ⟨?_, ?_, ?_⟩
    · refine hq.imp_left fun hlt => Bool.eq_false_iff.2 fun hhot => ?_
      obtain ⟨y, hy, hge⟩ := (isHot_iff _).1 hhot
      obtain rfl : x = y := Option.some.inj (hx.symm.trans hy)
      omega
    · rw [e, onChan_ledger]
    · rw [e, chan_onChan]
      rfl

/-- An evaluation changes its own head alone. -/
theorem evaluate_headAt {s : State} {ch : Ch} (hlen : (s.chan ch).heads.length = 8) (h g : HeadNo) :
    ((s.evaluate ch h).chan ch).headAt g =
        (if g = h then ((s.chan ch).headAt g).evaluated else (s.chan ch).headAt g) ∧
      ((s.evaluate ch h).chan ch).heads.length = 8 := by
  cases hx : ((s.chan ch).headAt h).active with
  | none =>
    have e : s.evaluate ch h = s := by simp [State.evaluate, hx]
    rw [e]
    refine ⟨?_, hlen⟩
    split
    · next hg => rw [evaluated_of_none (by rw [hg]; exact hx)]
    · rfl
  | some x =>
    have hheads := evaluate_heads hx
    refine ⟨headAt_evaluated hlen (by rw [hheads, evaluated_of_some hx]) g, ?_⟩
    rw [hheads]
    exact List.length_set.trans hlen

/-! ### The heads in order (R115) -/

/-- What the evaluation of some heads sends to the incident queue: the faults of the first that trips, out of LOCKOUT. -/
def State.faultsOf (s : State) (ch : Ch) (hs : List HeadNo) : List Incident :=
  if s.lockedOut ch = true then []
  else match hs.find? fun h => ((s.chan ch).headAt h).isHot with
    | none => []
    | some h => s.tripFaults ch h

theorem faultsOf_locked {s : State} {ch : Ch} (h : s.lockedOut ch = true) (hs : List HeadNo) : s.faultsOf ch hs = [] :=
  if_pos h

/-- No head trips, or the first at its watermark does, out of LOCKOUT. -/
theorem faultsOf_cases (s : State) (ch : Ch) (hs : List HeadNo) :
    ((s.lockedOut ch = true ∨ ∀ h ∈ hs, ((s.chan ch).headAt h).isHot = false) ∧ s.faultsOf ch hs = []) ∨
    ∃ h, s.lockedOut ch = false ∧ (hs.find? fun h => ((s.chan ch).headAt h).isHot) = some h ∧
      s.faultsOf ch hs = s.tripFaults ch h := by
  unfold State.faultsOf
  cases hl : s.lockedOut ch with
  | true => exact .inl ⟨.inl rfl, if_pos rfl⟩
  | false =>
    cases hf : hs.find? fun h => ((s.chan ch).headAt h).isHot with
    | none => exact .inl ⟨.inr fun h hm => by simpa using List.find?_eq_none.1 hf h hm, rfl⟩
    | some h => exact .inr ⟨h, rfl, rfl, rfl⟩

/-- Faults bring their channel into LOCKOUT (R169). -/
theorem faultsOf_lock {s : State} {ch : Ch} {hs : List HeadNo} (hd : s.DeferredOk) (h : s.faultsOf ch hs ≠ []) :
    (s.postAll (s.faultsOf ch hs)).lockedOut ch = true := by
  rcases faultsOf_cases s ch hs with ⟨-, e⟩ | ⟨g, hl, -, e⟩
  · exact absurd e h
  · rw [e]
    exact tripFaults_lock g hd hl

theorem faultsOf_length (s : State) (ch : Ch) (hs : List HeadNo) :
    (s.faultsOf ch hs).length ≤ (s.chan ch).queue.length + 1 := by
  rcases faultsOf_cases s ch hs with ⟨-, e⟩ | ⟨g, -, -, e⟩ <;> rw [e]
  · exact Nat.zero_le _
  · simp [State.tripFaults]

theorem faultsOf_ch {s : State} {ch : Ch} {hs : List HeadNo} : ∀ i ∈ s.faultsOf ch hs, i.ch = ch := by
  unfold State.faultsOf
  split
  · simp
  · split
    · simp
    · simp only [State.tripFaults, List.forall_mem_cons, List.forall_mem_map]
      exact ⟨rfl, fun _ _ => rfl⟩

/-- From `s` to `t` the heads `hs` of a channel have been evaluated. -/
structure State.Evaluates (ch : Ch) (hs : List HeadNo) (s t : State) : Prop where
  ledger : t.ledger = (s.postAll (s.faultsOf ch hs)).ledger
  heads  : ∀ g, (t.chan ch).headAt g = if g ∈ hs then ((s.chan ch).headAt g).evaluated else (s.chan ch).headAt g
  quiet  : s.faultsOf ch hs = [] → t.chan ch = { s.chan ch with heads := (t.chan ch).heads }

theorem holdAfter_idem (x : Context) (accum : Nat) (before : Bool) :
    holdAfter x accum (holdAfter x accum before) = holdAfter x accum before := by
  unfold holdAfter
  by_cases hhold : x.holdMark ≤ accum
  · rw [if_pos hhold, if_pos hhold]
  · by_cases hrel : accum ≤ x.releaseMark
    · rw [if_neg hhold, if_neg hhold, if_pos hrel, if_pos hrel]
    · rw [if_neg hhold, if_neg hhold, if_neg hrel, if_neg hrel]

theorem evaluated_idem (hd : Head) : hd.evaluated.evaluated = hd.evaluated := by
  cases hx : hd.active with
  | none =>
    rw [evaluated_of_none hx]
    exact evaluated_of_none hx
  | some x =>
    have ha : hd.evaluated.active = some x := (evaluated_keeps hd).1.trans hx
    rw [evaluated_of_some ha, evaluated_of_some hx, holdAfter_idem]

/-- Heads evaluated leave the faults of the others as they were, where the channel stays as it was beside its heads. -/
theorem faultsOf_congr {s u : State} {ch : Ch} (hs : List HeadNo) (hl : u.lockedOut ch = s.lockedOut ch)
    (hq : (u.chan ch).queue = (s.chan ch).queue)
    (hat : ∀ g, (u.chan ch).headAt g = ((s.chan ch).headAt g).evaluated ∨ (u.chan ch).headAt g = (s.chan ch).headAt g) :
    u.faultsOf ch hs = s.faultsOf ch hs := by
  have hot (g : HeadNo) : ((u.chan ch).headAt g).isHot = ((s.chan ch).headAt g).isHot := by
    rcases hat g with e | e <;> rw [e]
    exact evaluated_isHot _
  have haccum (g : HeadNo) : ((u.chan ch).headAt g).accum = ((s.chan ch).headAt g).accum := by
    rcases hat g with e | e <;> rw [e]
    exact (evaluated_keeps _).2.2
  simp only [State.faultsOf, hl, hot, State.tripFaults, State.tripIncident, Channel.headRec, hq, haccum]

theorem evaluates_foldl {ch : Ch} (hs : List HeadNo) : ∀ {s : State}, (s.chan ch).heads.length = 8 → s.DeferredOk →
    State.Evaluates ch hs s (hs.foldl (fun s h => s.evaluate ch h) s) := by
  induction hs with
  | nil =>
    intro s hlen hd
    have none : s.faultsOf ch [] = [] := by
      unfold State.faultsOf
      split <;> rfl
    exact ⟨by rw [none]; rfl, fun g => (if_neg List.not_mem_nil).symm, fun _ => rfl⟩
  | cons h hs ih =>
    intro s hlen hd
    let u := s.evaluate ch h
    have hat (g : HeadNo) := (evaluate_headAt hlen h g).1
    have k : State.Evaluates ch hs u (hs.foldl (fun s h => s.evaluate ch h) u) := by
      refine ih (evaluate_headAt hlen h h).2 ?_
      rcases evaluate_step hlen h with ⟨-, -, e⟩ | ⟨-, e, -⟩
      · exact deferredOk_of_ledger e (postAll_deferredOk _ hd)
      · exact deferredOk_of_ledger e hd
    have heads (g : HeadNo) : ((hs.foldl (fun s h => s.evaluate ch h) u).chan ch).headAt g =
        if g ∈ h :: hs then ((s.chan ch).headAt g).evaluated else (s.chan ch).headAt g := by
      rw [k.heads, hat]
      by_cases hm : g ∈ hs
      · rw [if_pos hm, if_pos (List.mem_cons_of_mem h hm)]
        split
        · exact evaluated_idem _
        · rfl
      · simp only [List.mem_cons, hm, or_false, if_false]
    rcases evaluate_step hlen h with ⟨hhot, hl, e⟩ | ⟨hq, e, hchan⟩
    · have hlock : u.lockedOut ch = true := by
        rw [lockedOut_of_ledger e]
        exact tripFaults_lock h hd hl
      have hfaults : s.faultsOf ch (h :: hs) = s.tripFaults ch h := by
        simp [State.faultsOf, hl, hhot]
      have hledger := k.ledger
      rw [faultsOf_locked hlock] at hledger
      refine ⟨by rw [hfaults]; exact hledger.trans e, heads, fun no => ?_⟩
      rw [hfaults] at no
      exact absurd no (List.cons_ne_nil _ _)
    · have hsame : u.faultsOf ch hs = s.faultsOf ch (h :: hs) := by
        have skip : s.faultsOf ch hs = s.faultsOf ch (h :: hs) := by
          rcases hq with hcool | hl
          · simp [State.faultsOf, hcool]
          · rw [faultsOf_locked hl, faultsOf_locked hl]
        refine (faultsOf_congr hs (lockedOut_of_ledger e ch) (by rw [hchan]) fun g => ?_).trans skip
        rw [hat]
        split
        · exact .inl rfl
        · exact .inr rfl
      refine ⟨by rw [← hsame]; exact k.ledger.trans (postAll_ledger _ e), heads, fun no => ?_⟩
      have := k.quiet (hsame.trans no)
      rw [hchan] at this
      exact this

/-- The evaluation of all the heads of a channel (R115). -/
theorem evaluateAll_evaluates {s : State} {ch : Ch} (hlen : (s.chan ch).heads.length = 8) (hd : s.DeferredOk) :
    State.Evaluates ch allHeads s (s.evaluateAll ch) := evaluates_foldl allHeads hlen hd

/-- The first head found in order has no lower one (R119). -/
theorem find_allHeads {p : HeadNo → Bool} {h : HeadNo} (hf : allHeads.find? p = some h) :
    p h = true ∧ ∀ g : HeadNo, g.toNat < h.toNat → p g = false := by
  obtain ⟨hp, before, after, hsplit, hno⟩ := List.find?_eq_some_iff_append.1 hf
  have sorted : allHeads.Pairwise fun a b => a.toNat < b.toNat := by decide
  refine ⟨hp, fun g hg => ?_⟩
  rw [hsplit, List.pairwise_append, List.pairwise_cons] at sorted
  obtain ⟨-, ⟨hafter, -⟩, -⟩ := sorted
  have hm := mem_allHeads g
  rw [hsplit, List.mem_append, List.mem_cons] at hm
  rcases hm with hm | rfl | hm
  · simpa using hno g hm
  · exact absurd hg (Nat.lt_irrefl _)
  · exact absurd (hafter g hm) (Nat.lt_asymm hg)

end Sys2Proof.Machine
end

section
/-! PROOFS. Settles O30: the heat tick (R64, R65, R76, R77, R115 to R119). -/

namespace Sys2Proof.Machine

/-! ### The evaluations of both channels -/

theorem Channel.Granted.sansLaser {now : Tick} {c d : Channel} (h : c.Granted now d) : d.sansLaser = c.sansLaser := by
  rcases h with rfl | ⟨b, -, rfl⟩ <;> rfl

theorem Channel.Granted.heads {now : Tick} {c d : Channel} (h : c.Granted now d) : d.heads = c.heads :=
  (congrArg Channel.heads h.sansLaser :)

theorem granted_headAt {now : Tick} {c d : Channel} (h : c.Granted now d) (g : HeadNo) : d.headAt g = c.headAt g := by
  simp only [Channel.headAt, h.heads]

/-- What the evaluations of both channels' heads come to, each channel as if it were evaluated alone (R115). -/
structure State.BothEvaluated (s t : State) : Prop where
  ledger : t.ledger = (s.postAll (s.faultsOf .A allHeads ++ s.faultsOf .B allHeads)).ledger
  heads  : ∀ ch g, (t.chan ch).headAt g = ((s.chan ch).headAt g).evaluated
  locks  : ∀ ch, s.faultsOf ch allHeads ≠ [] → t.lockedOut ch = true
  quiet  : ∀ ch, s.faultsOf ch allHeads = [] → (s.chan ch).laser.want = none →
    t.chan ch = { s.chan ch with heads := (t.chan ch).heads }
  taken  : t.heatTaken = s.heatTaken

theorem evaluates_heads {s t : State} {ch : Ch} (h : State.Evaluates ch allHeads s t) (g : HeadNo) :
    (t.chan ch).headAt g = ((s.chan ch).headAt g).evaluated := (h.heads g).trans (if_pos (mem_allHeads g))

/-- An evaluation of the heads of one channel leaves the other, but for a step granted. -/
theorem evaluateAll_other (s : State) (ch : Ch) :
    (s.chan (otherCh ch)).Granted s.now ((s.evaluateAll ch).chan (otherCh ch)) ∧
      (s.evaluateAll ch).heatTaken = s.heatTaken := by
  obtain ⟨hother, hset⟩ := (State.Does.evaluateAll (p := False) (l := False) (ch := ch) (s0 := s) .refl).other
  obtain ⟨-, -, -, -, -, -, -, -, -, htaken⟩ := settings_ext hset
  exact ⟨hother, htaken⟩

section
variable {s u t : State} {n m : Tick}

theorem bothEvaluated_of (hd : s.DeferredOk) (kA : State.Evaluates .A allHeads s u) (kB : State.Evaluates .B allHeads u t)
    (oB : (s.chan .B).Granted n (u.chan .B)) (oA : (u.chan .A).Granted m (t.chan .A))
    (hu : u.heatTaken = s.heatTaken) (ht : t.heatTaken = u.heatTaken) : State.BothEvaluated s t := by
  have hd' : u.DeferredOk := deferredOk_of_ledger kA.ledger (postAll_deferredOk _ hd)
  have lockB : u.lockedOut .B = s.lockedOut .B := by
    rw [lockedOut_of_ledger kA.ledger]
    refine postAll_lockedOut_other (fun i hi => ?_) s
    rw [faultsOf_ch i hi]
    decide
  have faultsB : u.faultsOf .B allHeads = s.faultsOf .B allHeads :=
    faultsOf_congr allHeads lockB (congrArg Channel.queue oB.sansLaser :) fun g => .inr (granted_headAt oB g)
  have ledgerB := kB.ledger
  rw [faultsB] at ledgerB
  refine ⟨?_, fun ch g => ?_, fun ch hf => ?_, fun ch hf hw => ?_, ht.trans hu⟩
  · rw [postAll_append]
    exact ledgerB.trans (postAll_ledger _ kA.ledger)
  · cases ch with
    | A => exact (granted_headAt oA g).trans (evaluates_heads kA g)
    | B => exact (evaluates_heads kB g).trans (by rw [granted_headAt oB])
  · cases ch with
    | A =>
      rw [lockedOut_of_ledger ledgerB]
      refine postAll_lockedOut _ ?_
      rw [lockedOut_of_ledger kA.ledger]
      exact faultsOf_lock hd hf
    | B =>
      have := faultsOf_lock hd' (by rw [faultsB]; exact hf)
      rwa [← lockedOut_of_ledger kB.ledger] at this
  · cases ch with
    | A =>
      have e := kA.quiet hf
      have hw' : (u.chan .A).laser.want = none := by rw [e]; exact hw
      rw [oA.of_no_want hw']
      exact e
    | B =>
      rw [← oB.of_no_want hw]
      exact kB.quiet (faultsB.trans hf)

end

theorem both_evaluated {s : State} (hA : (s.chan .A).heads.length = 8) (hB : (s.chan .B).heads.length = 8)
    (hd : s.DeferredOk) : State.BothEvaluated s ((s.evaluateAll .A).evaluateAll .B) := by
  have kA := evaluateAll_evaluates hA hd
  obtain ⟨oB, hu⟩ := evaluateAll_other s .A
  have hB' : ((s.evaluateAll .A).chan .B).heads.length = 8 := by
    have hheads := oB.heads
    rw [otherCh] at hheads
    rw [hheads, hB]
  have kB := evaluateAll_evaluates hB' (deferredOk_of_ledger kA.ledger (postAll_deferredOk _ hd))
  obtain ⟨oA, ht⟩ := evaluateAll_other (s.evaluateAll .A) .B
  exact bothEvaluated_of hd kA kB oB oA hu ht

/-! ### The state of the sequencer (R63, R76) -/

/-- In IDLE the target is the bias code and the code has settled (R62, R63). -/
theorem idle_target {s : State} {ch : Ch} (h : s.seqState ch = .idle) :
    (s.targetOf ch).1 = .idle ∧ (s.chan ch).laser.isSettled = true := by
  cases hk : (s.targetOf ch).1 with
  | lockout | force | fence => simp [State.seqState, hk] at h
  | noContext | read | park => cases hs : (s.chan ch).laser.isSettled <;> simp [State.seqState, hk, hs] at h
  | record =>
    cases hs : (s.chan ch).laser.isSettled with
    | false => simp [State.seqState, hk, hs] at h
    | true =>
      cases hr : (s.chan ch).headRec with
      | none => simp [State.seqState, hk, hs, hr] at h
      | some r => cases hst : r.state <;> simp [State.seqState, hk, hs, hr, hst] at h
  | idle =>
    cases hs : (s.chan ch).laser.isSettled with
    | false => simp [State.seqState, hk, hs] at h
    | true => exact ⟨rfl, rfl⟩

/-- Nothing outranks the bias code (R62). -/
theorem targetOf_idle {s : State} {ch : Ch} (h : (s.targetOf ch).1 = .idle) : s.lockedOut ch = false ∧
    (s.chan ch).laser.force = none ∧ (s.chan ch).queue = [] ∧ (∃ x, (s.chan ch).context = some x) ∧
    (s.chan ch).wedge.fence = false ∧ (s.chan ch).rg.level = false ∧ (s.chan ch).laser.park = false := by
  unfold State.targetOf Channel.headRec at h
  cases hl : s.lockedOut ch with
  | true => simp [hl] at h
  | false =>
    cases hf : (s.chan ch).laser.force with
    | some f => simp [hl, hf] at h
    | none =>
      cases hq : (s.chan ch).queue with
      | cons r rest => simp [hl, hf, hq] at h
      | nil =>
        cases hx : (s.chan ch).context with
        | none => simp [hl, hf, hq, hx] at h
        | some x =>
          cases hw : (s.chan ch).wedge.fence with
          | true => simp [hl, hf, hq, hx, hw] at h
          | false =>
            cases hg : (s.chan ch).rg.level with
            | true => simp [hl, hf, hq, hx, hw, hg] at h
            | false =>
              cases hp : (s.chan ch).laser.park with
              | true => simp [hl, hf, hq, hx, hw, hg, hp] at h
              | false => exact ⟨rfl, rfl, rfl, ⟨x, rfl⟩, rfl, rfl, rfl⟩

theorem seqState_idle {s : State} {ch : Ch} {x : Context} (hl : s.lockedOut ch = false)
    (hf : (s.chan ch).laser.force = none) (hq : (s.chan ch).queue = []) (hx : (s.chan ch).context = some x)
    (hfence : (s.chan ch).wedge.fence = false) (hrg : (s.chan ch).rg.level = false)
    (hp : (s.chan ch).laser.park = false) (hs : (s.chan ch).laser.isSettled = true) : s.seqState ch = .idle := by
  simp [State.seqState, State.targetOf, Channel.headRec, hl, hf, hq, hx, hfence, hrg, hp, hs]

theorem seqState_congr {s t : State} {ch : Ch} (hl : t.lockedOut ch = s.lockedOut ch) (hc : t.chan ch = s.chan ch) :
    t.seqState ch = s.seqState ch := by
  simp only [State.seqState, State.targetOf, hl, hc]

/-! ### The park counts (R76) -/

theorem advancePark_keeps (s : State) (y : Ch) : (s.advancePark y).ledger = s.ledger ∧
    (s.advancePark y).heatTaken = s.heatTaken ∧ (s.advancePark y).chan (otherCh y) = s.chan (otherCh y) ∧
    ((s.advancePark y).chan y).heads = (s.chan y).heads := by
  unfold State.advancePark
  split
  · exact ⟨onChan_ledger _ _ _, onChan_heatTaken _ _ _, chan_onChan_other _ _ _, by rw [chan_onChan]⟩
  · exact ⟨rfl, rfl, rfl, rfl⟩

theorem advancePark_headAt (s : State) (y ch : Ch) (g : HeadNo) :
    ((s.advancePark y).chan ch).headAt g = (s.chan ch).headAt g := by
  obtain ⟨-, -, hother, hheads⟩ := advancePark_keeps s y
  rcases ch_cases y ch with rfl | rfl
  · simp only [Channel.headAt, hheads]
  · rw [hother]

/-- In IDLE the park count advances and is compared with the park delay. -/
theorem advancePark_idle {s : State} {ch : Ch} (h : s.seqState ch = .idle) :
    ((s.advancePark ch).chan ch).laser = { (s.chan ch).laser with
      parkCount := (s.chan ch).laser.parkNext
      parkDue := (s.chan ch).setup.parkDelay != 0 &&
        decide ((s.chan ch).setup.parkDelay ≤ (s.chan ch).laser.parkNext) } := by
  have e : s.advancePark ch = s.onChan ch fun c => { c with laser := { c.laser with
      parkCount := c.laser.parkNext
      parkDue := c.setup.parkDelay != 0 && decide (c.setup.parkDelay ≤ c.laser.parkNext) } } :=
    if_pos (beq_iff_eq.2 h)
  rw [e, chan_onChan]

/-- The advance of both park counts, at a channel in IDLE. -/
theorem bothParks_idle {s : State} {ch : Ch} (h : s.seqState ch = .idle) :
    (((s.advancePark .A).advancePark .B).chan ch).laser = { (s.chan ch).laser with
      parkCount := (s.chan ch).laser.parkNext
      parkDue := (s.chan ch).setup.parkDelay != 0 &&
        decide ((s.chan ch).setup.parkDelay ≤ (s.chan ch).laser.parkNext) } := by
  cases ch with
  | A =>
    obtain ⟨-, -, hother, -⟩ := advancePark_keeps (s.advancePark .A) .B
    rw [otherCh] at hother
    rw [hother]
    exact advancePark_idle h
  | B =>
    obtain ⟨hledger, -, hother, -⟩ := advancePark_keeps s .A
    rw [otherCh] at hother
    have := advancePark_idle ((seqState_congr (lockedOut_of_ledger hledger .B) hother).trans h)
    rwa [hother] at this

/-! ### The accumulators (R115 to R117) -/

/-- A head after the update of its accumulator at a heat tick. -/
def State.warmed (s : State) (ch : Ch) (h : HeadNo) : Head :=
  { (s.chan ch).headAt h with
    accum := heatUpdate ((s.chan ch).headAt h).accum
      (if (s.chan ch).relay.selected = some h then s.weight (s.chan ch).laser.code else 0) ((s.chan ch).headAt h).leakShift }

theorem heated_headAt {s : State} {ch : Ch} (hlen : (s.chan ch).heads.length = 8) (h : HeadNo) :
    (s.heated.chan ch).headAt h = s.warmed ch h := by
  have hlt : h.toNat < (s.chan ch).heads.length := by rw [hlen]; exact h.isLt
  have hsel : ((s.chan ch).relay.selected.map BitVec.toNat == some h.toNat) =
      decide ((s.chan ch).relay.selected = some h) := by
    cases (s.chan ch).relay.selected with
    | none => rfl
    | some g =>
      rw [Bool.eq_iff_iff, decide_eq_true_iff, beq_iff_eq]
      simp [BitVec.toNat_inj]
  rw [heated_chan]
  simp only [State.warmed, Channel.headAt, heatHeads, List.getD_eq_getElem?_getD, List.getElem?_mapIdx,
    List.getElem?_eq_getElem hlt, Option.map_some, Option.getD_some, hsel, decide_eq_true_eq]

theorem heated_ledger (s : State) : s.heated.ledger = s.ledger := rfl

theorem heated_length {s : State} {ch : Ch} (hlen : (s.chan ch).heads.length = 8) :
    (s.heated.chan ch).heads.length = 8 := by
  rw [heated_chan]
  exact List.length_mapIdx.trans hlen

/-! ### The trips of a heat tick (R119) -/

/-- The filter that picks out the trips of a channel. -/
def isTripOf (ch : Ch) (i : Incident) : Bool := i.kind == .thermalTrip && i.ch == ch

theorem faultsOf_trips_other {s : State} {ch x : Ch} (h : x ≠ ch) (hs : List HeadNo) :
    (s.faultsOf x hs).filter (isTripOf ch) = [] := by
  refine List.filter_eq_nil_iff.2 fun i hi => ?_
  simp [isTripOf, faultsOf_ch i hi, h]

theorem tripFaults_trips (s : State) (ch : Ch) (h : HeadNo) :
    (s.tripFaults ch h).filter (isTripOf ch) = [s.tripIncident ch h] := by
  have rest : ((s.chan ch).queue.map fun q => q.incident ch .refused Reason.lockout.value).filter (isTripOf ch) = [] := by
    refine List.filter_eq_nil_iff.2 fun i hi => ?_
    obtain ⟨q, -, rfl⟩ := List.mem_map.1 hi
    simp [isTripOf, Rec.incident, incident]
  have own : isTripOf ch (s.tripIncident ch h) = true := by simp [isTripOf, State.tripIncident, incident]
  rw [State.tripFaults, List.filter_cons_of_pos own, rest]

/-- The trips of a channel among the faults of both are its own. -/
theorem both_trips (s : State) (ch : Ch) : (s.faultsOf .A allHeads ++ s.faultsOf .B allHeads).filter (isTripOf ch) =
    (s.faultsOf ch allHeads).filter (isTripOf ch) := by
  rw [List.filter_append]
  cases ch with
  | A => rw [faultsOf_trips_other (x := .B) (by decide), List.append_nil]
  | B => rw [faultsOf_trips_other (x := .A) (by decide), List.nil_append]

end Sys2Proof.Machine
end

section
/-! PROOFS. Settles O30, the end: HEAT_TICK and PARK_EXPIRY (R76, R77, R115 to R119). -/

namespace Sys2Proof.Machine

/-- The comparison of the park count with a park delay that is not 0 (R76). -/
theorem parkDue_eq (delay count : Nat) :
    (delay != 0 && decide (delay ≤ count)) = decide (delay ≠ 0 ∧ delay ≤ count) := by
  rw [Bool.decide_and]
  by_cases h : delay = 0 <;> simp [h]

section
variable {s : State}

/-- What a heat tick comes to (R115). -/
structure State.HeatTaken (s t : State) : Prop where
  ledger : t.ledger = (s.postAll (s.heated.faultsOf .A allHeads ++ s.heated.faultsOf .B allHeads)).ledger
  heads  : ∀ ch g, (t.chan ch).headAt g = (s.warmed ch g).evaluated
  locks  : ∀ ch, s.heated.faultsOf ch allHeads ≠ [] → t.lockedOut ch = true
  idle   : ∀ ch, s.seqState ch = .idle → t.lockedOut ch = false → (t.chan ch).laser = { (s.chan ch).laser with
    parkCount := (s.chan ch).laser.parkNext
    parkDue := decide ((s.chan ch).setup.parkDelay ≠ 0 ∧ (s.chan ch).setup.parkDelay ≤ (s.chan ch).laser.parkNext) }
  taken  : t.heatTaken = true

/-- A heat tick updates the accumulators, evaluates the heads, and advances the park counts. -/
theorem takeHeat_taken (hlen : ∀ ch, (s.chan ch).heads.length = 8) (hd : s.DeferredOk) :
    s.HeatTaken { s with heatTaken := true }.takeHeat := by
  have k := both_evaluated (heated_length (hlen .A)) (heated_length (hlen .B)) (deferredOk_of_ledger (heated_ledger s) hd)
  rw [takeHeat_eq]
  generalize (s.heated.evaluateAll .A).evaluateAll .B = u at k
  obtain ⟨ledgerA, takenA, -, -⟩ := advancePark_keeps u .A
  obtain ⟨ledgerB, takenB, -, -⟩ := advancePark_keeps (u.advancePark .A) .B
  have hledger : ((u.advancePark .A).advancePark .B).ledger = u.ledger := ledgerB.trans ledgerA
  have hheads (ch : Ch) (g : HeadNo) : (u.chan ch).headAt g = (s.warmed ch g).evaluated := by
    rw [k.heads, heated_headAt (hlen ch)]
  refine ⟨hledger.trans (k.ledger.trans (postAll_ledger _ (heated_ledger s))), fun ch g => ?_, fun ch hf => ?_,
    fun ch hidle hlock => ?_, takenB.trans (takenA.trans k.taken)⟩
  · rw [advancePark_headAt, advancePark_headAt, hheads]
  · rw [lockedOut_of_ledger hledger]
    exact k.locks ch hf
  · obtain ⟨hcase, hsettled⟩ := idle_target hidle
    obtain ⟨hl, hforce, hq, ⟨x, hx⟩, hfence, hrg, hpark⟩ := targetOf_idle hcase
    rw [lockedOut_of_ledger hledger] at hlock
    have hwarm : s.heated.chan ch = { s.chan ch with heads := (s.heated.chan ch).heads } := by rw [heated_chan]
    have hcalm : s.heated.faultsOf ch allHeads = [] := by
      by_contra hne
      exact absurd ((k.locks ch hne).symm.trans hlock) (by decide)
    have hu : u.chan ch = { s.chan ch with heads := (u.chan ch).heads } := by
      have := k.quiet ch hcalm (by rw [hwarm]; exact want_of_settled hsettled)
      rw [hwarm] at this
      exact this
    have hctx : (u.chan ch).context = some x := by
      have hactive (g : HeadNo) : (u.chan ch).contextOf g = (s.chan ch).contextOf g :=
        (congrArg Head.active (hheads ch g)).trans (evaluated_keeps _).1
      simp only [Channel.context, funext hactive]
      rw [hu]
      exact hx
    have hstill : u.seqState ch = .idle := by
      refine seqState_idle hlock ?_ ?_ hctx ?_ ?_ ?_ ?_ <;> rw [hu] <;> assumption
    rw [bothParks_idle hstill, parkDue_eq, hu]

/-- HEAT_TICK where it is due, RSTN being high. -/
theorem exec_heatTick_due (hnow : s.now.toNat % 1024 = 0) (htaken : s.heatTaken = false) (hr : s.rstnLow = false) :
    exec .heatTick s = .next { s with heatTaken := true }.takeHeat := by
  rw [exec_heatTick, if_pos (by simp [State.heatDue, hnow, htaken]), if_neg (by rw [hr]; decide)]

/-! ### The heads after a heat tick (R115 to R119) -/

theorem warmed_accum_le (s : State) (ch : Ch) (h : HeadNo) : (s.warmed ch h).accum ≤ 65535 := Nat.min_le_left _ _

/-- A head after the heat tick is hot as it is after the update of its accumulator. -/
theorem hot_iff {t : State} (k : s.HeatTaken t) (ch : Ch) (h : HeadNo) :
    (∃ c, (t.chan ch).contextOf h = some c ∧ c.tripMark ≤ ((t.chan ch).headAt h).accum) ↔
      (s.warmed ch h).isHot = true := by
  rw [isHot_iff, Channel.contextOf, k.heads]
  obtain ⟨ha, -, hc⟩ := evaluated_keeps (s.warmed ch h)
  rw [ha, hc]

/-- A hot head finds its channel in LOCKOUT (R119). -/
theorem hot_locked {t : State} (k : s.HeatTaken t) (hlen : ∀ ch, (s.chan ch).heads.length = 8) {ch : Ch} {h : HeadNo}
    (hot : (s.warmed ch h).isHot = true) : t.lockedOut ch = true := by
  rcases faultsOf_cases s.heated ch allHeads with ⟨hl | hcool, -⟩ | ⟨g, -, -, e⟩
  · rw [lockedOut_of_ledger k.ledger]
    exact postAll_lockedOut _ hl
  · have := hcool h (mem_allHeads h)
    rw [heated_headAt (hlen ch), hot] at this
    contradiction
  · refine k.locks ch ?_
    rw [e]
    exact List.cons_ne_nil _ _

/-- The trip that a heat tick raises in a channel, if it raises one: that of the first hot head, out of LOCKOUT. -/
theorem heat_trips (hlen : ∀ ch, (s.chan ch).heads.length = 8) (ch : Ch) :
    ((s.lockedOut ch = true ∨ ∀ h, (s.warmed ch h).isHot = false) ∧
      (s.heated.faultsOf ch allHeads).filter (isTripOf ch) = []) ∨
    ∃ h, s.lockedOut ch = false ∧ (s.warmed ch h).isHot = true ∧
      (∀ g : HeadNo, g.toNat < h.toNat → (s.warmed ch g).isHot = false) ∧
      (s.heated.faultsOf ch allHeads).filter (isTripOf ch) =
        [{ kind := .thermalTrip, ch := ch, head := some h
           burst := (s.chan ch).queue.head?.map fun r => r.seq
           detail := (s.warmed ch h).accum }] := by
  have hat (h : HeadNo) := heated_headAt (hlen ch) h
  rcases faultsOf_cases s.heated ch allHeads with ⟨hno, e⟩ | ⟨h, hl, hfind, e⟩
  · refine .inl ⟨hno.imp id fun hcool h => ?_, by rw [e]; rfl⟩
    rw [← hat]
    exact hcool h (mem_allHeads h)
  · obtain ⟨hhot, hfirst⟩ := find_allHeads hfind
    rw [hat] at hhot
    refine .inr ⟨h, hl, hhot, fun g hg => by rw [← hat]; exact hfirst g hg, ?_⟩
    rw [e, tripFaults_trips, State.tripIncident, hat, incident, min_eq_right (warmed_accum_le s ch h), heated_chan]
    rfl

/-- A filter on incidents meets the stored ones as it meets the incidents they hold. -/
theorem filter_stored (new : List Stored) (p : Incident → Bool) :
    (new.filter fun n => p n.incident).map (fun n => n.incident) = (new.map fun n => n.incident).filter p := by
  rw [List.filter_map]
  rfl

end

/-- The clause of O30 on one head. -/
theorem heatTick_head {s t : State} (k : s.HeatTaken t) (hlen : ∀ ch, (s.chan ch).heads.length = 8) (ch : Ch) (h : HeadNo) :
    let x := (s.chan ch).headAt h
    let y := (t.chan ch).headAt h
    let w := if (s.chan ch).relay.selected = some h then s.weight (s.chan ch).laser.code else 0
    let k := match x.active with
      | some c => c.leak
      | none => 8
    y.accum = min 65535 (x.accum + w - x.accum / 2 ^ k) ∧ y.active = x.active ∧ y.pending = x.pending ∧
      (x.active = none → y.hold = x.hold) ∧
      (∀ c, x.active = some c →
        y.hold = (if c.holdMark ≤ y.accum then true else if y.accum ≤ c.releaseMark then false else x.hold) ∧
        (c.tripMark ≤ y.accum → t.lockedOut ch = true)) := by
  obtain ⟨ha, hp, hc⟩ := evaluated_keeps (s.warmed ch h)
  dsimp only
  rw [k.heads, ha, hp, hc]
  refine ⟨rfl, rfl, rfl, fun hx => ?_, fun c hx => ⟨?_, fun hhot => ?_⟩⟩
  · rw [evaluated_of_none (hd := s.warmed ch h) hx]
    rfl
  · rw [evaluated_of_some (hd := s.warmed ch h) hx]
    rfl
  · exact hot_locked k hlen ((isHot_iff _).2 ⟨c, hx, hhot⟩)

/-- The clause of O30 on the trips of a channel. -/
theorem heatTick_trips {s t : State} (k : s.HeatTaken t) (hlen : ∀ ch, (s.chan ch).heads.length = 8) {new : List Stored}
    (hnew : new.map (fun n => n.incident) =
      (s.heated.faultsOf .A allHeads ++ s.heated.faultsOf .B allHeads).take (16 - s.incidents.length)) (ch : Ch) :
    let hot (h : HeadNo) : Prop := ∃ c, (t.chan ch).contextOf h = some c ∧
      c.tripMark ≤ ((t.chan ch).headAt h).accum
    let trips := new.filter fun n => n.incident.kind == .thermalTrip && n.incident.ch == ch
    trips.length ≤ 1 ∧
      (∀ n ∈ trips, s.lockedOut ch = false ∧ ∃ h, hot h ∧ (∀ g, g.toNat < h.toNat → ¬ hot g) ∧
        n.incident = { kind := .thermalTrip, ch := ch, head := some h
                       burst := (s.chan ch).queue.head?.map fun r => r.seq
                       detail := ((t.chan ch).headAt h).accum }) ∧
      (s.incidents.length + s.a.queue.length + s.b.queue.length + 2 ≤ 16 → s.lockedOut ch = false →
        (∃ h, hot h) → trips.length = 1) := by
  intro hot trips
  have hhot (h : HeadNo) : hot h ↔ (s.warmed ch h).isHot = true := hot_iff k ch h
  have htrips : trips.map (fun n => n.incident) = (new.map fun n => n.incident).filter (isTripOf ch) :=
    filter_stored new (isTripOf ch)
  have sub : List.Sublist (trips.map fun n => n.incident) ((s.heated.faultsOf ch allHeads).filter (isTripOf ch)) := by
    rw [htrips, hnew, ← both_trips]
    exact (List.take_sublist _ _).filter _
  rcases heat_trips hlen ch with ⟨hno, e⟩ | ⟨h, hl, hh, hfirst, e⟩ <;> rw [e] at sub
  · have none : trips = [] := List.map_eq_nil_iff.1 (List.sublist_nil.1 sub)
    refine ⟨by rw [none]; exact Nat.zero_le 1, by rw [none]; exact fun n hn => absurd hn List.not_mem_nil, ?_⟩
    rintro - hl ⟨h, hh⟩
    rcases hno with hl' | hcool
    · exact absurd (hl'.symm.trans hl) (by decide)
    · exact absurd ((hhot h).1 hh) (by rw [hcool h]; decide)
  · refine ⟨?_, fun n hn => ⟨hl, h, (hhot h).2 hh, fun g hg hot => ?_, ?_⟩, fun hroom _ _ => ?_⟩
    · have := sub.length_le
      rwa [List.length_map] at this
    · exact absurd ((hhot g).1 hot) (by rw [hfirst g hg]; decide)
    · have hmem := sub.subset (List.mem_map_of_mem hn)
      rw [List.mem_singleton.1 hmem, k.heads, (evaluated_keeps _).2.2]
    · have hA := faultsOf_length s.heated .A allHeads
      have hB := faultsOf_length s.heated .B allHeads
      rw [heated_chan] at hA hB
      have hall : (s.heated.faultsOf .A allHeads ++ s.heated.faultsOf .B allHeads).length ≤ 16 - s.incidents.length := by
        rw [List.length_append]
        change _ ≤ s.a.queue.length + 1 at hA
        change _ ≤ s.b.queue.length + 1 at hB
        omega
      rw [hnew, List.take_of_length_le hall, both_trips, e] at htrips
      have := congrArg List.length htrips
      rwa [List.length_map] at this

/-! ### PARK_EXPIRY (R76, R77) -/

theorem turn_targetOf (s : State) (ch : Ch) : (s.turn ch).targetOf ch = s.targetOf ch := by
  obtain ⟨hf, hp, -⟩ := turn_marks s ch ch
  exact targetOf_congr (turn_sansLaser s ch) ch hf hp

/-- The park count is 0 once a recomputation has found another case than that of the bias code (R76). -/
theorem retarget_parkCount {s : State} {ch : Ch} (h : (s.targetOf ch).1 ≠ .idle) :
    ((s.retarget ch).chan ch).laser.parkCount = 0 := by
  have leaves {w : State} (hw : w.targetOf ch = s.targetOf ch) : ((w.leaveIdle ch).chan ch).laser.parkCount = 0 := by
    have hn : w.seqState ch ≠ .idle := fun hi => h (by rw [← hw]; exact (idle_target hi).1)
    have e : w.leaveIdle ch = w.onChan ch fun c => { c with laser := { c.laser with parkCount := 0, parkDue := false } } :=
      if_neg (by simpa using hn)
    rw [e, chan_onChan]
  by_cases hsame : s.firstTarget ch = (s.chan ch).laser.target
  · rw [retarget_of_same hsame]
    exact leaves rfl
  · rw [retarget_new hsame]
    refine leaves ((turn_targetOf _ ch).trans ?_)
    have hv : (s.aimed ch (s.firstTarget ch)).sansLaser = s.sansLaser := onChan_laser_sansLaser s ch _ fun _ => rfl
    exact targetOf_congr hv ch (by rw [aimed_laser]) (by rw [aimed_laser])

/-- The channel whose park delay has expired. -/
def Channel.parked (c : Channel) : Channel := { c with laser := { c.laser with park := true, parkDue := false } }

/-- The clause of O30 on PARK_EXPIRY: the park condition takes the place of the bias code (R62, R77). -/
theorem parkExpiry_parks {s : State} {ch : Ch} (hl : s.live ch = true) (hd : (s.chan ch).laser.parkDue = true)
    (hi : s.seqState ch = .idle) : ∃ t, exec (.parkExpiry ch) s = .next t ∧ t.sansLaser = s.sansLaser ∧
      (t.chan ch).laser.park = true ∧ (t.chan ch).laser.target = 0 ∧ (t.chan ch).laser.parkCount = 0 ∧
      (s.recheckDue = false → s.meetsTarget t ch) := by
  obtain ⟨hcase, -⟩ := idle_target hi
  obtain ⟨hlock, hforce, hq, ⟨x, hx⟩, hfence, hrg, -⟩ := targetOf_idle hcase
  have hexec : exec (.parkExpiry ch) s = .next ((s.onChan ch Channel.parked).retarget ch) :=
    congrArg _ (if_pos (by simp [State.parkDue, hl, hd, hi]))
  obtain ⟨hv, ht, hfirst, -, hpark, hmeets⟩ :=
    retarget_onChan (f := Channel.parked) (fun _ => ⟨rfl, rfl, rfl, rfl⟩) s ch
  have hw : (s.onChan ch Channel.parked).chan ch = (s.chan ch).parked := chan_onChan _ _ _
  have hzero : (s.onChan ch Channel.parked).firstTarget ch = 0 := by
    rw [firstTarget_onChan (x := x) hlock hforce hq ((context_congr rfl rfl).trans hx)]
    change (if (s.chan ch).wedge.fence = true then _ else if (s.chan ch).rg.level = true then _ else _) = _
    rw [hfence, hrg]
    rfl
  have hcase' : ((s.onChan ch Channel.parked).targetOf ch).1 ≠ .idle := fun h => by
    obtain ⟨-, -, -, -, -, -, hp⟩ := targetOf_idle h
    rw [hw] at hp
    contradiction
  exact ⟨_, hexec, hv.trans (onChan_laser_sansLaser s ch _ fun _ => rfl), hpark, ht.trans (hfirst.trans hzero),
    retarget_parkCount hcase', hmeets⟩

/-- Settles O30. -/
theorem heatTick : Obligations.HeatTick := by
  refine ⟨fun s hnow htaken hr hA hB hd => ?_, fun s ch hl hdue hi => parkExpiry_parks hl hdue hi, fun s hr => ?_⟩
  · have hlen : ∀ ch, (s.chan ch).heads.length = 8 := fun ch => by
      cases ch
      · exact hA
      · exact hB
    have k := takeHeat_taken hlen hd
    obtain ⟨hinc, -, -⟩ := ledger_ext k.ledger
    obtain ⟨new, hnew, hmap⟩ := postAll_stored (s.heated.faultsOf .A allHeads ++ s.heated.faultsOf .B allHeads) s
    refine ⟨_, new, exec_heatTick_due hnow htaken hr, k.taken, fun ch h => heatTick_head k hlen ch h, hinc.trans hnew,
      fun ch => ?_⟩
    obtain ⟨hone, htrip, hroom⟩ := heatTick_trips k hlen hmap ch
    exact ⟨hone, htrip, hroom, fun hidle hlock => k.idle ch hidle hlock⟩
  · rw [exec_heatTick]
    refine ⟨_, rfl, ?_⟩
    by_cases hdue : s.heatDue = true
    · rw [if_pos hdue, if_pos hr]
    · rw [if_neg hdue]

end Sys2Proof.Machine
end

section
/-! PROOFS. Settles O49: CLEAR, and the storing of deferred incidents (R82, R120, R155, R166, R167, R170). -/

namespace Sys2Proof.Machine

/-! ### The examination of a channel (R120) -/

/-- The fresh THERMAL_TRIP of a head, if it is still at its trip watermark. -/
def State.freshTrip (s : State) (ch : Ch) (h : HeadNo) : Option Incident :=
  if ((s.chan ch).headAt h).isHot = true then
    some (incident .thermalTrip ch (some h) none ((s.chan ch).headAt h).accum)
  else none

/-- The fresh THERMAL_TRIPs of a channel, in the order of its heads. -/
def State.freshTrips (s : State) (ch : Ch) : List Incident := allHeads.filterMap (s.freshTrip ch)

theorem examineHead_eq (s : State) (ch : Ch) (h : HeadNo) :
    s.examineHead ch h = s.postAll (s.freshTrip ch h).toList := by
  cases hx : ((s.chan ch).headAt h).active with
  | none => simp [State.examineHead, State.freshTrip, Head.isHot, hx, State.postAll]
  | some x =>
    by_cases ht : x.tripMark ≤ ((s.chan ch).headAt h).accum <;>
      simp [State.examineHead, State.freshTrip, Head.isHot, hx, ht, State.postAll]

/-- The examination of some heads sends their fresh trips, no trip changing what the next head meets. -/
theorem examineHeads_eq (hs : List HeadNo) (s : State) (ch : Ch) :
    hs.foldl (fun s h => s.examineHead ch h) s = s.postAll (hs.filterMap (s.freshTrip ch)) := by
  induction hs generalizing s with
  | nil => rfl
  | cons h hs ih =>
    have same : (s.examineHead ch h).freshTrip ch = s.freshTrip ch := by
      funext g
      rw [examineHead_eq]
      simp only [State.freshTrip, chan_postAll]
    rw [List.foldl_cons, ih, same, examineHead_eq, ← postAll_append, List.filterMap_cons]
    cases s.freshTrip ch h <;> rfl

theorem examine_eq (s : State) (ch : Ch) : s.examine ch = s.postAll (s.freshTrips ch) := examineHeads_eq allHeads s ch

theorem freshTrips_ch {s : State} {ch : Ch} : ∀ i ∈ s.freshTrips ch, i.ch = ch ∧ i.kind = .thermalTrip := by
  intro i hi
  obtain ⟨h, -, e⟩ := List.mem_filterMap.1 hi
  simp only [State.freshTrip, Option.ite_none_right_eq_some, Option.some.injEq] at e
  rw [← e.2]
  exact ⟨rfl, rfl⟩

theorem freshTrips_length (s : State) (ch : Ch) : (s.freshTrips ch).length ≤ 8 := List.length_filterMap_le ..

theorem mem_freshTrips {s : State} {ch : Ch} {h : HeadNo} (hot : ((s.chan ch).headAt h).isHot = true) :
    incident .thermalTrip ch (some h) none ((s.chan ch).headAt h).accum ∈ s.freshTrips ch :=
  List.mem_filterMap.2 ⟨h, mem_allHeads h, if_pos hot⟩

theorem freshTrips_nil {s : State} {ch : Ch} (cool : ∀ h, ((s.chan ch).headAt h).isHot = false) : s.freshTrips ch = [] := by
  refine List.filterMap_eq_nil_iff.2 fun h _ => if_neg ?_
  rw [cool h]
  decide

/-- Fresh trips bring their channel into LOCKOUT (R120, R169). -/
theorem trips_lock {s : State} {ch : Ch} {is : List Incident} (his : ∀ i ∈ is, i.ch = ch ∧ i.kind = .thermalTrip)
    (hne : is ≠ []) (hd : s.DeferredOk) : (s.postAll is).lockedOut ch = true := by
  obtain ⟨i, rest, rfl⟩ := List.exists_cons_of_ne_nil hne
  obtain ⟨⟨hch, hkind⟩, -⟩ := List.forall_mem_cons.1 his
  have first : (s.post i).lockedOut ch = true := by
    cases hl : s.lockedOut ch with
    | true => exact post_lockedOut i hl
    | false =>
      have := post_locks (i := i) (by rw [hkind]; rfl) hd (by rw [hch]; exact hl)
      rwa [hch] at this
  exact postAll_lockedOut rest first

/-! ### The lockout check of a channel (R82, R170) -/

/-- What the lockout check of a channel sends to the incident queue. -/
def State.checkTrips (s : State) (ch : Ch) (was : Bool) : List Incident :=
  if s.examineDue ch was = true then s.freshTrips ch else []

theorem checkTrips_ch {s : State} {ch : Ch} {was : Bool} : ∀ i ∈ s.checkTrips ch was, i.ch = ch ∧ i.kind = .thermalTrip := by
  unfold State.checkTrips
  split
  · exact freshTrips_ch
  · exact fun i hi => absurd hi List.not_mem_nil

theorem checkTrips_length (s : State) (ch : Ch) (was : Bool) : (s.checkTrips ch was).length ≤ 8 := by
  unfold State.checkTrips
  split
  · exact freshTrips_length s ch
  · exact Nat.zero_le _

theorem exitLockout_sansLaser (s : State) (ch : Ch) : (s.exitLockout ch).sansLaser = s.sansLaser :=
  (retarget_sansLaser _ ch).trans (onChan_laser_sansLaser s ch _ fun _ => rfl)

theorem checkLockout_not_due {s : State} {ch : Ch} {was : Bool} (h : s.examineDue ch was = false) :
    s.checkLockout ch was = s := by simp [State.checkLockout, h]

theorem checkLockout_due {s : State} {ch : Ch} {was : Bool} (h : s.examineDue ch was = true) : s.checkLockout ch was =
    let s1 := s.postAll (s.freshTrips ch)
    if s1.lockedOut ch = true then s1 else s1.exitLockout ch := by
  simp only [State.checkLockout, h, if_true, examine_eq]

/-- Beside the lasers, a lockout check sends its trips and changes nothing. -/
theorem checkLockout_sansLaser (s : State) (ch : Ch) (was : Bool) :
    (s.checkLockout ch was).sansLaser = (s.postAll (s.checkTrips ch was)).sansLaser := by
  cases hdue : s.examineDue ch was with
  | false => rw [checkLockout_not_due hdue, State.checkTrips, hdue]; rfl
  | true =>
    rw [checkLockout_due hdue, State.checkTrips, if_pos hdue]
    dsimp only
    split
    · rfl
    · exact exitLockout_sansLaser _ ch

theorem checkLockout_ledger (s : State) (ch : Ch) (was : Bool) :
    (s.checkLockout ch was).ledger = (s.postAll (s.checkTrips ch was)).ledger :=
  ledger_of_sansLaser (checkLockout_sansLaser s ch was)

/-- A lockout check leaves LOCKOUT of the other channel as it was (R169). -/
theorem checkLockout_lockedOut_other (s : State) (ch : Ch) (was : Bool) :
    (s.checkLockout ch was).lockedOut (otherCh ch) = s.lockedOut (otherCh ch) := by
  rw [lockedOut_of_ledger (checkLockout_ledger s ch was)]
  refine postAll_lockedOut_other (fun i hi => ?_) s
  rw [(checkTrips_ch i hi).1]
  cases ch <;> decide

/-- A lockout check leaves the other channel, but for a step granted. -/
theorem checkLockout_granted (s : State) (ch : Ch) (was : Bool) :
    (s.chan (otherCh ch)).Granted s.now ((s.checkLockout ch was).chan (otherCh ch)) :=
  (State.Does.checkLockout (p := False) (l := False) .refl was False.elim).other.1

theorem postAll_recheckDue (is : List Incident) (s : State) : (s.postAll is).recheckDue = s.recheckDue :=
  (sameStart_postAll is s .A).recheck

/-- A channel is its view without the laser, with its laser. -/
theorem channel_ext {c d : Channel} (hv : d.sansLaser = c.sansLaser) (hl : d.laser = c.laser) : d = c :=
  (congrArg (fun v : Channel => { v with laser := d.laser }) hv).trans (by rw [hl]; rfl)

/-- With no re-check due, a recomputation leaves the other channel as it is (R64, R66). -/
theorem retarget_other {s : State} (ch : Ch) (hr : s.recheckDue = false) :
    (s.retarget ch).chan (otherCh ch) = s.chan (otherCh ch) := by
  obtain ⟨⟨hother, -⟩, -⟩ := retarget_meetsTarget (ch := ch) hr
  exact channel_ext (sansLaser_chan (retarget_sansLaser s ch) _) hother

/-- With no re-check due, a lockout check leaves the other channel as it is. -/
theorem checkLockout_other {s : State} (ch : Ch) (was : Bool) (hr : s.recheckDue = false) :
    (s.checkLockout ch was).chan (otherCh ch) = s.chan (otherCh ch) := by
  cases hdue : s.examineDue ch was with
  | false => rw [checkLockout_not_due hdue]
  | true =>
    rw [checkLockout_due hdue]
    dsimp only
    split
    · exact chan_postAll _ _ _
    · refine (retarget_other ch ((onChan_recheckDue _ _ _).trans ((postAll_recheckDue _ s).trans hr))).trans ?_
      rw [chan_onChan_other, chan_postAll]

/-- A channel with no head at its watermark leaves LOCKOUT (R82, R170). -/
theorem checkLockout_exits {s : State} {ch : Ch} (hl : s.lockedOut ch = false)
    (cool : ∀ h, ((s.chan ch).headAt h).isHot = false) : s.checkLockout ch true = s.exitLockout ch := by
  have hdue : s.examineDue ch true = true := by simp [State.examineDue, hl]
  rw [checkLockout_due hdue, freshTrips_nil cool]
  exact if_neg (by rw [State.postAll, List.foldl_nil, hl]; decide)

/-- A channel with a head at its watermark stays in LOCKOUT, by its fresh trips (R120). -/
theorem checkLockout_stays {s : State} {ch : Ch} {h : HeadNo} (hl : s.lockedOut ch = false) (hd : s.DeferredOk)
    (hot : ((s.chan ch).headAt h).isHot = true) :
    s.checkLockout ch true = s.postAll (s.freshTrips ch) ∧ (s.checkLockout ch true).lockedOut ch = true := by
  have hdue : s.examineDue ch true = true := by simp [State.examineDue, hl]
  have hlock : (s.postAll (s.freshTrips ch)).lockedOut ch = true :=
    trips_lock freshTrips_ch (List.ne_nil_of_mem (mem_freshTrips hot)) hd
  have e : s.checkLockout ch true = s.postAll (s.freshTrips ch) := by
    rw [checkLockout_due hdue]
    exact if_pos hlock
  exact ⟨e, by rw [e]; exact hlock⟩

/-- A channel out of LOCKOUT has its park condition set, and meets the target of the first case of R62 (R82). -/
theorem exitLockout_chan (s : State) (ch : Ch) :
    ((s.exitLockout ch).chan ch).laser.park = true ∧
      ((s.exitLockout ch).chan ch).laser.target = (s.exitLockout ch).firstTarget ch := by
  let w := s.onChan ch fun c => { c with laser := { c.laser with park := true } }
  obtain ⟨-, -, hpark⟩ := retarget_target w ch
  obtain ⟨hfirst, haim, -⟩ := retarget_firstTarget w ch
  refine ⟨hpark.trans ?_, haim.trans hfirst.symm⟩
  rw [chan_onChan]

/-! ### What a step granted leaves -/

/-- A step granted changes neither the target nor the case of R62 (R107). -/
theorem granted_target {s t : State} {ch : Ch} {now : Tick} (h : (s.chan ch).Granted now (t.chan ch))
    (hl : t.lockedOut ch = s.lockedOut ch) : (t.chan ch).laser.target = (s.chan ch).laser.target ∧
      (t.chan ch).laser.park = (s.chan ch).laser.park ∧ t.firstTarget ch = s.firstTarget ch := by
  rcases h with e | ⟨b, -, e⟩
  · refine ⟨by rw [e], by rw [e], ?_⟩
    simp only [State.firstTarget, State.targetCases, hl, e]
  · refine ⟨by rw [e]; rfl, by rw [e]; rfl, ?_⟩
    have hx : ((s.chan ch).stepTo now b).context = (s.chan ch).context := context_congr rfl rfl
    have hr : ((s.chan ch).stepTo now b).ranges = (s.chan ch).ranges := ranges_congr hx
    simp only [State.firstTarget, State.targetCases, hl, e, hx, hr]
    rfl

/-! ### The checks of both channels (R120, R170) -/

theorem chosen_shared {s t : State} (h : t = s ∨ t = s.chosen) : (∀ x, t.chan x = s.chan x) ∧ t.ledger = s.ledger ∧
    t.recheckDue = s.recheckDue := by
  rcases h with rfl | rfl
  · exact ⟨fun _ => rfl, rfl, rfl⟩
  · exact ⟨chan_chosen s, rfl, rfl⟩

section
variable {s s0 : State} {ch : Ch}

/-- A channel left with no class-3 incident and no head at its watermark leaves LOCKOUT, in either order (R82, R170). -/
theorem checkLockouts_exits (was : s0.lockedOut ch = true) (hl : s.lockedOut ch = false)
    (cool : ∀ h, ((s.chan ch).headAt h).isHot = false) :
    let c := s.checkLockouts s0
    c.lockedOut ch = false ∧ (c.chan ch).laser.park = true ∧ (c.chan ch).laser.target = c.firstTarget ch ∧
      (c.chan ch).sansLaser = (s.chan ch).sansLaser := by
  obtain ⟨first, t, ht, e⟩ := checkLockouts_cases s s0
  obtain ⟨hchan, hledger, -⟩ := chosen_shared ht
  have hlt : t.lockedOut ch = false := (lockedOut_of_ledger hledger ch).trans hl
  dsimp only
  rw [e]
  rcases ch_cases first ch with rfl | rfl
  · let u := t.exitLockout ch
    have hu : t.checkLockout ch true = u := checkLockout_exits hlt (by rw [hchan]; exact cool)
    have hv := exitLockout_sansLaser t ch
    obtain ⟨hpark, htarget⟩ := exitLockout_chan t ch
    rw [was, hu]
    have hlock := checkLockout_lockedOut_other u (otherCh ch) (s0.lockedOut (otherCh ch))
    have hg := checkLockout_granted u (otherCh ch) (s0.lockedOut (otherCh ch))
    rw [otherCh_otherCh] at hlock hg
    obtain ⟨kt, kp, kf⟩ := granted_target hg hlock
    refine ⟨hlock.trans ((lockedOut_of_sansLaser hv ch).trans hlt), kp.trans hpark, kt.trans (htarget.trans kf.symm), ?_⟩
    rw [hg.sansLaser, sansLaser_chan hv, hchan]
  · let u := t.checkLockout first (s0.lockedOut first)
    have hlock : u.lockedOut (otherCh first) = false := (checkLockout_lockedOut_other t first _).trans hlt
    have hg : (t.chan (otherCh first)).Granted t.now (u.chan (otherCh first)) := checkLockout_granted t first _
    have hu : u.checkLockout (otherCh first) true = u.exitLockout (otherCh first) :=
      checkLockout_exits hlock fun h => by rw [granted_headAt hg, hchan]; exact cool h
    have hv := exitLockout_sansLaser u (otherCh first)
    obtain ⟨hpark, htarget⟩ := exitLockout_chan u (otherCh first)
    rw [was]
    change (u.checkLockout (otherCh first) true).lockedOut _ = false ∧ _
    rw [hu]
    refine ⟨(lockedOut_of_sansLaser hv _).trans hlock, hpark, htarget, ?_⟩
    rw [sansLaser_chan hv, hg.sansLaser, hchan]

/-- A channel left with no class-3 incident but with a head at its watermark stays in LOCKOUT as it is, in either order;
into an empty queue goes the trip of every such head (R120). -/
theorem checkLockouts_stays {h : HeadNo} (was : s0.lockedOut ch = true) (hl : s.lockedOut ch = false) (hd : s.DeferredOk)
    (hr : s.recheckDue = false) (hot : ((s.chan ch).headAt h).isHot = true) :
    let c := s.checkLockouts s0
    c.lockedOut ch = true ∧ c.chan ch = s.chan ch ∧ (s.incidents = [] → ∃ n ∈ c.incidents, n.incident =
      incident .thermalTrip ch (some h) none ((s.chan ch).headAt h).accum) := by
  obtain ⟨first, t, ht, e⟩ := checkLockouts_cases s s0
  obtain ⟨hchan, hledger, hrecheck⟩ := chosen_shared ht
  have hlt : t.lockedOut ch = false := (lockedOut_of_ledger hledger ch).trans hl
  have hdt : t.DeferredOk := deferredOk_of_ledger hledger hd
  have hrt : t.recheckDue = false := hrecheck.trans hr
  have stored {v : State} {is : List Incident} (hv : v.ledger = (t.postAll is).ledger) (hlen : is.length ≤ 16)
      (hm : incident .thermalTrip ch (some h) none ((s.chan ch).headAt h).accum ∈ is) (hempty : s.incidents = []) :
      ∃ n ∈ v.incidents, n.incident = incident .thermalTrip ch (some h) none ((s.chan ch).headAt h).accum := by
    obtain ⟨new, hnew, hmap⟩ := postAll_stored is t
    have hti : t.incidents = [] := (ledger_ext hledger).1.trans hempty
    rw [hti] at hnew hmap
    rw [List.length_nil, List.take_of_length_le hlen] at hmap
    rw [← hmap] at hm
    obtain ⟨n, hn, hni⟩ := List.mem_map.1 hm
    exact ⟨n, by rw [(ledger_ext hv).1, hnew]; exact hn, hni⟩
  dsimp only
  rw [e]
  rcases ch_cases first ch with rfl | rfl
  · obtain ⟨hu, hlock⟩ := checkLockout_stays hlt hdt (h := h) (by rw [hchan]; exact hot)
    rw [was]
    generalize t.checkLockout ch true = u at hu hlock
    have hru : u.recheckDue = false := by rw [hu, postAll_recheckDue, hrt]
    have hlock' := checkLockout_lockedOut_other u (otherCh ch) (s0.lockedOut (otherCh ch))
    have hother := checkLockout_other (otherCh ch) (s0.lockedOut (otherCh ch)) hru
    rw [otherCh_otherCh] at hlock' hother
    refine ⟨hlock'.trans hlock, ?_, stored (is := t.freshTrips ch ++ u.checkTrips (otherCh ch) (s0.lockedOut (otherCh ch))) ?_ ?_ ?_⟩
    · rw [hother, hu, chan_postAll, hchan]
    · rw [postAll_append, ← hu]
      exact checkLockout_ledger u _ _
    · have hA := freshTrips_length t ch
      have hB := checkTrips_length u (otherCh ch) (s0.lockedOut (otherCh ch))
      rw [List.length_append]
      omega
    · rw [← hchan]
      exact List.mem_append_left _ (mem_freshTrips (by rw [hchan]; exact hot))
  · have hledger' := checkLockout_ledger t first (s0.lockedOut first)
    have hother := checkLockout_other first (s0.lockedOut first) hrt
    have hlock := (checkLockout_lockedOut_other t first (s0.lockedOut first)).trans hlt
    have hlen := checkTrips_length t first (s0.lockedOut first)
    rw [was]
    generalize t.checkLockout first (s0.lockedOut first) = u at hledger' hother hlock
    have hdu : u.DeferredOk := deferredOk_of_ledger hledger' (postAll_deferredOk _ hdt)
    have hat : u.chan (otherCh first) = s.chan (otherCh first) := hother.trans (hchan _)
    obtain ⟨hu, hlock'⟩ := checkLockout_stays hlock hdu (h := h) (by rw [hat]; exact hot)
    refine ⟨hlock', by rw [hu, chan_postAll, hat],
      stored (is := t.checkTrips first (s0.lockedOut first) ++ u.freshTrips (otherCh first)) ?_ ?_ ?_⟩
    · rw [hu, postAll_append]
      exact postAll_ledger _ hledger'
    · have hB := freshTrips_length u (otherCh first)
      rw [List.length_append]
      omega
    · rw [← hat]
      exact List.mem_append_right _ (mem_freshTrips (by rw [hat]; exact hot))

/-- With no channel to examine, the checks do nothing (R170). -/
theorem checkLockouts_idle (h : ∀ x, s.examineDue x (s0.lockedOut x) = false) : s.checkLockouts s0 = s := by
  have hA := checkLockout_not_due (h .A)
  have hB := checkLockout_not_due (h .B)
  simp only [State.checkLockouts, h .A, Bool.false_and, Bool.false_eq_true, if_false, hA, hB]

end

end Sys2Proof.Machine
end

section
/-! PROOFS. Settles O49, the end: CLEAR and DEFERRED_INCIDENT_STORE (R155, R160, R167, R170). -/

namespace Sys2Proof.Machine

/-! ### The deferred incidents (R167) -/

/-- The storing of a deferred incident begins no re-check, and keeps what is deferred in order. -/
theorem storeDeferred_keeps (s : State) (d : Deferred) : (s.storeDeferred d).recheckDue = s.recheckDue ∧
    (s.DeferredOk → (s.storeDeferred d).DeferredOk) := by
  unfold State.storeDeferred
  split
  · refine ⟨rfl, fun ⟨hcls, hnodup⟩ => ⟨fun x hx => hcls x (List.mem_of_mem_erase hx), ?_⟩⟩
    exact hnodup.sublist (List.erase_sublist.map _)
  · exact ⟨rfl, id⟩

theorem storeAllDeferred_keeps (s : State) : s.storeAllDeferred.recheckDue = s.recheckDue ∧
    (s.DeferredOk → s.storeAllDeferred.DeferredOk) := by
  have fold (ds : List Deferred) (s : State) : (ds.foldl State.storeDeferred s).recheckDue = s.recheckDue ∧
      (s.DeferredOk → (ds.foldl State.storeDeferred s).DeferredOk) := by
    induction ds generalizing s with
    | nil => exact ⟨rfl, id⟩
    | cons d ds ih =>
      obtain ⟨hr, hd⟩ := ih (s.storeDeferred d)
      obtain ⟨kr, kd⟩ := storeDeferred_keeps s d
      exact ⟨hr.trans kr, hd ∘ kd⟩
  unfold State.storeAllDeferred
  dsimp only
  split
  · exact fold _ s.chosen
  · exact fold _ s

theorem storeAllDeferred_none {s : State} (h : s.deferred = []) : s.storeAllDeferred = s := by
  simp [State.storeAllDeferred, State.deferredOrder, h]

theorem storeDeferred_room {s : State} (d : Deferred) (h : s.incidents.length < 16) : s.storeDeferred d =
    { s with
      incidents := s.incidents ++ [{ number := s.nextIncident, incident := d.incident }]
      nextIncident := s.nextIncident + 1, deferred := s.deferred.erase d } := if_pos h

theorem storeAllDeferred_one {s : State} {d : Deferred} (h : s.deferred = [d]) (hroom : s.incidents.length < 16) :
    s.storeAllDeferred = { s with
      incidents := s.incidents ++ [{ number := s.nextIncident, incident := d.incident }]
      nextIncident := s.nextIncident + 1, deferred := [] } := by
  simp [State.storeAllDeferred, State.deferredOrder, h, storeDeferred_room d hroom]

/-- The first deferred incident of a channel is stored in a free place (R167). -/
theorem exec_deferredIncidentStore {s : State} {ch : Ch} {d : Deferred} {before after : List Deferred}
    (hs : s.deferred = before ++ d :: after) (hc : d.incident.ch = ch) (hb : ∀ x ∈ before, x.incident.ch ≠ ch)
    (hroom : s.incidents.length < 16) : exec (.deferredIncidentStore ch) s = .next
      { s with
        incidents := s.incidents ++ [{ number := s.nextIncident, incident := d.incident }]
        nextIncident := s.nextIncident + 1, deferred := before ++ after } := by
  have hfind : s.deferredOf ch = some d := by
    rw [State.deferredOf, hs, List.find?_append, List.find?_eq_none.2 (by simpa using hb)]
    simp [hc]
  have herase : s.deferred.erase d = before ++ after := by
    have hnot : d ∉ before := fun hm => hb d hm hc
    rw [hs, List.erase_append_right _ hnot, List.erase_cons_head]
  have hexec : exec (.deferredIncidentStore ch) s = .next (s.storeDeferred d) := by
    simp [exec, execDeferredIncidentStore, hfind]
  rw [hexec, storeDeferred_room d hroom, herase]

/-! ### CLEAR (R155, R170) -/

/-- The checks of a CLEAR of `n` incidents, behind the removal and the storing of what is deferred. -/
def State.afterClear (s : State) (n : Nat) : State := (s.removeIncidents n).storeAllDeferred.checkLockouts s

theorem clearIncidents_eq (s : State) (n : Nat) : s.clearIncidents n = { s.afterClear n with
    overflow := (s.afterClear n).overflow && !(s.afterClear n).incidents.isEmpty } := by
  have e : s.clearIncidents n = if (s.afterClear n).incidents.isEmpty = true then
      { s.afterClear n with overflow := false } else s.afterClear n := rfl
  rw [e]
  cases (s.afterClear n).incidents.isEmpty <;> simp

/-- CLEAR of a frame that passes the checks of R157. -/
theorem exec_clear {s : State} {e : Entry} (ha : s.applying = some e) (hr : s.firstRefusal e = none) (hk : e.kind = 7) :
    exec .clear s = .next { s.clearIncidents (e.word 1).toNat with overrun := false }.nextFrame :=
  congrArg _ (applyKind_of_passes State.applyClear ha hr (by rw [hk]; rfl) rfl)

/-- What a CLEAR leaves of the channels and of what decides LOCKOUT is what its checks left. -/
theorem clear_result {s : State} {e : Entry} (ha : s.applying = some e) (hr : s.firstRefusal e = none) (hk : e.kind = 7) :
    ∃ t, exec .clear s = .next t ∧ t.overrun = false ∧ (∀ x, t.chan x = (s.afterClear (e.word 1).toNat).chan x) ∧
      t.ledger = (s.afterClear (e.word 1).toNat).ledger ∧ ∀ x, t.live x = s.live x := by
  obtain ⟨t, ht, hmoves⟩ := exec_moves .clear s rfl
  have he := exec_clear ha hr hk
  rw [clearIncidents_eq] at he
  have htt := Host.Outcome.next.inj (ht.symm.trans he)
  refine ⟨t, ht, by rw [htt]; rfl, fun x => ?_, by rw [htt]; rfl, live_congr hmoves.rstnLow hmoves.straps⟩
  rw [htt, nextFrame_chan]
  cases x <;> rfl

section
variable {s : State} {e : Entry}

/-- A channel that was in LOCKOUT is left with no class-3 incident by the removal and the storing. -/
theorem storeAll_unlocked {n : Nat} {ch : Ch} (hrest : ∀ x ∈ s.incidents.drop n, ¬ (x.incident.ch = ch ∧ x.incident.kind.cls = 3))
    (hdef : ∀ d ∈ s.deferred, ¬ (d.incident.ch = ch ∧ d.incident.kind.cls = 3)) :
    (s.removeIncidents n).storeAllDeferred.lockedOut ch = false := by
  refine Bool.eq_false_iff.2 fun h => ?_
  rcases (lockedOut_iff _ _).1 (lockedOut_of_storeAllDeferred h) with ⟨x, hx, hk⟩ | ⟨d, hd, hk⟩
  · exact hrest x hx hk
  · exact hdef d hd hk

theorem storeAll_chan (n : Nat) (x : Ch) : ((s.removeIncidents n).storeAllDeferred).chan x = s.chan x := by
  obtain ⟨ha, hb, -⟩ := storeAllDeferred_same (s.removeIncidents n)
  exact chan_congr ha hb x

/-- A channel that is not freed is not examined: it was not in LOCKOUT, or stays in it by an incident left (R170). -/
theorem not_examined {w : State} {n : Nat} {ch : Ch}
    (hw : (∃ x ∈ s.incidents.drop n, x.incident.ch = ch ∧ x.incident.kind.cls = 3) ∨
      (∃ d ∈ s.deferred, d.incident.ch = ch ∧ d.incident.kind.cls = 3) → w.lockedOut ch = true)
    (h : ¬ (s.lockedOut ch = true ∧ (∀ x ∈ s.incidents.drop n, ¬ (x.incident.ch = ch ∧ x.incident.kind.cls = 3)) ∧
      ∀ d ∈ s.deferred, ¬ (d.incident.ch = ch ∧ d.incident.kind.cls = 3))) :
    w.examineDue ch (s.lockedOut ch) = false := by
  cases hs : s.lockedOut ch with
  | false => rfl
  | true =>
    have hlock : w.lockedOut ch = true := by
      refine hw ?_
      by_contra hno
      push Not at hno
      obtain ⟨hrest, hdef⟩ := hno
      exact h ⟨hs, fun x hx ⟨hc, hk⟩ => hrest x hx hc hk, fun d hd ⟨hc, hk⟩ => hdef d hd hc hk⟩
    simp [State.examineDue, hlock]

end

/-- Settles O49. -/
theorem clear : Obligations.Clear := by
  refine ⟨fun s e ha hr hk => ?_, fun s ch d before after hs hc hb hroom => exec_deferredIncidentStore hs hc hb hroom⟩
  intro rest removed stored freed
  have hexec := exec_clear ha hr hk
  rw [clearIncidents_eq] at hexec
  let n := (e.word 1).toNat
  refine ⟨fun hdef hno => ?_, fun d hdef hroom hno => ?_, fun ch hfreed hl hcool => ?_,
    fun ch h x hfreed hrecheck hd hx htrip => ?_⟩
  · have hstore : (s.removeIncidents n).storeAllDeferred = s.removeIncidents n := storeAllDeferred_none hdef
    have hcheck : s.afterClear n = s.removeIncidents n := by
      rw [State.afterClear, hstore]
      exact checkLockouts_idle fun ch => not_examined (n := n) (lockedOut_iff (s.removeIncidents n) ch).2 (hno ch)
    rw [hexec, hcheck]
    rfl
  · have hstore : (s.removeIncidents n).storeAllDeferred =
        { s.removeIncidents n with
          incidents := rest ++ [{ number := s.nextIncident, incident := d.incident }]
          nextIncident := s.nextIncident + 1, deferred := [] } :=
      storeAllDeferred_one hdef hroom
    have hcheck : s.afterClear n = (s.removeIncidents n).storeAllDeferred := by
      refine checkLockouts_idle fun ch => not_examined (n := n) (fun hw => ?_) (hno ch)
      rw [hstore, lockedOut_iff]
      refine .inl ?_
      rcases hw with ⟨x, hx, hk⟩ | ⟨y, hy, hk⟩
      · exact ⟨x, List.mem_append_left _ hx, hk⟩
      · rw [hdef, List.mem_singleton] at hy
        exact ⟨_, List.mem_append_right _ (List.mem_singleton_self _), hy ▸ hk⟩
    have hfull : (s.afterClear n).incidents.isEmpty = false := by
      rw [hcheck, hstore]
      simp
    rw [hexec, hfull, hcheck, hstore, Bool.not_false, Bool.and_true]
    rfl
  · obtain ⟨was, hrest, hnone⟩ := hfreed
    obtain ⟨t, ht, hover, hchan, hledger, hlive⟩ := clear_result ha hr hk
    have cool (g : HeadNo) : (((s.removeIncidents n).storeAllDeferred.chan ch).headAt g).isHot = false := by
      rw [storeAll_chan]
      refine Bool.eq_false_iff.2 fun hh => ?_
      obtain ⟨x, hx, hge⟩ := (isHot_iff _).1 hh
      exact absurd hge (Nat.not_le.2 (hcool g x hx))
    obtain ⟨hlock, hpark, htarget, hv⟩ := checkLockouts_exits was (storeAll_unlocked hrest hnone) cool
    have hlt : t.lockedOut ch = false := (lockedOut_of_ledger hledger ch).trans hlock
    obtain ⟨-, -, hfirst⟩ := granted_target (s := s.afterClear n) (t := t) (now := s.now)
      (by rw [hchan]; exact .refl _ _) (lockedOut_of_ledger hledger ch)
    refine ⟨t, ht, hover, hlt, by simp [State.len, hlive, hl, hlt], ?_, ?_, ?_⟩
    · rw [hchan]
      exact hpark
    · rw [hchan, hfirst]
      exact htarget
    · rw [hchan]
      exact hv.trans (by rw [storeAll_chan])
  · obtain ⟨was, hrest, hnone⟩ := hfreed
    obtain ⟨t, ht, hover, hchan, hledger, -⟩ := clear_result ha hr hk
    obtain ⟨krecheck, kdeferred⟩ := storeAllDeferred_keeps (s.removeIncidents n)
    have hot : (((s.removeIncidents n).storeAllDeferred.chan ch).headAt h).isHot = true := by
      rw [storeAll_chan]
      exact (isHot_iff _).2 ⟨x, hx, htrip⟩
    obtain ⟨hlock, hstay, hfresh⟩ := checkLockouts_stays was (storeAll_unlocked hrest hnone) (kdeferred hd)
      (krecheck.trans hrecheck) hot
    refine ⟨t, ht, hover, (lockedOut_of_ledger hledger ch).trans hlock, ?_, fun hempty hdef => ?_⟩
    · rw [hchan]
      exact hstay.trans (storeAll_chan n ch)
    · have hall : (s.removeIncidents (e.word 1).toNat).storeAllDeferred = s.removeIncidents (e.word 1).toNat :=
        storeAllDeferred_none hdef
      obtain ⟨y, hy, hi⟩ := hfresh (by rw [hall]; exact hempty)
      rw [storeAll_chan] at hi
      refine ⟨y.number, ?_⟩
      rw [(ledger_ext hledger).1]
      exact (congrArg (fun i => ({ number := y.number, incident := i } : Stored)) hi) ▸ hy

end Sys2Proof.Machine
end

section
/-! PROOFS. Settles O48: REPORT, the report frame and the report line (R63, R101, R160, R164, R171, R172). -/

namespace Sys2Proof.Machine

/-! ### The check at the end of a frame (R152, R164) -/

theorem crcSymbols_append (reg : Word) (xs ys : List Bool) :
    crcSymbols reg (xs ++ ys) = crcSymbols (crcSymbols reg xs) ys := List.foldl_append

/-- The register's own first symbols shift it out: none of them feeds the polynomial in (R152). -/
theorem crcSymbols_own (w : Word) (k : Nat) (hk : k ≤ 16) :
    crcSymbols w ((List.range k).map fun i => w.getLsbD (15 - i)) = w <<< k := by
  induction k with
  | zero => simp [crcSymbols]
  | succ k ih =>
    have front : (w <<< k).msb = w.getLsbD (15 - k) := by
      rw [BitVec.msb_shiftLeft, BitVec.getMsbD]
      simp [show k < 16 by omega]
    rw [List.range_succ, List.map_append, crcSymbols_append, ih (by omega)]
    simp [crcSymbols, crcSymbol, front, BitVec.shiftLeft_add]

theorem crcSymbols_wordSymbols (w : Word) : crcSymbols w (wordSymbols w) = 0 :=
  (crcSymbols_own w 16 le_rfl).trans (BitVec.shiftLeft_eq_zero le_rfl)

/-- A word as two bytes has the symbols of the word (R164). -/
theorem twoBytes_symbols (w : Word) : (twoBytes w.toNat).flatMap byteSymbols = wordSymbols w := by
  have high : BitVec.ofNat 8 (w.toNat / 256) = w.extractLsb' 8 8 := by
    apply BitVec.eq_of_toNat_eq
    simp [Nat.shiftRight_eq_div_pow]
  simp [twoBytes, byteSymbols, wordSymbols, List.range_succ, high]

theorem reportCheck_closes (body : List Byte) :
    crcSymbols 0xFFFF#16 ((body ++ twoBytes (reportCheck body).toNat).flatMap byteSymbols) = 0 := by
  rw [List.flatMap_append, crcSymbols_append, twoBytes_symbols]
  exact crcSymbols_wordSymbols _

/-- The bytes that follow the first byte of a frame, with its check, leave the register at 0 (R152, R164). -/
theorem reportBytes_check (s : State) : crcSymbols 0xFFFF#16 ((s.reportBytes.drop 1).flatMap byteSymbols) = 0 :=
  reportCheck_closes s.reportBody

/-! ### The places of a frame's bytes (R164) -/

theorem statusBytes_length (s : State) (ch : Ch) : (s.statusBytes ch).length = 12 := by
  unfold State.statusBytes
  dsimp only
  split <;> simp [twoBytes]

theorem records_length (xs : List Stored) : (xs.flatMap Stored.bytes).length = 8 * xs.length := by
  simp [List.length_flatMap, Stored.bytes, twoBytes, Nat.mul_comm]

theorem statusBytes_absent {s : State} {ch : Ch} (h : s.present ch = false) :
    s.statusBytes ch = [0, 0, 0xFF, 0, 0, 0, 0, 0, 0, 0, 0, 0] := by
  simp [State.statusBytes, h]

theorem statusBytes_present {s : State} {ch : Ch} (h : s.present ch = true) : s.statusBytes ch =
    [BitVec.ofNat 8 (s.seqState ch).value, BitVec.ofNat 8 (s.chan ch).wedge.lock.value,
      selectedByte (s.chan ch).relay.selected]
      ++ twoBytes (if (s.chan ch).rate.valid then (s.chan ch).rate.p else 0)
      ++ [BitVec.ofNat 8 (s.chan ch).queue.length]
      ++ twoBytes (s.chan ch).line.length
      ++ twoBytes (s.channelFlags ch)
      ++ twoBytes (((s.chan ch).selectedHead.map fun h => h.accum).getD 0) := by
  simp [State.statusBytes, h]

/-- What follows the opening of a frame: the statuses, the count, the records, the check (R164). -/
theorem reportBytes_eq (s : State) : s.reportBytes =
    [0xC3, s.reportSeq, s.reportFlags] ++ (s.statusBytes .A ++ (s.statusBytes .B ++
      ([BitVec.ofNat 8 s.incidents.length] ++ (s.incidents.flatMap Stored.bytes ++
        twoBytes (reportCheck s.reportBody).toNat)))) := by
  simp [State.reportBytes, State.reportBody]

theorem reportBytes_length (s : State) : s.reportBytes.length = 30 + 8 * s.incidents.length := by
  simp only [reportBytes_eq, List.length_append, statusBytes_length, records_length, twoBytes, List.length_cons,
    List.length_nil]
  omega

/-- The two statuses and the count, past the three bytes of the opening. -/
theorem reportBytes_drop_opening (s : State) : s.reportBytes.drop 3 = s.statusBytes .A ++ (s.statusBytes .B ++
    ([BitVec.ofNat 8 s.incidents.length] ++ (s.incidents.flatMap Stored.bytes ++
      twoBytes (reportCheck s.reportBody).toNat))) := by
  rw [reportBytes_eq]
  rfl

theorem reportBytes_drop_statusA (s : State) : s.reportBytes.drop 15 = s.statusBytes .B ++
    ([BitVec.ofNat 8 s.incidents.length] ++ (s.incidents.flatMap Stored.bytes ++
      twoBytes (reportCheck s.reportBody).toNat)) := by
  rw [show 15 = 3 + 12 from rfl, ← List.drop_drop, reportBytes_drop_opening,
    List.drop_left' (statusBytes_length s .A)]

theorem reportBytes_drop_statusB (s : State) : s.reportBytes.drop 27 =
    BitVec.ofNat 8 s.incidents.length :: (s.incidents.flatMap Stored.bytes ++
      twoBytes (reportCheck s.reportBody).toNat) := by
  rw [show 27 = 15 + 12 from rfl, ← List.drop_drop, reportBytes_drop_statusA,
    List.drop_left' (statusBytes_length s .B)]
  rfl

theorem reportBytes_status (s : State) (ch : Ch) :
    (s.reportBytes.drop (if ch = .A then 3 else 15)).take 12 = s.statusBytes ch := by
  cases ch with
  | A =>
    rw [if_pos rfl, reportBytes_drop_opening]
    exact List.take_left' (statusBytes_length s .A)
  | B =>
    rw [if_neg (by decide), reportBytes_drop_statusA]
    exact List.take_left' (statusBytes_length s .B)

theorem reportBytes_count (s : State) : s.reportBytes.getD 27 0 = BitVec.ofNat 8 s.incidents.length := by
  rw [List.getD_eq_getElem?_getD, ← List.head?_drop, reportBytes_drop_statusB]
  rfl

theorem reportBytes_records (s : State) :
    (s.reportBytes.drop 28).take (8 * s.incidents.length) = s.incidents.flatMap Stored.bytes := by
  rw [show 28 = 27 + 1 from rfl, ← List.drop_drop, reportBytes_drop_statusB]
  exact List.take_left' (records_length s.incidents)

/-! ### The record of an incident (R164, R165) -/

/-- The incident kinds, in the order of their codes (R165). -/
def kinds : List Kind :=
  [.directiveBad, .directiveCut, .directiveOverrun, .directiveRefused, .directiveClamped, .rateSlow, .wedgeLost,
    .headInvalid, .refused, .fenceCut, .truncated, .encroachment, .delayOverflow, .readyTimeout, .headSwitchForced,
    .thermalTrip, .laserLost]

theorem kind_of_code (k : Kind) :
    kinds.find? (fun j => BitVec.ofNat 8 j.code == BitVec.ofNat 8 k.code) = some k := by
  cases k <;> rfl

theorem code_injective {k j : Kind} (h : BitVec.ofNat 8 k.code = BitVec.ofNat 8 j.code) : k = j := by
  have hk := kind_of_code k
  rw [h, kind_of_code j] at hk
  exact (Option.some.inj hk).symm

/-- Two bytes give their number back (R164). -/
theorem twoBytes_injective {n m : Nat} (hn : n < 65536) (hm : m < 65536) (h : twoBytes n = twoBytes m) : n = m := by
  simp only [twoBytes, List.cons.injEq, and_true] at h
  obtain ⟨high, low⟩ := h
  have high' := congrArg BitVec.toNat high
  have low' := congrArg BitVec.toNat low
  simp only [BitVec.toNat_ofNat] at high' low'
  omega

/-- Whether a field is there, and its value or 0, give the field back. -/
theorem option_of_isSome_getD {n : Nat} {x y : Option (BitVec n)} (h : x.isSome = y.isSome)
    (hv : (x.map BitVec.toNat).getD 0 = (y.map BitVec.toNat).getD 0) : x = y := by
  match x, y with
  | none, none => rfl
  | some a, some b => exact congrArg some (BitVec.eq_of_toNat_eq hv)
  | none, some _ | some _, none => simp at h

theorem toNat_getD_lt {n : Nat} (x : Option (BitVec n)) : (x.map BitVec.toNat).getD 0 < 2 ^ n := by
  cases x with
  | none => exact Nat.two_pow_pos n
  | some a => exact a.isLt

/-- The fields of the byte after an incident's code stand beside one another in it (R164). -/
theorem attributes_injective {c h h' : Nat} {b b' a a' : Bool} {ch ch' : Ch} (hh : h < 8)
    (hh' : h' < 8) (he : BitVec.ofNat 8 (c * 64 + place b 5 + chBit ch * 16 + place a 3 + h) =
      BitVec.ofNat 8 (c * 64 + place b' 5 + chBit ch' * 16 + place a' 3 + h')) :
    b = b' ∧ ch = ch' ∧ a = a' ∧ h = h' := by
  have bit (b : Bool) (i : Nat) : ∃ v ≤ 1, place b i = v * 2 ^ i ∧ b = decide (v = 1) := by
    cases b
    · exact ⟨0, by decide, by simp [place], rfl⟩
    · exact ⟨1, by decide, by simp [place], rfl⟩
  have channel (ch : Ch) : chBit ch ≤ 1 ∧ ch = if chBit ch = 0 then .A else .B := by cases ch <;> decide
  obtain ⟨v, hv, pv, rfl⟩ := bit b 5
  obtain ⟨v', hv', pv', rfl⟩ := bit b' 5
  obtain ⟨w, hw, pw, rfl⟩ := bit a 3
  obtain ⟨w', hw', pw', rfl⟩ := bit a' 3
  obtain ⟨hk, hch⟩ := channel ch
  obtain ⟨hk', hch'⟩ := channel ch'
  have he' := congrArg BitVec.toNat he
  rw [pv, pv', pw, pw', BitVec.toNat_ofNat, BitVec.toNat_ofNat] at he'
  obtain ⟨ev, ek, ew, eh⟩ : v = v' ∧ chBit ch = chBit ch' ∧ w = w' ∧ h = h' := by omega
  exact ⟨by rw [ev], by rw [hch, hch', ek], by rw [ew], eh⟩

theorem bytes_injective {x y : Stored} (hx : x.incident.detail ≤ 65535) (hy : y.incident.detail ≤ 65535)
    (h : x.bytes = y.bytes) : x = y := by
  obtain ⟨n, k, ch, head, burst, detail⟩ := x
  obtain ⟨n', k', ch', head', burst', detail'⟩ := y
  simp only [Stored.bytes, List.append_assoc] at h
  obtain ⟨hn, h⟩ := List.append_inj h rfl
  obtain ⟨hcode, h⟩ := List.append_inj h rfl
  obtain ⟨hattr, h⟩ := List.append_inj h rfl
  obtain ⟨hburst, hdetail⟩ := List.append_inj h rfl
  obtain rfl := code_injective (List.singleton_inj.1 hcode)
  obtain ⟨hb, rfl, ha, hh⟩ := attributes_injective (toNat_getD_lt head) (toNat_getD_lt head')
    (List.singleton_inj.1 hattr)
  obtain rfl := option_of_isSome_getD ha hh
  obtain rfl := option_of_isSome_getD hb (twoBytes_injective (toNat_getD_lt burst) (toNat_getD_lt burst') hburst)
  obtain rfl : n = n' := BitVec.eq_of_toNat_eq (twoBytes_injective n.isLt n'.isLt hn)
  obtain rfl := twoBytes_injective (Nat.lt_succ_of_le hx) (Nat.lt_succ_of_le hy) hdetail
  rfl

/-! ### What a frame says of the model's state, as the manual words it (R63, R101, R164) -/

theorem option_any_eq {α : Type} (x : Option α) (f : α → Bool) : x.any f = (x.map f).getD false := by
  cases x <;> rfl

theorem rpt_sending {s : State} {f : Transmission} (hr : s.rstnLow = false) (hs : s.sending = some f) :
    s.rpt = .driven (f.level ((s.now - f.start).toNat / f.bitTime)) := by
  simp [State.rpt, hr, hs, ticksFrom]

theorem rpt_idle {s : State} (hr : s.rstnLow = false) (hs : s.sending = none) : s.rpt = .driven true := by
  simp [State.rpt, hr, hs]

/-! ### The line during a frame (R172) -/

/-- The break of a frame: 13 bit times low and 2 high. -/
theorem level_break (f : Transmission) {k : Nat} : (k < 13 → f.level k = false) ∧ (13 ≤ k → k < 15 → f.level k = true) := by
  refine ⟨fun h => if_pos h, fun h h' => ?_⟩
  rw [Transmission.level, if_neg (by omega), if_pos h']

/-- Each byte of a frame is ten bit times long. -/
theorem level_byte (f : Transmission) {j i : Nat} {b : Byte} (hb : f.bytes[j]? = some b) (hi : i < 10) :
    f.level (15 + 10 * j + i) = if i = 0 then false else if i = 9 then true else b.getLsbD (i - 1) := by
  have hj : (15 + 10 * j + i - 15) / 10 = j := by omega
  have hk : (15 + 10 * j + i - 15) % 10 = i := by omega
  rw [Transmission.level, if_neg (by omega), if_neg (by omega), hj, hb, hk]
  by_cases h9 : i = 9
  · simp [byteLevel, h9]
  · simp [byteLevel, h9, show i ≤ 8 by omega]

theorem level_past (f : Transmission) {k : Nat} (hk : 15 + 10 * f.bytes.length ≤ k) : f.level k = true := by
  have hj : f.bytes[(k - 15) / 10]? = none := List.getElem?_eq_none (by omega)
  rw [Transmission.level, if_neg (by omega), if_neg (by omega), hj]

/-! ### The transmitter (R171) -/

theorem exec_report {s : State} {e : Entry} (ha : s.applying = some e) (hr : s.firstRefusal e = none)
    (hk : e.kind = 6) : exec .report s = .next s.requestReport.nextFrame :=
  congrArg Host.Outcome.next (applyKind_of_passes (d := .report) (fun t _ => t.requestReport) ha hr (by rw [hk]; rfl) rfl)

theorem requestReport_idle {s : State} (h : s.sending = none) : s.requestReport = s.beginReport := by
  simp [State.requestReport, h]

theorem requestReport_busy {s : State} (h : s.sending.isSome = true) :
    s.requestReport = { s with reportPending := true } := by
  obtain ⟨f, hf⟩ := Option.isSome_iff_exists.1 h
  simp [State.requestReport, hf]

theorem exec_reportFrameEnd {s : State} {f : Transmission} (hr : s.rstnLow = false) (hs : s.sending = some f)
    (ht : f.bitTime * (15 + 10 * f.bytes.length) ≤ (s.now - f.start).toNat) :
    exec .reportFrameEnd s = .next s.finishReport := by
  have hends : s.reportEnds = true := by
    simp only [State.reportEnds, hs, hr, Bool.not_false, Bool.true_and]
    exact decide_eq_true ht
  exact congrArg Host.Outcome.next (if_pos hends)

/-! ### The obligation -/

/-- Settles O48. -/
theorem reports : Obligations.Reports := by
  refine ⟨fun s e ha hr hk => ⟨fun hs => ?_, fun hs => ?_⟩, fun s f hr hs ht => ⟨fun hp => ?_, fun hp => ?_⟩,
    fun s => ⟨reportBytes_length s, rfl, ?_, ?_, reportBytes_count s, reportBytes_check s⟩, fun s => ?_,
    fun x y hx hy => bytes_injective hx hy, fun s ch => ?_, fun s hr => if_pos hr, fun s hr hs => rpt_idle hr hs,
    fun s f hr hs => ?_⟩
  · rw [exec_report ha hr hk, requestReport_idle hs]
    rfl
  · rw [exec_report ha hr hk, requestReport_busy hs]
  · rw [exec_reportFrameEnd hr hs ht, State.finishReport, if_neg (Bool.eq_false_iff.1 hp)]
  · rw [exec_reportFrameEnd hr hs ht, State.finishReport, if_pos hp]
    rfl
  · rw [reportBytes_eq]
    rfl
  · rw [reportBytes_eq]
    rfl
  · intro big bit kind record
    have hkind (k : Kind) : kind k = (k.cls, k.code) := by cases k <;> rfl
    have hrecord (x : Stored) : record x = x.bytes := by
      obtain ⟨n, k, ch, head, burst, detail⟩ := x
      simp only [record, hkind, Stored.bytes, Nat.mul_comm k.cls]
      cases ch <;> cases head <;> cases burst <;> rfl
    rw [reportBytes_records, funext hrecord]
  · intro c status big bit sel head
    have hstatus : status = s.statusBytes ch := reportBytes_status s ch
    refine ⟨fun h => hstatus.trans (statusBytes_absent h), fun h => ?_⟩
    rw [hstatus, statusBytes_present h]
    refine congrArg₂ (· ++ ·) (congrArg₂ (· ++ ·) (congrArg (· ++ _ ++ _ ++ _) ?_) (congrArg twoBytes ?_))
      (congrArg twoBytes ?_)
    · refine congrArg₂ List.cons ?_ (congrArg₂ List.cons ?_ (congrArg (· :: []) ?_))
      · cases s.seqState ch <;> rfl
      · change BitVec.ofNat 8 c.wedge.lock.value = _
        cases c.wedge.lock <;> rfl
      · change selectedByte c.relay.selected = _
        cases c.relay.selected <;> rfl
    · have hstate : headStateValue head * 2 ^ 8 = match head.map fun r => r.state with
          | none => 0 | some .releasing => 512 | some .tail => 768 | some _ => 256 := by
        cases head with
        | none => rfl
        | some r => cases hr : r.state <;> simp [headStateValue, hr]
      simp only [option_any_eq]
      rw [State.channelFlags, h]
      exact congrArg (· + _ + _ + _) (congrArg (_ + ·) hstate)
    · change (sel.map fun h => h.accum).getD 0 = _
      cases sel <;> rfl
  · intro k
    rw [rpt_sending hr hs]
    refine ⟨fun h => ?_, fun h h' => ?_, fun j b i hb hi hk => ?_, fun h => ?_⟩
    · rw [(level_break f).1 h]
    · rw [(level_break f).2 h h']
    · exact congrArg Level3.driven ((congrArg f.level hk).trans (level_byte f hb hi))
    · rw [level_past f h]

end Sys2Proof.Machine
end

section
/-! PROOFS. Settles O32 and O33: the wedge timer's own steps (R89, R92, R93, R95 to R98). -/

namespace Sys2Proof.Machine

/-! ### An acquisition with no capture (R89) -/

theorem abandonDue_of {s : State} {ch : Ch} (hl : s.live ch = true) (hlock : (s.chan ch).wedge.lock = .acquiring)
    (hd : (s.chan ch).wedge.nominal + (s.chan ch).wedge.tolerance ≤ (s.now - (s.chan ch).wedge.last).toNat) :
    s.abandonDue ch = true := by
  have hpassed : s.passed (s.chan ch).wedge.last ((s.chan ch).wedge.nominal + (s.chan ch).wedge.tolerance) = true :=
    (since_iff s _ _).1 hd
  simp only [State.abandonDue, hl, hlock, hpassed, beq_self_eq_true, Bool.and_self]

/-- Settles O32. -/
theorem acquisitionAbandon : Obligations.AcquisitionAbandon := by
  intro s ch hl hlock hd
  exact congrArg Host.Outcome.next (if_pos (abandonDue_of hl hlock hd))

/-! ### A miss (R92, R93) -/

theorem missDue_of {s : State} {ch : Ch} (hl : s.live ch = true) (hp : (s.chan ch).wedge.lock.predicts = true)
    (hd : s.reaches ((s.chan ch).wedge.next + BitVec.ofNat 32 (s.chan ch).wedge.tolerance)) : s.missDue ch = true := by
  simp only [State.missDue, hl, hp, (reaches_iff s _).1 hd, Bool.and_self]

theorem exec_wedgeMissExpiry_first {s : State} {ch : Ch} (hd : s.missDue ch = true)
    (hm : (s.chan ch).wedge.miss = 0) : exec (.wedgeMissExpiry ch) s = .next (s.coast ch) := by
  simp [exec, execWedgeMissExpiry, hd, hm]

theorem exec_wedgeMissExpiry_second {s : State} {ch : Ch} (hd : s.missDue ch = true)
    (hm : (s.chan ch).wedge.miss ≠ 0) : exec (.wedgeMissExpiry ch) s = .next (s.secondMiss ch) := by
  simp [exec, execWedgeMissExpiry, hd, hm]

/-! ### The window at a miss (R97, R98) -/

theorem onChan_of_fixed {s : State} {ch : Ch} {f : Channel → Channel} (h : f (s.chan ch) = s.chan ch) :
    s.onChan ch f = s := by
  rw [State.onChan, h, setChan_chan]

/-- Beside the lasers a closing event changes the window alone: it stays open while filtered SGx is high, or with F not
after the present tick (R98). -/
theorem closeFence_view (s : State) (ch : Ch) : (s.closeFence ch).sansLaser =
    (s.onChan ch fun c => c.setWedge { c.wedge with
      fence := c.wedge.fence && (c.sg.level || s.fenceReached ch) }).sansLaser := by
  rcases closeFence_cases s ch with ⟨hf, hg, hr, e⟩ | ⟨hkeep, e⟩ <;> rw [e]
  · refine (retarget_sansLaser _ ch).trans (onChan_sansLaser_congr s ch ?_)
    simp only [hg, hr, Bool.or_self, Bool.and_false]
    rfl
  · have hstays : ((s.chan ch).wedge.fence && ((s.chan ch).sg.level || s.fenceReached ch)) = (s.chan ch).wedge.fence := by
      rcases hkeep with h | h | h <;> simp [h]
    refine congrArg State.sansLaser (onChan_of_fixed ?_).symm
    rw [hstays]
    rfl

/-- With an empty queue the opening of the window changes nothing else beside the lasers (R97). -/
theorem openFence_view_of_empty {s : State} {ch : Ch} (hq : (s.chan ch).queue = []) :
    (s.openFence ch).sansLaser = (s.onChan ch fun c => c.setWedge { c.wedge with fence := true }).sansLaser := by
  unfold State.openFence State.openFenceAfter
  split
  · next hf =>
    refine congrArg State.sansLaser (onChan_of_fixed ?_).symm
    rw [← hf]
    rfl
  · simp only [hq, List.isEmpty_nil, Bool.not_true, Bool.false_and, Bool.false_eq_true, if_false]
    rw [retarget_sansLaser, beginFence_empty hq]
    refine onChan_sansLaser_congr s ch ?_
    simp [Channel.beginFence, Channel.setWedge, hq, cutAtFence, keptAtFence, runTotal, Intake.afterCut,
      Channel.sansLaser]

/-! ### A first miss (R92) -/

/-- The timer of a channel that coasts: F is that of the next prediction, and the window still as it was. -/
def Channel.coasted (c : Channel) : Wedge :=
  { c.wedge.coast with fenceTick := fenceTickOf c.wedge.coast.next c.wedge.margin c.context c.rate }

theorem coasting_eq (s : State) (ch : Ch) :
    (s.onChan ch fun c => { c with wedge := c.wedge.coast }).computeFence ch =
      s.onChan ch fun c => c.setWedge c.coasted :=
  onChan_onChan s ch _ _

/-- A coasting timer predicts, so its new F decides on the window. -/
theorem coasting_fenceReached (s : State) (ch : Ch) :
    (s.onChan ch fun c => c.setWedge c.coasted).fenceReached ch = atOrAfter s.now (s.chan ch).coasted.fenceTick := by
  simp only [State.fenceReached, chan_onChan, onChan_now]
  rfl

/-- Beside the lasers a first miss changes the timer alone, where no record can be cut (R92, R97, R98). -/
theorem coast_view {s : State} {ch : Ch} (h : (s.chan ch).queue = [] ∨ (s.chan ch).wedge.fence = true ∨
      atOrAfter s.now (s.chan ch).coasted.fenceTick = false) :
    (s.coast ch).sansLaser = (s.onChan ch fun c => c.setWedge { c.coasted with
      fence := atOrAfter s.now c.coasted.fenceTick || (c.wedge.fence && c.sg.level) }).sansLaser := by
  unfold State.coast
  rw [coasting_eq]
  have hreach := coasting_fenceReached s ch
  dsimp only
  cases hf : (s.chan ch).wedge.fence with
  | true =>
    rw [if_pos rfl, closeFence_view, hreach, onChan_onChan]
    refine onChan_sansLaser_congr s ch ?_
    have hopen : (s.chan ch).coasted.fence = true := hf
    simp only [Channel.setWedge, hf, hopen, Bool.true_and, Bool.or_comm]
  | false =>
    rw [if_neg Bool.false_ne_true, hreach]
    cases hr : atOrAfter s.now (s.chan ch).coasted.fenceTick with
    | true =>
      have hq : (s.chan ch).queue = [] := by simpa [hf, hr] using h
      rw [if_pos rfl, openFence_view_of_empty (by rw [chan_onChan]; exact hq), onChan_onChan]
      refine onChan_sansLaser_congr s ch ?_
      rw [hr, Bool.true_or]
      rfl
    | false =>
      rw [if_neg Bool.false_ne_true]
      refine onChan_sansLaser_congr s ch ?_
      rw [hr, hf, Bool.false_and, Bool.or_self, ← hf]
      rfl

/-! ### A second miss (R93) -/

/-- Beside the lasers a second miss unlocks the timer, raises WEDGE_LOST, and closes the window unless filtered SGx is
high (R93, R98). -/
theorem secondMiss_view (s : State) (ch : Ch) : (s.secondMiss ch).sansLaser =
    ((s.onChan ch fun c => c.setWedge { c.wedge with
        miss := 0, lock := .unlocked, fence := c.wedge.fence && c.sg.level }).post
      (incident .wedgeLost ch (s.selected ch) none 0)).sansLaser := by
  unfold State.secondMiss
  rw [closeFence_view, post_onChan, onChan_onChan, post_onChan]
  refine onChan_sansLaser_congr _ ch ?_
  have hreach : ((s.post (incident .wedgeLost ch (s.selected ch) none 0)).onChan ch fun c =>
      { c with wedge := { c.wedge with miss := 0, lock := .unlocked } }).fenceReached ch = false := by
    rw [State.fenceReached, chan_onChan]
    rfl
  rw [hreach, Bool.or_false]
  rfl

/-- Settles O33. -/
theorem wedgeMisses : Obligations.WedgeMisses := by
  refine ⟨fun s ch hl hp hd hm => ?_, fun s ch hl hp hd hm => ?_⟩
  · intro w next f reached h
    refine ⟨_, exec_wedgeMissExpiry_first (missDue_of hl hp hd) hm, (coast_view ?_).trans ?_⟩
    · exact h.imp_right (Or.imp_right fun hn => decide_eq_false hn)
    · exact onChan_sansLaser_congr s ch rfl
  · exact ⟨_, exec_wedgeMissExpiry_second (missDue_of hl hp hd) hm, secondMiss_view s ch⟩

end Sys2Proof.Machine
end

section
/-! PROOFS. Settles O12: the capture of a servo-gate rise, in each lock state (R86 to R91, R95 to R97). -/

namespace Sys2Proof.Machine

/-! ### The timer behind a capture -/

/-- The timer of a channel as a capture at the tick `t` judges the interval, the wedge fields copied and F still to be
computed (R86 to R91). -/
def Channel.judged (c : Channel) (t : Tick) : Wedge :=
  let i := tickDiff t c.wedge.last
  match c.wedge.lock with
  | .unlocked => { c.copyFields with last := t, good := 0, lock := .acquiring }
  | .acquiring => c.copyFields.acquire t i
  | .locked | .coasting =>
    if within i c.wedge.estimate c.setup.tolerance then c.copyFields.track t i else c.copyFields.lose t

/-- A timer with F computed for its W, if it predicts (R96). -/
def Wedge.refenced (w : Wedge) (x : Option Context) (r : RateMeter) : Wedge :=
  if w.lock.predicts then { w with fenceTick := fenceTickOf w.next w.margin x r } else w

/-- The timer of a channel behind a capture at the tick `t` (R86 to R91, R96). -/
def Channel.captured (c : Channel) (t : Tick) : Wedge := (c.judged t).refenced c.context c.rate

theorem refenced_fields (w : Wedge) (x : Option Context) (r : RateMeter) : (w.refenced x r).nominal = w.nominal ∧
    (w.refenced x r).tolerance = w.tolerance ∧ (w.refenced x r).margin = w.margin ∧ (w.refenced x r).last = w.last := by
  unfold Wedge.refenced
  split <;> exact ⟨rfl, rfl, rfl, rfl⟩

/-- With the window open a recomputation of F dates F and no more (R96, R97). -/
theorem refence_chan_open {s : State} {ch : Ch} (hf : (s.chan ch).wedge.fence = true) : (s.refence ch).chan ch =
    (s.chan ch).setWedge ((s.chan ch).wedge.refenced (s.chan ch).context (s.chan ch).rate) := by
  have hopen : ((s.computeFence ch).chan ch).wedge.fence = true := by rw [computeFence_chan]; exact hf
  have hstays : (s.computeFence ch).openFence ch = s.computeFence ch := if_pos hopen
  unfold Wedge.refenced
  rcases refence_cases s ch with ⟨hp, e⟩ | ⟨hp, ⟨-, e⟩ | ⟨-, e⟩⟩ <;> rw [e, hp]
  · rfl
  · rw [hstays, computeFence_chan]
    rfl
  · rw [computeFence_chan]
    rfl

/-- The same, for a timer that the capture has put in place. -/
theorem put_refence_chan {s : State} {ch : Ch} {w : Wedge} (hw : w.fence = true) :
    ((s.onChan ch fun c => c.setWedge w).refence ch).chan ch =
      (s.chan ch).setWedge (w.refenced (s.chan ch).context (s.chan ch).rate) := by
  rw [refence_chan_open (by rw [chan_onChan]; exact hw), chan_onChan]
  rfl

/-- The channel behind a capture that finds the window open, or that loses lock. -/
theorem capture_chan {s : State} {ch : Ch} (h : (s.chan ch).wedge.fence = true ∨ s.losesLock ch = true) :
    (s.capture ch).chan ch = (s.chan ch).setWedge ((s.chan ch).captured s.now) := by
  unfold State.losesLock State.interval at h
  unfold State.capture State.interval Channel.captured Channel.judged
  cases hl : (s.chan ch).wedge.lock with
  | unlocked =>
    simp only [Channel.copyFields, hl, chan_onChan]
    rfl
  | acquiring =>
    have hf : (s.chan ch).wedge.fence = true := by simpa [hl, Lock.predicts] using h
    simp only [Channel.copyFields, hl]
    exact put_refence_chan ((acquire_fence _ _ _).trans hf)
  | locked | coasting =>
    cases hw : within (tickDiff s.now (s.chan ch).wedge.last) (s.chan ch).wedge.estimate (s.chan ch).setup.tolerance with
    | true =>
      have hf : (s.chan ch).wedge.fence = true := by simpa [hw] using h
      simp only [Channel.copyFields, hl, hw, if_true]
      exact put_refence_chan hf
    | false =>
      simp only [Channel.copyFields, hl, hw, Bool.false_eq_true, if_false, chan_post, chan_onChan]
      rfl

/-! ### What release control leaves of what a capture reads -/

/-- What a capture reads of a channel beside its timer, and the filter of SGx. -/
structure Bearing where
  sg    : Filter
  rate  : RateMeter
  setup : Setup
  relay : Relay
  heads : List Head

/-- The bearing of a channel. -/
def Channel.bearing (c : Channel) : Bearing :=
  { sg := c.sg, rate := c.rate, setup := c.setup, relay := c.relay, heads := c.heads }

theorem bearing_ext {c d : Channel} (h : d.bearing = c.bearing) :
    d.sg = c.sg ∧ d.rate = c.rate ∧ d.setup = c.setup ∧ d.context = c.context := by
  simp only [Channel.bearing, Bearing.mk.injEq] at h
  obtain ⟨hsg, hrate, hsetup, hrelay, hheads⟩ := h
  exact ⟨hsg, hrate, hsetup, context_congr hheads (congrArg Relay.selected hrelay)⟩

/-- A capture judges by the bearing and the timer, and passes the window on as it was. -/
theorem captured_congr {c d : Channel} {b : Bool} (h : d.bearing = c.bearing) (hw : d.wedge = { c.wedge with fence := b })
    (t : Tick) : d.captured t = { c.captured t with fence := b } := by
  obtain ⟨-, hrate, hsetup, hcontext⟩ := bearing_ext h
  unfold Channel.captured Channel.judged Channel.copyFields Wedge.acquire
  simp only [hrate, hsetup, hcontext, hw]
  cases c.wedge.lock with
  | unlocked => rfl
  | acquiring =>
    dsimp only
    cases within (tickDiff t c.wedge.last) c.setup.nominal c.setup.tolerance <;> cases c.wedge.good == 0 <;> rfl
  | locked | coasting =>
    dsimp only
    cases within (tickDiff t c.wedge.last) c.wedge.estimate c.setup.tolerance <;> rfl

theorem encroached_bearing {c : Channel} (t : Tick) (h : c.sg = filterAt true) : (c.encroached t).bearing = c.bearing := by
  unfold Channel.encroached Channel.dropHead
  dsimp only
  split
  · split <;> simp [Channel.bearing, Channel.dropGate, h]
  · simp [Channel.bearing, h]

/-- With no promotion waiting, what follows a departure changes the queue alone beside the lasers (R36, R44). -/
theorem afterDeparture_view {s : State} {ch : Ch} (b : Bool) (hp : (s.chan ch).selectedPending = none) :
    ∃ q, (s.afterDeparture ch b).sansLaser = (s.onChan ch fun c => { c with queue := q }).sansLaser := by
  unfold State.afterDeparture
  cases hq : (s.chan ch).queue with
  | nil =>
    refine ⟨[], ?_⟩
    rw [if_pos (by rfl), announceEmpty_of_quiet hp, retarget_sansLaser, onChan_of_fixed (by rw [← hq])]
  | cons r rest =>
    rw [if_neg (by simp)]
    exact ⟨_, becomeHead_sansLaser s ch b r rest hq⟩

/-- Release control opens the window, and leaves what a capture reads (R54, R97). -/
theorem servoFence_timer {u : State} {ch : Ch} (hg : (u.chan ch).sg = filterAt true)
    (hp : (u.chan ch).selectedPending = none) :
    let t := u.servoFence ch
    t.now = u.now ∧ (t.chan ch).wedge = { (u.chan ch).wedge with fence := true } ∧
      (t.chan ch).bearing = (u.chan ch).bearing := by
  have he : (u.encroach ch).chan ch = (u.chan ch).encroached u.now := by
    rw [encroach_chan u ch hg]
    rfl
  have hnow := (encroach_apart u ch).now
  have hw : ((u.encroach ch).chan ch).wedge = (u.chan ch).wedge := by rw [he, encroached_wedge]
  have hb : ((u.encroach ch).chan ch).bearing = (u.chan ch).bearing := by rw [he, encroached_bearing _ hg]
  have hpend : ((u.encroach ch).chan ch).selectedPending = none := by rw [he, encroached_selectedPending, hp]
  unfold State.servoFence
  dsimp only
  cases hf : (u.chan ch).wedge.fence with
  | true =>
    rw [if_pos rfl]
    have hopen : ((u.encroach ch).chan ch).wedge = { (u.chan ch).wedge with fence := true } := by rw [hw, ← hf]
    split
    · obtain ⟨q, hv⟩ := afterDeparture_view false hpend
      have hc := sansLaser_chan hv ch
      rw [chan_onChan] at hc
      exact ⟨(sansLaser_now hv).trans ((onChan_now _ _ _).trans hnow), (congrArg Channel.wedge hc :).trans hopen,
        (congrArg Channel.bearing hc :).trans hb⟩
    · exact ⟨hnow, hopen, hb⟩
  | false =>
    rw [if_neg Bool.false_ne_true]
    have hc := (openFenceAfter_opens (!(u.chan ch).queue.isEmpty) (by rw [hw, hf]) hpend).chan
    refine ⟨(openFenceAfter_settles _ _ _).now.trans hnow, (congrArg Channel.wedge hc :).trans ?_,
      (congrArg Channel.bearing hc :).trans hb⟩
    rw [← hw]
    rfl

/-! ### The rise -/

/-- From `u`, with filtered SGx high already, to `t` the window has opened, and the capture has judged the timer as it
stood (R86, R97). -/
structure State.Captures (ch : Ch) (u t : State) : Prop where
  wedge   : (t.chan ch).wedge = { (u.chan ch).captured u.now with fence := true }
  bearing : (t.chan ch).bearing = (u.chan ch).bearing

theorem servoFence_capture_captures {u : State} {ch : Ch} (hg : (u.chan ch).sg = filterAt true)
    (hp : (u.chan ch).selectedPending = none) : State.Captures ch u ((u.servoFence ch).capture ch) := by
  obtain ⟨hnow, hwedge, hbearing⟩ := servoFence_timer hg hp
  have hc := capture_chan (s := u.servoFence ch) (ch := ch) (.inl (by rw [hwedge]))
  rw [hnow, captured_congr hbearing hwedge] at hc
  exact ⟨(congrArg Channel.wedge hc :), (congrArg Channel.bearing hc :).trans hbearing⟩

theorem capture_servoFence_captures {u : State} {ch : Ch} (hg : (u.chan ch).sg = filterAt true)
    (hp : (u.chan ch).selectedPending = none) (hl : u.losesLock ch = true) :
    State.Captures ch u ((u.capture ch).servoFence ch) := by
  have hc := capture_chan (s := u) (ch := ch) (.inr hl)
  obtain ⟨-, hwedge, hbearing⟩ := servoFence_timer (u := u.capture ch) (ch := ch) (by rw [hc]; exact hg)
    (by rw [hc]; exact hp)
  rw [hc] at hwedge hbearing
  exact ⟨hwedge, hbearing⟩

/-- At a servo-gate rise the capture judges the timer as it stood, before or behind release control (R86, R97, R166). -/
theorem servoRise_captures {s : State} {ch : Ch} (hp : (s.chan ch).selectedPending = none) :
    ∃ u, State.SgRisen ch s u ∧ State.Captures ch u (s.servoRise ch) := by
  let u := s.onChan ch fun c => { c with sg := filterAt true }
  have hu : State.SgRisen ch s u := ⟨onChan_now _ _ _, chan_onChan _ _ _, onChan_log _ _ _⟩
  have huc : State.SgRisen ch s u.chosen := ⟨hu.now, (chan_chosen u ch).trans hu.chan, hu.log⟩
  have gate {v : State} (hv : State.SgRisen ch s v) : (v.chan ch).sg = filterAt true := by rw [hv.chan]
  have pend {v : State} (hv : State.SgRisen ch s v) : (v.chan ch).selectedPending = none := by rw [hv.chan]; exact hp
  unfold State.servoRise
  dsimp only
  split
  · next hl =>
    rcases eitherOrder_cases u (fun t => t.servoFence ch) (fun t => t.capture ch) with e | e <;> rw [e]
    · exact ⟨u.chosen, huc, servoFence_capture_captures (gate huc) (pend huc)⟩
    · exact ⟨u.chosen, huc, capture_servoFence_captures (gate huc) (pend huc)
        (huc.losesLock.trans (hu.losesLock.symm.trans hl))⟩
  · exact ⟨u, hu, servoFence_capture_captures (gate hu) (pend hu)⟩

/-! ### The captured timer in each lock state (R86 to R91) -/

section
variable {c : Channel} (t : Tick)

/-- Every capture copies the wedge fields and dates C (R86). -/
theorem captured_fields : (c.captured t).nominal = c.setup.nominal ∧ (c.captured t).tolerance = c.setup.tolerance ∧
    (c.captured t).margin = c.setup.margin ∧ (c.captured t).last = t := by
  obtain ⟨hnominal, htolerance, hmargin, hlast⟩ := refenced_fields (c.judged t) c.context c.rate
  unfold Channel.captured
  rw [hnominal, htolerance, hmargin, hlast]
  unfold Channel.judged Wedge.acquire
  dsimp only
  split
  · exact ⟨rfl, rfl, rfl, rfl⟩
  · split
    · split <;> exact ⟨rfl, rfl, rfl, rfl⟩
    · exact ⟨rfl, rfl, rfl, rfl⟩
  · split <;> exact ⟨rfl, rfl, rfl, rfl⟩
  · split <;> exact ⟨rfl, rfl, rfl, rfl⟩

/-- R87: an acquisition starts. -/
theorem captured_unlocked (hl : c.wedge.lock = .unlocked) :
    c.captured t = { c.copyFields with last := t, good := 0, lock := .acquiring } := by
  simp only [Channel.captured, Channel.judged, hl, Wedge.refenced, Lock.predicts, Bool.false_eq_true, if_false]

/-- R88: a first good interval. -/
theorem captured_first (hl : c.wedge.lock = .acquiring)
    (hw : within (tickDiff t c.wedge.last) c.setup.nominal c.setup.tolerance = true) (hg : c.wedge.good = 0) :
    c.captured t = { c.copyFields with good := 1, first := some (tickDiff t c.wedge.last), last := t } := by
  simp [Channel.captured, Channel.judged, Channel.copyFields, Wedge.acquire, Wedge.refenced, Lock.predicts, hl, hw, hg]

/-- R88: a second good interval completes the acquisition. -/
theorem captured_second {j : Int} (hl : c.wedge.lock = .acquiring)
    (hw : within (tickDiff t c.wedge.last) c.setup.nominal c.setup.tolerance = true) (hg : c.wedge.good ≠ 0)
    (hj : c.wedge.first = some j) :
    let e := clampEstimate ((j + tickDiff t c.wedge.last) / 2)
    let next := t + BitVec.ofNat 32 e
    c.captured t = { c.copyFields with
      good := 2, estimate := e, last := t, next := next, miss := 0, lock := .locked
      fenceTick := fenceTickOf next c.setup.margin c.context c.rate } := by
  simp [Channel.captured, Channel.judged, Channel.copyFields, Wedge.acquire, Wedge.refenced, Lock.predicts, hl, hw, hg, hj]

/-- R88: an interval out of tolerance starts the acquisition over. -/
theorem captured_fails (hl : c.wedge.lock = .acquiring)
    (hw : within (tickDiff t c.wedge.last) c.setup.nominal c.setup.tolerance = false) :
    c.captured t = { c.copyFields with good := 0, first := none, last := t } := by
  simp [Channel.captured, Channel.judged, Channel.copyFields, Wedge.acquire, Wedge.refenced, Lock.predicts, hl, hw]

/-- A timer that predicts is judged by its estimate (R90, R91). -/
theorem judged_predicting (hp : c.wedge.lock.predicts = true) : c.judged t =
    if within (tickDiff t c.wedge.last) c.wedge.estimate c.setup.tolerance then
      c.copyFields.track t (tickDiff t c.wedge.last) else c.copyFields.lose t := by
  unfold Channel.judged
  cases hl : c.wedge.lock with
  | unlocked | acquiring => simp [hl, Lock.predicts] at hp
  | locked | coasting => rfl

/-- R90: the period is tracked. -/
theorem captured_tracks (hp : c.wedge.lock.predicts = true)
    (hw : within (tickDiff t c.wedge.last) c.wedge.estimate c.setup.tolerance = true) :
    let e := clampEstimate ((3 * (c.wedge.estimate : Int) + tickDiff t c.wedge.last) / 4)
    let next := t + BitVec.ofNat 32 e
    c.captured t = { c.copyFields with
      estimate := e, last := t, next := next, miss := 0, lock := .locked
      fenceTick := fenceTickOf next c.setup.margin c.context c.rate } := by
  rw [Channel.captured, judged_predicting t hp, if_pos hw]
  rfl

/-- R91: lock is lost. -/
theorem captured_loses (hp : c.wedge.lock.predicts = true)
    (hw : within (tickDiff t c.wedge.last) c.wedge.estimate c.setup.tolerance = false) :
    c.captured t = { c.copyFields with last := t, good := 0, miss := 0, lock := .acquiring } := by
  rw [Channel.captured, judged_predicting t hp, if_neg (Bool.eq_false_iff.1 hw)]
  rfl

end

/-! ### The incidents of a rise with an empty queue -/

theorem endings_of_empty {c : Channel} (hq : c.queue = []) (ch : Ch) (t : Tick) : c.endings ch t = [] := by
  have hd : (c.encroached t).queue = [] := by rw [encroached_queue, hq]; exact ite_self []
  unfold Channel.endings Channel.encroachments
  rw [hq, hd]
  exact ite_self []

/-- With no record to end or cut, a WEDGE_LOST at the loss of lock is the one incident of a rise (R91). -/
theorem servoRise_incidents_of_empty {s : State} {ch : Ch} (hp : (s.chan ch).selectedPending = none)
    (hq : (s.chan ch).queue = []) : (s.servoRise ch).incidents =
      if s.losesLock ch = true then (s.post (s.lockLost ch)).incidents else s.incidents := by
  obtain ⟨hkeeps, hloses⟩ := (servoRise_rises hp fun _ _ => by rw [hq]; rfl).incidents (endings_of_empty hq ch s.now)
  split
  · next hl => exact (hloses hl).elim id id
  · next hl => exact hkeeps hl

/-- Settles O12. -/
theorem capture : Obligations.Capture := by
  intro s ch hl hs hp w x i bring near
  obtain ⟨u, hu, hcaptures⟩ := servoRise_captures hp
  obtain ⟨hwedge, hbearing⟩ := hcaptures
  rw [hu.chan] at hbearing
  obtain ⟨hsg, hrate, -, hcontext⟩ := bearing_ext hbearing
  have yes {p : Nat} (h : near p) : within i p x.tolerance = true := decide_eq_true h
  have no {p : Nat} (h : ¬ near p) : within i p x.tolerance = false := decide_eq_false h
  refine ⟨_, exec_servoGateRise_low hl hs, by rw [hsg]; rfl, ?_⟩
  intro v
  have hv : v = { (s.chan ch).captured s.now with fence := true } := by
    refine hwedge.trans ?_
    rw [hu.chan, hu.now]
    rfl
  obtain ⟨hnominal, htolerance, hmargin, hlast⟩ := captured_fields (c := s.chan ch) s.now
  refine ⟨fun hq => ?_, (congrArg Wedge.nominal hv).trans hnominal, (congrArg Wedge.tolerance hv).trans htolerance,
    (congrArg Wedge.margin hv).trans hmargin, (congrArg Wedge.last hv).trans hlast, congrArg Wedge.fence hv,
    fun h => ?_, fun h hn hg => ?_, fun j h hn hg hj => ?_, fun h hn => ?_, fun h hn => ?_, fun h hn => ?_⟩
  · rw [servoRise_incidents_of_empty hp hq]
    exact if_congr ((losesLock_iff s ch).trans (and_congr_right' Nat.not_le.symm)) rfl rfl
  · rw [captured_unlocked s.now h] at hv
    rw [hv]
    exact ⟨rfl, rfl, rfl, rfl, rfl⟩
  · rw [captured_first s.now h (yes hn) hg] at hv
    rw [hv]
    exact ⟨h, rfl, rfl⟩
  · rw [captured_second s.now h (yes hn) hg hj] at hv
    rw [hv, hcontext, hrate]
    exact ⟨rfl, rfl, rfl, rfl, rfl, rfl⟩
  · rw [captured_fails s.now h (no hn)] at hv
    rw [hv]
    exact ⟨h, rfl, rfl⟩
  · rw [captured_tracks s.now h (yes hn)] at hv
    rw [hv, hcontext, hrate]
    exact ⟨rfl, rfl, rfl, rfl, rfl⟩
  · rw [captured_loses s.now h (no hn)] at hv
    rw [hv]
    exact ⟨rfl, rfl, rfl, rfl, rfl, rfl⟩

end Sys2Proof.Machine
end

section
/-! PROOFS. Settles O27, O29 and O46: the headroom that a ramp step, a grant, a level table and a ceiling free (R104 to
R108, R112). -/

namespace Sys2Proof.Machine

/-! ### Headroom that is freed (R107) -/

theorem anyWaiting_eq (s : State) (ch : Ch) :
    s.anyWaiting = ((s.chan ch).laser.want.isSome || (s.chan (otherCh ch)).laser.want.isSome) := by
  cases ch
  · rfl
  · exact Bool.or_comm _ _

theorem settleRecheck_not_due {s : State} (h : s.recheckDue = false) : s.settleRecheck = s :=
  if_neg (Bool.eq_false_iff.1 h)

/-- With no re-check due before, headroom freed under a condition makes one due exactly then, if a request waits. -/
theorem freed_if {s : State} (p : Prop) [Decidable p] (h : s.recheckDue = false) :
    (if p then s.freed else s) = { s with recheckDue := decide p && s.anyWaiting } := by
  split
  · next hp => simp only [State.freed, h, decide_eq_true hp, Bool.false_or, Bool.true_and]
  · next hp => rw [decide_eq_false hp, Bool.false_and, ← h]

/-- A step calls for a re-check of the other channel's request alone: the channel's own is cleared (R65, R107). -/
theorem stepTo_not_due {s : State} (h : s.recheckDue = false) (ch : Ch) (b : Code) :
    s.stepTo ch b = { s.onChan ch fun c => c.stepTo s.now b with
      recheckDue := (decide (b.toNat < (s.code ch).toNat) || decide (s.stepCost ch b < 0)) &&
        (s.chan (otherCh ch)).laser.want.isSome } := by
  have hown : ((s.chan ch).stepTo s.now b).laser.want = none := rfl
  refine (freed_if _ ((onChan_recheckDue _ _ _).trans h)).trans ?_
  rw [anyWaiting_eq _ ch, chan_onChan, chan_onChan_other, hown, Bool.decide_eq_true, Option.isSome_none, Bool.false_or]

theorem stepTo_loser (s : State) (ch : Ch) (b : Code) : (s.stepTo ch b).loser = s.loser := by
  unfold State.stepTo
  dsimp only
  split <;> exact onChan_loser _ _ _

/-! ### RAMP_STEP (R65, R66, R105) -/

theorem exec_rampStep {s : State} {ch : Ch} {last : Stamp} {dwell : Nat} {held : Bool} (hl : s.live ch = true)
    (hm : (s.chan ch).laser.motion = .ramp last dwell none held) (he : last.elapsed s.now dwell = true)
    (hc : (s.chan ch).laser.code ≠ (s.chan ch).laser.target) : exec (.rampStep ch) s = .next (s.takeStep ch) := by
  have hdue : s.rampStepDue ch = true := by
    simp [State.rampStepDue, hl, Sequencer.isSettled, Sequencer.want, hc, stepIsDue_eq, hm, Motion.since, Motion.wait, he]
  exact congrArg _ (if_pos hdue)

/-- With no re-check before it, a step that is due goes down or fits, and is taken, or waits for its grant. -/
theorem takeStep_not_due {s : State} {ch : Ch} (hr : s.recheckDue = false)
    (hc : (s.chan ch).laser.code ≠ (s.chan ch).laser.target) :
    let q := (s.chan ch).laser
    let b := nextCode (s.chan ch).rampParams q.code q.target
    s.takeStep ch = if q.target.toNat < q.code.toNat ∨ s.fits ch b = true then s.stepTo ch b
      else s.onChan ch fun c => { c with laser := { c.laser with motion := c.laser.motion.waitFor b } } := by
  have hne : ((s.chan ch).laser.target == (s.chan ch).laser.code) = false := by simpa using Ne.symm hc
  unfold State.takeStep
  rw [settleRecheck_not_due hr]
  simp only [hne, Bool.false_eq_true, if_false, Bool.or_eq_true, decide_eq_true_eq]

/-- Settles O27: the step goes down or fits, and is taken, or its landing code waits. -/
theorem rampStep : Obligations.RampStep := by
  intro s ch last dwell held hl hr hm he hc c n cost up
  have hne : c.toNat ≠ (s.chan ch).laser.target.toNat := fun h => hc (BitVec.eq_of_toNat_eq h)
  have hexec := (exec_rampStep hl hm he hc).trans (congrArg _ (takeStep_not_due hr hc))
  have hfits : s.fits ch n = true ↔ cost ≤ 0 ∨ s.used + cost ≤ s.ceiling := fits_iff s ch n
  refine ⟨fun h => ?_, fun hup hcost hused => ?_⟩
  · have htaken : (s.chan ch).laser.target.toNat < c.toNat ∨ s.fits ch n = true :=
      h.imp (fun hup => lt_of_le_of_ne (Nat.le_of_not_lt hup) hne.symm) hfits.2
    refine ⟨s.stepTo ch n, hexec.trans (congrArg _ (if_pos htaken)), stepTo_sansLaser s ch n, ?_,
      congrArg Channel.laser (chan_stepTo_other s ch n), stepTo_loser s ch n, ?_⟩
    · rw [chan_stepTo]
      rfl
    · rw [stepTo_not_due hr]
      rfl
  · have hwaits : ¬ ((s.chan ch).laser.target.toNat < c.toNat ∨ s.fits ch n = true) := by
      rw [hfits]
      omega
    refine hexec.trans (congrArg _ ((if_neg hwaits).trans (onChan_congr s ch ?_)))
    rw [hm]
    rfl

/-! ### A waiting request that is offered its step (R107) -/

/-- The state behind the offer of a step to `b`: taken if it fits. -/
def State.offered (s : State) (ch : Ch) (b : Code) : State := if s.fits ch b = true then s.stepTo ch b else s

/-- A re-check offers the channel the landing code it waits with, and tells whether it fitted. -/
theorem grant_of_want {s : State} {ch : Ch} {b : Code} (h : (s.chan ch).laser.want = some b) :
    s.grant ch = (s.offered ch b, s.fits ch b) := by
  unfold State.grant State.offered
  rw [h]
  cases hf : s.fits ch b <;> simp [hf]

theorem offered_sansLaser (s : State) (ch : Ch) (b : Code) : (s.offered ch b).sansLaser = s.sansLaser := by
  unfold State.offered
  split
  · exact stepTo_sansLaser s ch b
  · rfl

theorem offered_chan_other (s : State) (ch : Ch) (b : Code) :
    (s.offered ch b).chan (otherCh ch) = s.chan (otherCh ch) := by
  unfold State.offered
  split
  · exact chan_stepTo_other s ch b
  · rfl

theorem offered_code (s : State) (ch : Ch) (b : Code) :
    ((s.offered ch b).chan ch).laser.code = if s.fits ch b = true then b else (s.chan ch).laser.code := by
  unfold State.offered
  split
  · rw [chan_stepTo]
    rfl
  · rfl

theorem fits_with_recheckDue (s : State) (v : Bool) (ch : Ch) (b : Code) :
    ({ s with recheckDue := v } : State).fits ch b = s.fits ch b :=
  fits_congr ch b rfl rfl fun x => congrArg (fun c : Channel => c.laser.code) (chan_with_recheckDue s v x)

theorem offered_with_recheckDue_code (s : State) (v : Bool) (ch x : Ch) (b : Code) :
    (({ s with recheckDue := v } : State).offered ch b).code x = (s.offered ch b).code x := by
  unfold State.code
  rcases ch_cases ch x with rfl | rfl
  · rw [offered_code, offered_code, fits_with_recheckDue, chan_with_recheckDue]
  · rw [offered_chan_other, offered_chan_other, chan_with_recheckDue]

/-- The mark of a re-check does not enter the test behind an offer. -/
theorem offered_with_recheckDue_fits (s : State) (v : Bool) (ch x : Ch) (a b : Code) :
    (({ s with recheckDue := v } : State).offered ch a).fits x b = (s.offered ch a).fits x b := by
  have hview : (({ s with recheckDue := v } : State).offered ch a).sansLaser = (s.offered ch a).sansLaser :=
    (offered_sansLaser _ ch a).trans (offered_sansLaser s ch a).symm
  exact fits_congr x b (sansLaser_levels hview) (sansLaser_ceiling hview) fun y =>
    offered_with_recheckDue_code s v ch y a

/-! ### STEP_GRANT (R107, R108) -/

theorem exec_stepGrant {s : State} (h : s.recheckDue = true) : exec .stepGrant s = .next s.recheck :=
  congrArg _ (if_pos h)

theorem recheck_alone {s : State} {ch : Ch} {b : Code} (hw : (s.chan ch).laser.want = some b)
    (ho : (s.chan (otherCh ch)).laser.want = none) :
    s.recheck = ({ s with recheckDue := false } : State).offered ch b := by
  have hgrant := congrArg Prod.fst (grant_of_want (s := { s with recheckDue := false }) (ch := ch)
    (by rwa [chan_with_recheckDue]))
  unfold State.recheck
  cases ch <;> simp only [State.chan, otherCh] at hw ho <;> simpa only [hw, ho] using hgrant

theorem recheck_both {s : State} {ch : Ch} {b1 b2 : Code} (hw : (s.chan ch).laser.want = some b1)
    (ho : (s.chan (otherCh ch)).laser.want = some b2) :
    s.recheck = ({ s with recheckDue := false } : State).contest := by
  unfold State.recheck
  cases ch <;> simp only [State.chan, otherCh] at hw ho <;> simp only [hw, ho]

/-- Higher draw priority goes first, at equal priority the contest loser, and with none channel A (R108). -/
theorem firstInContest_of {s : State} {first : Ch}
    (h : (s.chan (otherCh first)).setup.priority < (s.chan first).setup.priority ∨
      ((s.chan (otherCh first)).setup.priority = (s.chan first).setup.priority ∧
        (s.loser = some first ∨ (s.loser = none ∧ first = .A)))) : s.firstInContest = first := by
  unfold State.firstInContest
  rcases h with h | ⟨heq, hloser⟩
  · cases first
    · exact if_pos h
    · exact (if_neg (Nat.lt_asymm h)).trans (if_pos h)
  · have hlast : s.loser.getD .A = first := by
      rcases hloser with hl | ⟨hl, rfl⟩ <;> rw [hl] <;> rfl
    cases first
    · change s.b.setup.priority = s.a.setup.priority at heq
      rw [if_neg heq.not_lt, if_neg heq.not_gt, hlast]
    · change s.a.setup.priority = s.b.setup.priority at heq
      rw [if_neg heq.not_gt, if_neg heq.not_lt, hlast]

/-- A contest offers both channels their steps, one behind the other (R108). -/
theorem contest_offers {s : State} {first : Ch} {b1 b2 : Code} (hfirst : s.firstInContest = first)
    (hw : (s.chan first).laser.want = some b1) (ho : (s.chan (otherCh first)).laser.want = some b2) :
    let mid := s.offered first b1
    (∀ x, s.contest.chan x = (mid.offered (otherCh first) b2).chan x) ∧
      s.contest.loser = loserAfter first (s.fits first b1) (mid.fits (otherCh first) b2) s.loser := by
  have ho' : ((s.offered first b1).chan (otherCh first)).laser.want = some b2 := by rwa [offered_chan_other]
  unfold State.contest
  simp only [hfirst, grant_of_want hw, grant_of_want ho']
  exact ⟨chan_with_loser _ _, trivial⟩

theorem loserAfter_eq (first : Ch) (g1 g2 : Bool) (before : Option Ch) : loserAfter first g1 g2 before =
    if g1 = true ∧ g2 = false then some (otherCh first) else if g1 = false ∧ g2 = true then some first else before := by
  cases g1 <;> cases g2 <;> rfl

/-- Settles O29: a re-check offers the steps waited for, and a contest the second behind the first. -/
theorem stepGrant : Obligations.StepGrant := by
  intro s hr
  let u : State := { s with recheckDue := false }
  refine ⟨fun ch b hw ho => ?_, fun first b1 b2 hw ho hfirst => ?_⟩
  · refine ⟨u.offered ch b, (exec_stepGrant hr).trans (congrArg _ (recheck_alone hw ho)), offered_sansLaser u ch b, ?_, ?_,
      fun hf => ?_, fun hf => ?_⟩
    · unfold State.offered
      split
      · exact stepTo_loser u ch b
      · rfl
    · rw [offered_chan_other, chan_with_recheckDue]
    · rw [State.offered, if_pos ((fits_with_recheckDue s false ch b).trans hf), chan_stepTo]
      exact ⟨rfl, rfl⟩
    · exact if_neg (by rw [fits_with_recheckDue, hf]; exact Bool.false_ne_true)
  · have hchan (x : Ch) : u.chan x = s.chan x := chan_with_recheckDue s false x
    obtain ⟨hcontest, hloser⟩ := contest_offers (s := u) (firstInContest_of (by rw [hchan, hchan]; exact hfirst))
      (by rw [hchan]; exact hw) (by rw [hchan]; exact ho)
    refine ⟨u.contest, (exec_stepGrant hr).trans (congrArg _ (recheck_both hw ho)), contest_sansLaser u, ?_⟩
    intro mid
    have hmid (x : Ch) (b : Code) : (u.offered first b1).fits x b = mid.fits x b :=
      offered_with_recheckDue_fits s false first x b1 b
    rw [hcontest, hcontest, hloser]
    refine ⟨?_, ?_, ?_⟩
    · have hother := offered_chan_other (u.offered first b1) (otherCh first) b2
      rw [otherCh_otherCh] at hother
      rw [hother, offered_code, fits_with_recheckDue, hchan]
    · rw [offered_code, hmid, offered_chan_other, hchan]
    · rw [hmid, fits_with_recheckDue, loserAfter_eq]

/-! ### The level table (R134) -/

theorem field_low (w : Word) (hi : Nat) : Word.field w hi 0 = w.toNat % 2 ^ (hi + 1) := by
  simp [Word.field]

theorem field_high (w : Word) : Word.field w 15 8 = w.toNat / 256 := by
  have := w.isLt
  simp only [Word.field]
  omega

theorem writeLevels_length (xs : List Level) (c : Nat) (table : List Level) :
    (writeLevels c xs table).length = table.length := by
  induction xs generalizing c table with
  | nil => rfl
  | cons x xs ih => simp [writeLevels, ih]

/-- The codes from `c` on get the entries, and no other code does. -/
theorem writeLevels_getElem? (xs : List Level) (c k : Nat) (table : List Level) (h : c + xs.length ≤ table.length) :
    (writeLevels c xs table)[k]? = if c ≤ k ∧ k < c + xs.length then xs[k - c]? else table[k]? := by
  induction xs generalizing c table with
  | nil => rw [if_neg (by simp)]; rfl
  | cons x xs ih =>
    simp only [List.length_cons] at h ⊢
    rw [writeLevels, ih (c + 1) _ (by rw [List.length_set]; omega), List.getElem?_set]
    by_cases hk : k = c
    · subst hk
      rw [if_neg (by omega), if_pos rfl, if_pos (by omega), if_pos (by omega), Nat.sub_self]
      rfl
    · rw [if_neg (Ne.symm hk)]
      by_cases hin : c + 1 ≤ k ∧ k < c + 1 + xs.length
      · rw [if_pos hin, if_pos (by omega), show k - c = (k - (c + 1)) + 1 by omega, List.getElem?_cons_succ]
      · rw [if_neg hin, if_neg (by omega)]

/-- The entry for the `i`-th code of a LEVEL TABLE is word `i + 2` (R164). -/
theorem levelEntries_getElem? (e : Entry) {i : Nat} (h : i < e.payload.length - 1) : (levelEntries e)[i]? =
    some { current := (e.word (i + 2)).toNat / 256, weight := (e.word (i + 2)).toNat % 256 } := by
  have hlt : i + 1 < e.payload.length := by omega
  have hword : e.word (i + 2) = e.payload[i + 1] := by simp [Entry.word, hlt]
  simp [levelEntries, hlt, hword, field_high, field_low]

/-- The table a LEVEL TABLE makes, code by code (R134). -/
theorem writeLevels_levelEntries {e : Entry} {table : List Level} (hlen : table.length = 64)
    (h : firstCode e + (e.payload.length - 1) ≤ 64) : writeLevels (firstCode e) (levelEntries e) table =
      (List.range 64).map fun c =>
        if firstCode e ≤ c ∧ c < firstCode e + (e.payload.length - 1) then
          { current := (e.word (c - firstCode e + 2)).toNat / 256, weight := (e.word (c - firstCode e + 2)).toNat % 256 }
        else table.getD c { current := 0, weight := 0 } := by
  have hn : (levelEntries e).length = e.payload.length - 1 := by simp [levelEntries]
  refine List.ext_getElem? fun k => ?_
  rw [writeLevels_getElem? _ _ _ _ (by omega), hn]
  by_cases hk : k < 64
  · rw [List.getElem?_map, List.getElem?_range hk, Option.map_some]
    by_cases hin : firstCode e ≤ k ∧ k < firstCode e + (e.payload.length - 1)
    · rw [if_pos hin, if_pos hin, levelEntries_getElem? e (by omega)]
    · rw [if_neg hin, if_neg hin, List.getD_eq_getElem _ _ (by omega), List.getElem?_eq_getElem (by omega)]
  · rw [if_neg (by omega), List.getElem?_eq_none (by omega), List.getElem?_eq_none (by simpa using hk)]

/-- A landing code waited for is read in both tables (R107). -/
theorem landingFell_eq {s t : State} {ch : Ch} (h : t.chan ch = s.chan ch) : landingFell s t ch =
    (s.chan ch).laser.want.elim false fun b => decide (t.current b < s.current b) := by
  unfold landingFell State.waitingCurrent
  rw [h]
  cases (s.chan ch).laser.want <;> rfl

theorem levelTableOk_iff (e : Entry) :
    levelTableOk e = true ↔ firstCode e ≠ 0 ∧ firstCode e + (e.payload.length - 1) ≤ 64 := by
  simp [levelTableOk, levelEntries, Nat.one_le_iff_ne_zero]

/-! ### The quiet directives (R112, R134, R137) -/

theorem exec_levelTable {s : State} {e : Entry} (ha : s.applying = some e) (hr : s.firstRefusal e = none)
    (hk : e.kind = 3) : exec .levelTable s = .next (s.applyLevels e).nextFrame :=
  congrArg _ (applyKind_of_passes State.applyLevels ha hr (by rw [hk]; rfl) rfl)

theorem exec_globalSetup {s : State} {e : Entry} (ha : s.applying = some e) (hr : s.firstRefusal e = none)
    (hk : e.kind = 5) : exec .globalSetup s = .next (s.applyGlobal e).nextFrame :=
  congrArg _ (applyKind_of_passes State.applyGlobal ha hr (by rw [hk]; rfl) rfl)

/-- LEVEL TABLE with no re-check before it: the two refusals, and the table written (R107, R112, R134). -/
theorem applyLevels_not_due {s : State} (hd : s.recheckDue = false) (e : Entry) :
    let t : State := { s with levels := writeLevels (firstCode e) (levelEntries e) s.levels }
    s.applyLevels e = if levelTableOk e = false then s.refuse e false .payload
      else if s.ceiling < t.used then s.refuse e false .ceiling
      else { t with
        recheckDue := (decide (t.used < s.used) || [Ch.A, Ch.B].any (landingFell s t)) && s.anyWaiting } := by
  intro t
  have hcalls : [Ch.A, Ch.B].any (landingFell s t) = (landingFell s t .A || landingFell s t .B) := by simp
  unfold State.applyLevels
  rw [settleRecheck_not_due hd]
  refine ite_congr (Bool.not_eq_true' _) (fun _ => rfl) fun _ => ite_congr rfl (fun _ => rfl) fun _ =>
    (freed_if (s := t) _ hd).trans ?_
  rw [Bool.decide_eq_true, hcalls, ← Bool.or_assoc]
  rfl

/-- GLOBAL SETUP with no re-check before it: the two refusals, and the fields written (R107, R112, R137). -/
theorem applyGlobal_not_due {s : State} (hd : s.recheckDue = false) (e : Entry) :
    s.applyGlobal e = if ceilingOf e = 0 then s.refuse e false .payload
      else if ceilingOf e < s.used then s.refuse e false .ceiling
      else { s with
        ceiling := ceilingOf e, reportDiv := reportDivOf e, selectReg := selectRegOf e
        recheckDue := decide (s.ceiling < ceilingOf e) && s.anyWaiting } := by
  unfold State.applyGlobal
  rw [settleRecheck_not_due hd]
  dsimp only
  exact ite_congr (propext beq_iff_eq) (fun _ => rfl) fun _ => ite_congr rfl (fun _ => rfl) fun _ =>
    freed_if _ (by exact hd)

/-- Settles O46: behind the two refusals the fields are written, and the headroom freed is asked for. -/
theorem quietDirectives : Obligations.QuietDirectives := by
  intro s e ha hr hd hlen waiting
  have hrefuse (hk : e.kind = 3 ∨ e.kind = 5) (r : RefuseReason) :
      s.refuse e false r = s.post (refusedFrame e r.value) :=
    refuse_eq s (by rcases hk with hk | hk <;> rw [hk] <;> decide)
  refine ⟨?_, ?_⟩
  · intro hk first n table t cheaper
    have hexec := (exec_levelTable ha hr hk).trans
      (congrArg (fun t : State => Host.Outcome.next t.nextFrame) (applyLevels_not_due hd e))
    have hfirst : firstCode e = first := field_low _ 5
    have hok : ¬ levelTableOk e = false ↔ first ≠ 0 ∧ first + n ≤ 64 := by
      rw [Bool.not_eq_false, levelTableOk_iff, hfirst]
    have htable (h : first + n ≤ 64) : writeLevels (firstCode e) (levelEntries e) s.levels = table := by
      rw [writeLevels_levelEntries hlen (by rw [hfirst]; exact h), hfirst]
    have hcheaper : cheaper = (decide (t.used < s.used) || [Ch.A, Ch.B].any (landingFell s t)) := by
      refine congrArg (fun f => decide (t.used < s.used) || [Ch.A, Ch.B].any f) (funext fun ch => ?_)
      rw [landingFell_eq (chan_with_levels s table ch)]
      cases (s.chan ch).laser.want <;> rfl
    refine ⟨fun h => ?_, fun h0 h64 hused => ?_, fun h0 h64 hused => ?_⟩
    · rw [hexec, if_pos (by_contra fun hp => by have := hok.1 hp; omega), hrefuse (.inl hk)]
      rfl
    · rw [hexec, if_neg (hok.2 ⟨h0, h64⟩), htable h64, if_pos hused, hrefuse (.inl hk)]
      rfl
    · rw [hexec, if_neg (hok.2 ⟨h0, h64⟩), htable h64, if_neg (Nat.not_lt.2 hused), hcheaper]
      rfl
  · intro hk c
    have hexec := (exec_globalSetup ha hr hk).trans
      (congrArg (fun t : State => Host.Outcome.next t.nextFrame) (applyGlobal_not_due hd e))
    have hceiling : ceilingOf e = c := field_low _ 9
    have hdiv : reportDivOf e = BitVec.ofNat 8 ((e.word 2).toNat / 256) := congrArg _ (field_high _)
    have hreg : selectRegOf e = BitVec.ofNat 7 ((e.word 2).toNat % 128) := congrArg _ (field_low _ 6)
    rw [hceiling, hdiv, hreg] at hexec
    refine ⟨fun h => ?_, fun h0 hused => ?_, fun h0 hused => ?_⟩
    · rw [hexec, if_pos h, hrefuse (.inr hk)]
      rfl
    · rw [hexec, if_neg h0, if_pos hused, hrefuse (.inr hk)]
      rfl
    · rw [hexec, if_neg h0, if_neg (Nat.not_lt.2 hused)]
      rfl

end Sys2Proof.Machine
end

section
/-! PROOFS. The active copy of a head's context while records of the head are queued: what the shared operations keep
of it (R132). -/

namespace Sys2Proof.Machine

open Relation

/-! ### Heads with records, and their active copies (R132) -/

/-- A head with a record in `c` has the same active copy in `d`, whatever becomes of the record. -/
def Channel.Spares (c d : Channel) : Prop := ∀ h, c.hasRecordOf h = true → d.contextOf h = c.contextOf h

/-- A head with a record in `d` had one in `c`, and has the same active copy. -/
def Channel.Serves (c d : Channel) : Prop :=
  ∀ h, d.hasRecordOf h = true → c.hasRecordOf h = true ∧ d.contextOf h = c.contextOf h

theorem hasRecordOf_iff (c : Channel) (h : HeadNo) : c.hasRecordOf h = true ↔ ∃ r ∈ c.queue, r.head = h := by
  simp [Channel.hasRecordOf]

theorem hasRecordOf_of_stems {c d : Channel} {h : HeadNo} (hr : Stems d.queue c.queue) (hd : d.hasRecordOf h = true) :
    c.hasRecordOf h = true := by
  obtain ⟨r, hmem, rfl⟩ := (hasRecordOf_iff d h).1 hd
  obtain ⟨x, hx, hhead, -⟩ := hr r hmem
  exact (hasRecordOf_iff c r.head).2 ⟨x, hx, hhead.symm⟩

theorem Channel.Spares.of_contexts {c d : Channel} (h : d.contextOf = c.contextOf) : c.Spares d :=
  fun g _ => congrFun h g

theorem Channel.Serves.of_stems {c d : Channel} (hr : Stems d.queue c.queue) (hc : c.Spares d) : c.Serves d :=
  fun h hd => ⟨hasRecordOf_of_stems hr hd, hc h (hasRecordOf_of_stems hr hd)⟩

theorem Channel.Serves.of_empty {c d : Channel} (hq : d.queue = []) : c.Serves d := fun h hd => by
  rw [State.Does.hasRecordOf_nil hq] at hd
  contradiction

theorem Channel.Serves.of_heads {c d : Channel} (hr : Stems d.queue c.queue) (hh : d.heads = c.heads) : c.Serves d :=
  .of_stems hr (.of_contexts (contextOf_congr hh))

theorem Channel.Serves.trans {c d e : Channel} (h : c.Serves d) (k : d.Serves e) : c.Serves e := fun g he => by
  obtain ⟨hd, hde⟩ := k g he
  obtain ⟨hc, hcd⟩ := h g hd
  exact ⟨hc, hde.trans hcd⟩

theorem Stems.trans {q q' q'' : List Rec} (h : Stems q' q) (k : Stems q'' q') : Stems q'' q := by
  intro r hr
  obtain ⟨x, hx, hhead, hcode⟩ := k r hr
  obtain ⟨y, hy, hhead', hcode'⟩ := h x hx
  exact ⟨y, hy, hhead.trans hhead', hcode.trans hcode'⟩

theorem quiets_stems {c d : Channel} (h : ReflTransGen Channel.Quiet c d) : Stems d.queue c.queue := by
  induction h with
  | refl => exact .refl _
  | tail _ h ih =>
    cases h with
    | same h _ => rwa [(gear_ext h).2.1]
    | clear => exact .nil _
    | fence => exact ih.trans (.of_subset fun _ => State.Does.keptAtFence_records)

/-! ### What changes an active copy (R118, R132) -/

theorem contextOf_setHead_of_active {c : Channel} {h : HeadNo} {x : Head} (hx : x.active = (c.headAt h).active) :
    (c.setHead h x).contextOf = c.contextOf := by
  funext g
  unfold Channel.contextOf
  rw [headAt_setHead]
  split
  · next hg => rw [hx, hg.1]
  · rfl

theorem contextOf_setHead_of_other {c : Channel} {g h : HeadNo} (hg : g ≠ h) (x : Head) :
    (c.setHead h x).contextOf g = c.contextOf g := by
  unfold Channel.contextOf
  rw [headAt_setHead, if_neg fun k => hg k.1]

/-- An evaluation changes a hold flag and no copy (R118). -/
theorem evaluate_contextOf (s : State) (ch : Ch) (h : HeadNo) :
    ((s.evaluate ch h).chan ch).contextOf = (s.chan ch).contextOf := by
  cases hx : ((s.chan ch).headAt h).active with
  | none =>
    have e : s.evaluate ch h = s := by simp [State.evaluate, hx]
    rw [e]
  | some x =>
    let hd := (s.chan ch).headAt h
    exact (contextOf_congr (c := (s.chan ch).setHead h { hd with hold := holdAfter x hd.accum hd.hold })
      (evaluate_heads hx)).trans (contextOf_setHead_of_active rfl)

/-- A promotion or an unload changes the active copy of its own head alone (R132). -/
theorem promote_contextOf {s : State} {ch : Ch} {g h : HeadNo} (hg : g ≠ h) :
    ((s.promote ch h).chan ch).contextOf g = (s.chan ch).contextOf g := by
  have written (x : Head) : ((s.onChan ch fun c => c.setHead h x).chan ch).contextOf g = (s.chan ch).contextOf g := by
    rw [chan_onChan]
    exact contextOf_setHead_of_other hg x
  unfold State.promote
  dsimp only
  split
  · rfl
  · split
    · rw [contextOf_congr (refenceEmpty_heads _ ch), contextOf_congr (sansLaser_chan_heads (promoteLaser_sansLaser _ ch _) ch),
        evaluate_contextOf]
      exact written _
    · rw [evaluate_contextOf]
      exact written _
  · split
    · rw [contextOf_congr (refenceEmpty_heads _ ch), contextOf_congr (sansLaser_chan_heads (retarget_sansLaser _ ch) ch),
        contextOf_congr (sansLaser_chan_heads (directZero_sansLaser _ ch) ch)]
      exact written _
    · exact written _

/-- A heat tick changes the accumulators and no copy (R115). -/
theorem contextOf_heated (c : Channel) (selected : Option HeadNo) (weight : Nat) :
    ({ c with heads := heatHeads selected weight c.heads } : Channel).contextOf = c.contextOf := by
  funext h
  simp only [Channel.contextOf, Channel.headAt, heatHeads, List.getD_eq_getElem?_getD, List.getElem?_mapIdx]
  cases c.heads[h.toNat]? <;> rfl

/-- Every channel spares the active copies of the heads that have records at the start. -/
def State.Spares (s t : State) : Prop := ∀ x, (s.chan x).Spares (t.chan x)

/-- What an operation of one channel does leaves the copies of the other. -/
theorem State.Does.spares {p l : Prop} {ch : Ch} {s t : State} (h : State.Does p l ch s t)
    (hc : (s.chan ch).Spares (t.chan ch)) : s.Spares t := by
  intro x
  rcases ch_cases ch x with rfl | rfl
  · exact hc
  · exact .of_contexts (contextOf_congr h.other.1.heads)

theorem evaluate_spares (s : State) (ch : Ch) (h : HeadNo) : s.Spares (s.evaluate ch h) :=
  State.Does.spares (p := False) (l := False) (.evaluate .refl h) (.of_contexts (evaluate_contextOf s ch h))

/-- A promotion is carried out with no record of its head queued (R132). -/
theorem promote_spares {s : State} {ch : Ch} {h : HeadNo} (hr : (s.chan ch).hasRecordOf h = false) :
    s.Spares (s.promote ch h) := by
  refine State.Does.spares (p := False) (l := False) (.promote .refl h hr) fun g hg => promote_contextOf ?_
  rintro rfl
  rw [hr] at hg
  contradiction

/-! ### The shared operations -/

/-- From `s` to `t`, in both channels, a head with a record at the end had one at the start, and its active copy is the
same (R132). -/
def State.Serves (s t : State) : Prop := ∀ x, (s.chan x).Serves (t.chan x)

namespace State.Serves

variable {s0 s t : State}

theorem refl (s : State) : s.Serves s := fun _ => .of_heads (.refl _) rfl

theorem trans (h : s0.Serves s) (k : s.Serves t) : s0.Serves t := fun x => (h x).trans (k x)

/-- What settles, with the copies spared. -/
theorem settled (h : s0.Serves s) (hs : s.Settles t) (hc : s.Spares t) : s0.Serves t :=
  h.trans fun x => .of_stems (quiets_stems (hs.chan x)) (hc x)

/-- A change of the sequencers and the arbiter alone. -/
theorem view (h : s0.Serves s) (hv : t.sansLaser = s.sansLaser) : s0.Serves t :=
  h.trans fun x => .of_heads (by rw [sansLaser_chan_queue hv]; exact .refl _) (sansLaser_chan_heads hv x)

theorem onChan (h : s0.Serves s) (ch : Ch) {f : Channel → Channel} (hf : (s.chan ch).Serves (f (s.chan ch))) :
    s0.Serves (s.onChan ch f) := by
  refine h.trans fun x => ?_
  rcases ch_cases ch x with rfl | rfl
  · rwa [chan_onChan]
  · rw [chan_onChan_other]
    exact refl s _

/-- Records of the channel go, or are worked on. -/
theorem onQueue (h : s0.Serves s) (ch : Ch) {f : Channel → Channel} (hr : Stems (f (s.chan ch)).queue (s.chan ch).queue)
    (hh : (f (s.chan ch)).heads = (s.chan ch).heads) : s0.Serves (s.onChan ch f) :=
  h.onChan ch (.of_heads hr hh)

/-- A change of the channel outside its records and heads. -/
theorem beside (h : s0.Serves s) (ch : Ch) {f : Channel → Channel} (hq : (f (s.chan ch)).queue = (s.chan ch).queue)
    (hh : (f (s.chan ch)).heads = (s.chan ch).heads) : s0.Serves (s.onChan ch f) :=
  h.onQueue ch (by rw [hq]; exact .refl _) hh

/-- A change of shared fields. -/
theorem shared (h : s0.Serves s) (ha : t.a = s.a) (hb : t.b = s.b) : s0.Serves t := fun x => by
  rw [chan_congr ha hb]
  exact h x

theorem ite {q : Prop} [Decidable q] (ht : q → s0.Serves s) (he : ¬ q → s0.Serves t) :
    s0.Serves (if q then s else t) := by
  split
  · next hq => exact ht hq
  · next hq => exact he hq

theorem foldl {α : Type} {f : State → α → State} (hf : ∀ {s : State} (x : α), s0.Serves s → s0.Serves (f s x))
    (xs : List α) (h : s0.Serves s) : s0.Serves (xs.foldl f s) := by
  induction xs generalizing s with
  | nil => exact h
  | cons x xs ih => exact ih (hf x h)

theorem post (h : s0.Serves s) (i : Incident) : s0.Serves (s.post i) := fun x => by
  rw [chan_post]
  exact h x

theorem postAll (h : s0.Serves s) (is : List Incident) : s0.Serves (s.postAll is) := foldl (fun i h => h.post i) is h

theorem chosen (h : s0.Serves s) : s0.Serves s.chosen := h.shared rfl rfl

theorem eitherOrder (h : s0.Serves s) {f g : State → State} (hf : ∀ {s : State}, s0.Serves s → s0.Serves (f s))
    (hg : ∀ {s : State}, s0.Serves s → s0.Serves (g s)) : s0.Serves (s.eitherOrder f g) := by
  rcases eitherOrder_cases s f g with e | e <;> rw [e]
  · exact hg (hf h.chosen)
  · exact hf (hg h.chosen)

theorem retarget (h : s0.Serves s) (ch : Ch) : s0.Serves (s.retarget ch) := h.view (retarget_sansLaser s ch)

theorem directZero (h : s0.Serves s) (ch : Ch) : s0.Serves (s.directZero ch) := h.view (directZero_sansLaser s ch)

theorem settleRecheck (h : s0.Serves s) : s0.Serves s.settleRecheck := h.view (settleRecheck_sansLaser s)

theorem raiseFault (h : s0.Serves s) (i : Incident) : s0.Serves (s.raiseFault i) := by
  refine ite (fun _ => h.post i) fun _ => ?_
  have removed := (h.post i).onChan i.ch (f := fun c => c.removeAll (s.post i).now) (.of_empty rfl)
  exact ((removed.directZero i.ch).retarget i.ch).postAll _

theorem evaluate (h : s0.Serves s) (ch : Ch) (hd : HeadNo) : s0.Serves (s.evaluate ch hd) :=
  h.settled (evaluate_settles s ch hd) (evaluate_spares s ch hd)

/-- A pending copy or unload of a head with no record queued is carried out (R132). -/
theorem promote (h : s0.Serves s) {ch : Ch} {hd : HeadNo} (hr : (s.chan ch).hasRecordOf hd = false) :
    s0.Serves (s.promote ch hd) :=
  h.settled (promote_settles s ch hd) (promote_spares hr)

theorem announceEmpty (h : s0.Serves s) {ch : Ch} (hq : (s.chan ch).queue = []) : s0.Serves (s.announceEmpty ch) := by
  rcases announceEmpty_cases s ch with ⟨-, e⟩ | ⟨hd, -, e | e⟩ <;> rw [e]
  · exact h.retarget ch
  · refine (h.chosen.promote (State.Does.hasRecordOf_nil ?_ hd)).retarget ch
    rwa [chan_chosen]
  · exact h.chosen.retarget ch

/-! ### The fence window (R96 to R98) -/

theorem beginFence (h : s0.Serves s) (ch : Ch) : s0.Serves (s.beginFence ch) :=
  (h.onQueue ch (.of_subset fun _ => State.Does.keptAtFence_records) rfl).postAll _

theorem computeFence (h : s0.Serves s) (ch : Ch) : s0.Serves (s.computeFence ch) := h.beside ch rfl rfl

theorem openFenceAfter (h : s0.Serves s) (ch : Ch) (had : Bool) : s0.Serves (s.openFenceAfter ch had) := by
  have begun := h.beginFence ch
  refine ite (fun _ => h) fun _ => ite (fun hq => begun.announceEmpty ?_) fun _ => begun.retarget ch
  simpa using of_and_true hq

theorem openFence (h : s0.Serves s) (ch : Ch) : s0.Serves (s.openFence ch) := h.openFenceAfter ch _

theorem refence (h : s0.Serves s) (ch : Ch) : s0.Serves (s.refence ch) :=
  ite (fun _ => ite (fun _ => (h.computeFence ch).openFence ch) fun _ => h.computeFence ch) fun _ => h

theorem closeFence (h : s0.Serves s) (ch : Ch) : s0.Serves (s.closeFence ch) :=
  ite (fun _ => (h.beside ch rfl rfl).retarget ch) fun _ => h

theorem switchHead (h : s0.Serves s) (ch : Ch) (hd : Option HeadNo) : s0.Serves (s.switchHead ch hd) :=
  (((h.beside ch rfl rfl).directZero ch).retarget ch).refence ch

/-! ### Departures (R36, R44, R52) -/

theorem becomeHead (h : s0.Serves s) (ch : Ch) (b : Bool) : s0.Serves (s.becomeHead ch b) := by
  cases hq : (s.chan ch).queue with
  | nil => simpa [State.becomeHead, hq] using h
  | cons r rest =>
    refine view (h.onQueue ch ?_ rfl) (becomeHead_sansLaser s ch b r rest hq)
    have seated := Stems.onHead (f := fun r => r.asHead (s.chan ch).laser.code ((s.chan ch).coldLeadOf r) b) (s.chan ch)
      fun _ => ⟨rfl, rfl⟩
    rw [onHead_queue, hq] at seated
    rw [hq]
    exact seated

theorem afterDeparture (h : s0.Serves s) (ch : Ch) (b : Bool) : s0.Serves (s.afterDeparture ch b) :=
  ite (fun hq => h.announceEmpty (by simpa using hq)) fun _ => h.becomeHead ch b

theorem departHead (h : s0.Serves s) (ch : Ch) (b : Bool) (is : List Incident) : s0.Serves (s.departHead ch b is) :=
  ((h.onQueue ch (dropHead_stems _) (dropHead_heads _)).postAll is).afterDeparture ch b

end State.Serves

end Sys2Proof.Machine
end

section
/-! PROOFS. Settles O59: a context is promoted or unloaded with no record of its head queued, and an admitted record
joins the queue before any other record of the step leaves it (R132). -/

namespace Sys2Proof.Machine

/-! ### A rise of the write gate (R38, R41) -/

namespace State.Spares

variable {s u v : State}

theorem onChan (h : s.Spares u) (ch : Ch) {f : Channel → Channel}
    (hf : (f (u.chan ch)).heads = (u.chan ch).heads) : s.Spares (u.onChan ch f) := by
  intro x g hg
  rw [← h x g hg]
  rcases ch_cases ch x with rfl | rfl
  · rw [chan_onChan, contextOf_congr hf]
  · rw [chan_onChan_other]

theorem post (h : s.Spares u) (i : Incident) : s.Spares (u.post i) := fun x => by
  rw [chan_post]
  exact h x

theorem eitherOrder (h : s.Spares u) {f g : State → State} (hf : ∀ {u : State}, s.Spares u → s.Spares (f u))
    (hg : ∀ {u : State}, s.Spares u → s.Spares (g u)) : s.Spares (u.eitherOrder f g) := by
  have chosen : s.Spares u.chosen := fun x => by
    rw [chan_chosen]
    exact h x
  rcases eitherOrder_cases u f g with e | e <;> rw [e]
  · exact hg (hf chosen)
  · exact hf (hg chosen)

theorem view (h : s.Spares u) (hv : v.sansLaser = u.sansLaser) : s.Spares v := fun x g hg =>
  (congrFun (contextOf_congr (sansLaser_chan_heads hv x)) g).trans (h x g hg)

/-- The promotion that the emptied queue has called for, carried out while the records are still those of `s` (R132). -/
theorem settleStore (h : s.Spares u) (hq : ∀ x, (u.chan x).queue = (s.chan x).queue) (ch : Ch) :
    s.Spares (u.settleStore ch) := by
  unfold State.settleStore
  split
  · split
    · next hd _ hdue =>
      simp only [State.promotionDue, Bool.and_eq_true, Bool.not_eq_true'] at hdue
      intro x g hg
      refine (promote_spares hdue.2 x g ?_).trans (h x g hg)
      rwa [Channel.hasRecordOf, hq]
    · exact h
  · exact h

theorem becomeHead (h : s.Spares u) (ch : Ch) (b : Bool) : s.Spares (u.becomeHead ch b) := by
  cases hq : (u.chan ch).queue with
  | nil => simpa [State.becomeHead, hq] using h
  | cons r rest => exact (h.onChan ch rfl).view (becomeHead_sansLaser u ch b r rest hq)

theorem enqueue (h : s.Spares u) (ch : Ch) (r : Rec) : s.Spares (u.enqueue ch r) := by
  unfold State.enqueue
  dsimp only
  split
  · exact (h.onChan ch rfl).becomeHead ch _
  · split
    · exact (h.onChan ch (by exact dropHead_heads _)).becomeHead ch _
    · exact h.onChan ch rfl

theorem answerRise (h : s.Spares u) (ch : Ch) (n : Seq) : s.Spares (u.answerRise ch n) := by
  unfold State.answerRise
  split
  · exact (h.onChan ch rfl).enqueue ch _
  · exact (h.onChan ch rfl).post _

theorem cutFrame (h : s.Spares u) (ch : Ch) (n : Seq) : s.Spares (u.cutFrame ch n) := by
  unfold State.cutFrame
  dsimp only
  split
  · exact h.onChan ch rfl
  · exact (h.onChan ch rfl).post _

end State.Spares

/-- A rise of the write gate spares the copies of the heads that have records: the one promotion it can find waiting is
of a head that has none (R132). -/
theorem writeRise_spares (s : State) (ch : Ch) : s.Spares (s.writeRise ch) := by
  have risen : s.Spares (s.onChan ch fun c => { c with wg := filterAt true, nextSeq := (s.chan ch).nextSeq + 1 }) :=
    .onChan (fun _ _ _ => rfl) ch rfl
  have settled := risen.settleStore (fun x => by rcases ch_cases ch x with rfl | rfl <;> simp) ch
  unfold State.writeRise
  dsimp only
  split
  · exact settled.eitherOrder (fun h => h.cutFrame ch _) fun h => h.answerRise ch _
  · exact (settled.cutFrame ch _).answerRise ch _

/-! ### What the gates and the write clock serve -/

namespace State.Serves

variable {s0 s t : State}

theorem writeFall (h : s0.Serves s) (ch : Ch) : s0.Serves (s.writeFall ch) := h.onQueue ch (.map _ fun _ => ⟨rfl, rfl⟩) rfl

theorem readRise (h : s0.Serves s) (ch : Ch) : s0.Serves (s.readRise ch) := (h.beside ch rfl rfl).retarget ch

theorem readFall (h : s0.Serves s) (ch : Ch) : s0.Serves (s.readFall ch) := (h.beside ch rfl rfl).retarget ch

theorem encroach (h : s0.Serves s) (ch : Ch) : s0.Serves (s.encroach ch) := by
  unfold State.encroach
  dsimp only
  split
  · refine ite (fun _ => post (h.onQueue ch ?_ ?_) _) fun _ => h.beside ch rfl rfl
    · exact dropHead_stems ((s.chan ch).dropGate s.now)
    · exact dropHead_heads _
  · exact h.beside ch rfl rfl

theorem servoFence (h : s0.Serves s) (ch : Ch) : s0.Serves (s.servoFence ch) :=
  ite (fun _ => ite (fun _ => (h.encroach ch).afterDeparture ch _) fun _ => h.encroach ch)
    fun _ => (h.encroach ch).openFenceAfter ch _

theorem capture (h : s0.Serves s) (ch : Ch) : s0.Serves (s.capture ch) := by
  unfold State.capture
  dsimp only
  split
  · exact h.beside ch rfl rfl
  · exact (h.beside ch rfl rfl).refence ch
  · exact ite (fun _ => (h.beside ch rfl rfl).refence ch) fun _ => (h.beside ch rfl rfl).post _

theorem servoRise (h : s0.Serves s) (ch : Ch) : s0.Serves (s.servoRise ch) := by
  have hs : s0.Serves (s.onChan ch fun c => { c with sg := filterAt true }) := h.beside ch rfl rfl
  exact ite (fun _ => hs.eitherOrder (fun h => h.servoFence ch) fun h => h.capture ch)
    fun _ => (hs.servoFence ch).capture ch

theorem servoFall (h : s0.Serves s) (ch : Ch) : s0.Serves (s.servoFall ch) := (h.beside ch rfl rfl).closeFence ch

theorem takeNext (h : s0.Serves s) : s0.Serves s.takeNext := by
  rw [takeNext_eq]
  exact h.shared rfl rfl

theorem join (h : s0.Serves s) (e : Entry) : s0.Serves (s.join e) := by
  have hs : s0.Serves { s with directives := s.directives ++ [e] } := h.shared rfl rfl
  exact ite (fun _ => hs.takeNext) fun _ => hs

theorem offer (h : s0.Serves s) (ch : Ch) (e : Entry) : s0.Serves (s.offer ch e) := by
  have marked : s0.Serves { s with overrun := true } := h.shared rfl rfl
  have kept : s0.Serves (s.keepClear ch e) := ite (fun _ => h) fun _ => h.beside ch rfl rfl
  exact ite (fun _ => ite (fun _ => h) fun _ => ite (fun _ => ite (fun _ => h) fun _ => h.join e) fun _ => kept)
    fun _ => ite (fun _ => h.join e) fun _ => marked.post _

theorem handSymbol (h : s0.Serves s) (ch : Ch) (b : Bool) : s0.Serves (s.handSymbol ch b) := by
  unfold State.handSymbol State.received
  dsimp only
  split
  · exact h.beside ch rfl rfl
  · exact (h.beside ch rfl rfl).post _
  · exact (h.beside ch rfl rfl).offer ch _

theorem joinClear (h : s0.Serves s) (ch : Ch) : s0.Serves (s.joinClear ch) := by
  unfold State.joinClear
  split
  · exact (h.beside ch rfl rfl).join _
  · exact h

theorem completeRate (h : s0.Serves s) (ch : Ch) : s0.Serves (s.completeRate ch) := by
  refine h.beside ch ?_ ?_ <;> split <;> rfl

theorem abandonRate (h : s0.Serves s) (ch : Ch) : s0.Serves (s.abandonRate ch) :=
  ite (fun _ => h.beside ch rfl rfl) fun _ => (h.beside ch rfl rfl).post _

/-- The head record is worked on. -/
theorem onHead (h : s0.Serves s) (ch : Ch) (f : Rec → Rec)
    (hf : ∀ r, (f r).head = r.head ∧ (f r).writeCode = r.writeCode) {g : Channel → Channel}
    (hq : (g (s.chan ch)).queue = ((s.chan ch).onHead f).queue)
    (hh : (g (s.chan ch)).heads = ((s.chan ch).onHead f).heads) : s0.Serves (s.onChan ch g) :=
  h.onQueue ch (by rw [hq]; exact .onHead _ hf) (hh.trans (onHead_heads _ _))

theorem releaseHead (h : s0.Serves s) (ch : Ch) : s0.Serves (s.releaseHead ch) := by
  unfold State.releaseHead
  dsimp only
  split
  · exact h
  · exact ite (fun _ => h.departHead ch _ _) fun _ => h.onHead ch (fun r => r.asReleased _) (fun _ => ⟨rfl, rfl⟩) rfl rfl

theorem afterSymbol (h : s0.Serves s) (ch : Ch) (r : Rec) : s0.Serves (s.afterSymbol ch r) := by
  have marked : s0.Serves (s.onChan ch fun c => { c with pwgFallDue := true }) := h.beside ch rfl rfl
  have normal : s0.Serves (s.normalEnd ch) := ite (fun _ => marked.departHead ch _ _)
    fun _ => marked.onHead ch (fun r => r.enterTail s.now) (fun _ => ⟨rfl, rfl⟩) rfl rfl
  have truncated : s0.Serves (s.truncateHead ch r) :=
    (h.onHead ch (fun r => r.truncate.enterTail s.now) (fun _ => ⟨rfl, rfl⟩) rfl rfl).post _
  exact ite (fun _ => normal) fun _ => ite (fun _ => truncated) fun _ => h

theorem releaseEdge (h : s0.Serves s) (ch : Ch) : s0.Serves (s.releaseEdge ch) := by
  have taken : s0.Serves (s.onChan ch fun c => { c with releaseTaken := true }) := h.beside ch rfl rfl
  refine ite (fun _ => (ite (fun _ => taken.releaseHead ch) fun _ => taken).beside ch rfl rfl) fun _ => ?_
  split
  · unfold State.sendSymbol
    split
    · exact taken
    · exact (taken.onHead ch Rec.sendOne (fun _ => ⟨rfl, rfl⟩) rfl rfl).afterSymbol ch _
  · exact taken.beside ch rfl rfl

theorem overflowAbort (h : s0.Serves s) (ch : Ch) (r : Rec) : s0.Serves (s.overflowAbort ch r) := by
  have newest (c : Channel) : Stems (c.dropNewest r).queue c.queue := .of_subset fun _ => List.mem_of_mem_dropLast
  have dropped : s0.Serves
      (s.onChan ch fun c => (if r.state == .releasing then c.dropGate s.now else c).dropNewest r) := by
    cases r.state == .releasing with
    | true => exact h.onQueue ch (newest ((s.chan ch).dropGate s.now)) rfl
    | false => exact h.onQueue ch (newest _) rfl
  have told := dropped.post (r.incident ch .delayOverflow r.symOut)
  refine ite (fun hq => (told.beside ch rfl rfl).announceEmpty ?_) fun _ => told
  rw [chan_onChan]
  simpa using hq

theorem routeSymbol (h : s0.Serves s) (ch : Ch) (b : Bool) : s0.Serves (s.routeSymbol ch b) := by
  unfold State.routeSymbol State.storeSymbol State.discardSymbol
  split
  · exact h.handSymbol ch b
  · split
    · exact h
    · exact ite (fun _ => h.onQueue ch (.onLast _ fun _ => ⟨rfl, rfl⟩) rfl) fun _ => h.overflowAbort ch _
  · split
    · exact h
    · exact h.onQueue ch (.onLast _ fun _ => ⟨rfl, rfl⟩) rfl

theorem intakeEdge (h : s0.Serves s) (ch : Ch) (wd wg sg rg : Bool) : s0.Serves (s.intakeEdge ch wd wg sg rg) := by
  have advanced : s0.Serves (s.advanceHold ch wd) := by
    unfold State.advanceHold
    split
    · exact (h.beside ch rfl rfl).routeSymbol ch _
    · exact h.beside ch rfl rfl
  have counted : s0.Serves ((s.advanceHold ch wd).rateEdge ch) :=
    (ite (fun _ => advanced.abandonRate ch) fun _ => advanced).beside ch rfl rfl
  exact counted.beside ch rfl rfl

/-! ### What the heat, the wedge timer and the link relay serve -/

theorem heatChannel (h : s0.Serves s) (ch : Ch) : s0.Serves (s.heatChannel ch) :=
  h.onChan ch (.of_stems (.refl _) (.of_contexts (contextOf_heated _ _ _)))

theorem takeHeat (h : s0.Serves s) : s0.Serves s.takeHeat := by
  have evaluated {u : State} (ch : Ch) (h : s0.Serves u) : s0.Serves (u.evaluateAll ch) :=
    foldl (fun hd h => h.evaluate ch hd) _ h
  have parked {u : State} (ch : Ch) (h : s0.Serves u) : s0.Serves (u.advancePark ch) :=
    ite (fun _ => h.beside ch rfl rfl) fun _ => h
  exact parked .B (parked .A (evaluated .B (evaluated .A ((h.heatChannel .A).heatChannel .B))))

theorem coast (h : s0.Serves s) (ch : Ch) : s0.Serves (s.coast ch) := by
  have moved : s0.Serves ((s.onChan ch fun c => { c with wedge := c.wedge.coast }).computeFence ch) :=
    (h.beside ch rfl rfl).computeFence ch
  exact ite (fun _ => moved.closeFence ch) fun _ => ite (fun _ => moved.openFence ch) fun _ => moved

theorem takeHeader (h : s0.Serves s) (ch : Ch) (header : BitVec 8) (fall : BitVec 31) :
    s0.Serves (s.takeHeader ch header fall) := by
  have taken : s0.Serves (s.onChan ch fun c => c.onRelay fun r => { r with taken := headerBits header }) := h.beside ch rfl rfl
  exact ite (fun _ => ite (fun _ => (taken.beside ch rfl rfl).beside ch rfl rfl) fun _ => (taken.beside ch rfl rfl).beside ch rfl rfl)
    fun _ => taken.beside ch rfl rfl

theorem updateHead (h : s0.Serves s) (ch : Ch) (bits : List Bool) : s0.Serves (s.updateHead ch bits) :=
  ite (fun _ => (h.beside ch rfl rfl).switchHead ch _) fun _ => ((h.beside ch rfl rfl).post _).switchHead ch _

theorem endFrame (h : s0.Serves s) (ch : Ch) (all : List Bool) : s0.Serves (s.endFrame ch all) := by
  unfold State.endFrame
  dsimp only
  split
  · exact h.beside ch rfl rfl
  · exact h.beside ch rfl rfl
  · exact h.beside ch rfl rfl
  · exact ite (fun _ => h.beside ch rfl rfl) fun _ => ite (fun _ => h.updateHead ch all) fun _ => h.beside ch rfl rfl
  · exact ite (fun _ => h.beside ch rfl rfl) fun _ => h.beside ch rfl rfl
  · exact h
  · exact h

theorem forceSwitch (h : s0.Serves s) (ch : Ch) : s0.Serves (s.forceSwitch ch) := by
  have removed : s0.Serves (s.onChan ch fun c => c.removeAll s.now) := h.onChan ch (.of_empty rfl)
  unfold State.forceSwitch
  dsimp only
  split
  · refine (removed.post _).announceEmpty ?_
    rw [chan_post, chan_onChan]
    rfl
  · exact removed

/-! ### What the reports, a CLEAR and the directive engine serve -/

theorem storeDeferred (h : s0.Serves s) (d : Deferred) : s0.Serves (s.storeDeferred d) :=
  ite (fun _ => h.shared rfl rfl) fun _ => h

theorem checkLockout (h : s0.Serves s) (ch : Ch) (was : Bool) : s0.Serves (s.checkLockout ch was) := by
  have examined : s0.Serves (s.examine ch) := by
    refine foldl (fun {s} hd h => ?_) allHeads h
    unfold State.examineHead
    dsimp only
    split
    · exact h
    · exact ite (fun _ => h.post _) fun _ => h
  exact ite (fun _ => ite (fun _ => examined) fun _ => (examined.beside ch rfl rfl).retarget ch) fun _ => h

theorem applyClear (h : s0.Serves s) (e : Entry) : s0.Serves (s.applyClear e) := by
  obtain ⟨ha, hb, -⟩ := storeAllDeferred_same (s.removeIncidents (e.word 1).toNat)
  have stored : s0.Serves (s.removeIncidents (e.word 1).toNat).storeAllDeferred := h.shared ha hb
  have checked : s0.Serves ((s.removeIncidents (e.word 1).toNat).storeAllDeferred.checkLockouts s) := by
    obtain ⟨first, t, ht, eq⟩ := checkLockouts_cases (s.removeIncidents (e.word 1).toNat).storeAllDeferred s
    have begun : s0.Serves t := by
      rcases ht with rfl | rfl
      · exact stored
      · exact stored.chosen
    rw [eq]
    exact (begun.checkLockout _ _).checkLockout _ _
  have cleared : s0.Serves (s.clearIncidents (e.word 1).toNat) := ite (fun _ => checked.shared rfl rfl) fun _ => checked
  exact cleared.shared rfl rfl

theorem setPending (h : s0.Serves s) (ch : Ch) (hd : HeadNo) (p : Pending) : s0.Serves (s.setPending ch hd p) := by
  have written : s0.Serves (s.onChan ch fun c => c.setHead hd { c.headAt hd with pending := p }) :=
    h.onChan ch (.of_stems (.refl _) (.of_contexts (contextOf_setHead_of_active rfl)))
  exact ite (fun _ => written) fun hr => written.promote (by simpa using hr)

theorem applyContext (h : s0.Serves s) (e : Entry) : s0.Serves (s.applyContext e) := by
  have hs : s0.Serves (if reasonOpen e then s.chosen else s) := ite (fun _ => h.chosen) fun _ => h
  unfold State.applyContext State.loadContext
  dsimp only
  split
  · exact hs.post _
  · exact setPending (ite (fun _ => hs) fun _ => hs.post _) _ _ _

theorem applyLevels (h : s0.Serves s) (e : Entry) : s0.Serves (s.applyLevels e) := by
  have hs := h.settleRecheck
  exact ite (fun _ => hs.post _) fun _ => ite (fun _ => hs.post _) fun _ => ite (fun _ => hs.shared rfl rfl) fun _ => hs.shared rfl rfl

theorem applyGlobal (h : s0.Serves s) (e : Entry) : s0.Serves (s.applyGlobal e) := by
  have hs := h.settleRecheck
  exact ite (fun _ => hs.post _) fun _ => ite (fun _ => hs.post _) fun _ => ite (fun _ => hs.shared rfl rfl) fun _ => hs.shared rfl rfl

theorem recheckHead (h : s0.Serves s) (ch : Ch) : s0.Serves (s.recheckHead ch) := by
  unfold State.recheckHead
  dsimp only
  split
  · exact ite (fun _ => (h.post _).switchHead ch _) fun _ => h
  · exact h

theorem applySetup (h : s0.Serves s) (e : Entry) : s0.Serves (s.applySetup e) :=
  ite (fun _ => ite (fun _ => h.chosen.post _) fun _ => h.post _) fun _ => ite (fun _ => h.post _) fun _ =>
    ((h.beside _ rfl rfl).view (State.Does.parkOff_view _ _)).recheckHead _

theorem resetChannel (h : s0.Serves s) (ch : Ch) : s0.Serves (s.resetChannel ch) := by
  have hs : s0.Serves ((s.onChan ch fun c => c.resetBlocks s.now).directZero ch) :=
    (h.onChan ch (.of_empty rfl)).directZero ch
  refine ite (fun _ => hs.retarget ch) fun _ => hs.announceEmpty ?_
  rw [sansLaser_chan_queue (directZero_sansLaser _ _), chan_onChan]
  rfl

theorem applyForce (h : s0.Serves s) (e : Entry) : s0.Serves (s.applyForce e) :=
  ite (fun _ => (h.beside _ rfl rfl).retarget _) fun _ => h.post _

/-- An application serves when its effect does (R156, R157). -/
theorem applyKind (h : s0.Serves s) (d : Directive) (pick : Entry → Bool) {effect : State → Entry → State}
    (he : ∀ e, s0.Serves (effect s e)) : s0.Serves (s.applyKind d pick effect) := by
  unfold State.applyKind State.apply
  split
  · next e _ =>
    refine takeNext ?_
    split
    · exact h.post _
    · exact he e
  · exact h

end State.Serves

/-! ### What every command keeps (R132) -/

/-- From `s` to `t` first the copies of the heads with records are spared, and then no head comes by a record: a head
that has one at the start and at the end has the same active copy. -/
def State.Abides (s t : State) : Prop := ∃ u, s.Spares u ∧ u.Serves t

theorem State.Serves.abides {s t : State} (h : s.Serves t) : s.Abides t := ⟨s, fun _ _ _ => rfl, h⟩

theorem State.Abides.serves {s t v : State} (h : s.Abides t) (k : t.Serves v) : s.Abides v := by
  obtain ⟨u, hs, hu⟩ := h
  exact ⟨u, hs, hu.trans k⟩

theorem State.Abides.contextOf {s t : State} (h : s.Abides t) {ch : Ch} {g : HeadNo}
    (hs : (s.chan ch).hasRecordOf g = true) (ht : (t.chan ch).hasRecordOf g = true) :
    (t.chan ch).contextOf g = (s.chan ch).contextOf g := by
  obtain ⟨u, spared, served⟩ := h
  exact (served ch g ht).2.trans (spared ch g hs)

theorem writeRise_abides (s : State) (ch : Ch) : s.Abides (s.writeRise ch) := ⟨_, writeRise_spares s ch, .refl _⟩

/-- The write gate's edge is the first to be taken, so that no record leaves before one joins (log entry 28). -/
theorem settleEdges_abides (s : State) (ch : Ch) : s.Abides (s.settleEdges ch) := by
  have first : s.Abides (s.settleGate (s.chan ch).wg (fun t => t.writeRise ch) fun t => t.writeFall ch) := by
    unfold State.settleGate
    split
    · exact (State.Serves.refl s).abides
    · split
      · exact ((State.Serves.refl s).writeFall ch).abides
      · exact writeRise_abides s ch
  have gate {u v : State} (f : Filter) {rise fall : State → State} (h : u.Serves v) (hr : u.Serves (rise v))
      (hf : u.Serves (fall v)) : u.Serves (v.settleGate f rise fall) :=
    .ite (fun _ => h) fun _ => .ite (fun _ => hf) fun _ => hr
  unfold State.settleEdges
  dsimp only
  generalize s.settleGate _ _ _ = s1 at first ⊢
  have r := State.Serves.refl s1
  have servo := gate (rise := fun t => t.servoRise ch) (fall := fun t => t.servoFall ch) (s1.chan ch).sg r
    (r.servoRise ch) (r.servoFall ch)
  generalize s1.settleGate _ _ _ = s2 at servo ⊢
  have read := gate (rise := fun t => t.readRise ch) (fall := fun t => t.readFall ch) (s2.chan ch).rg servo
    (servo.readRise ch) (servo.readFall ch)
  exact first.serves (.ite (fun _ => read.completeRate ch) fun _ => read)

/-- A command whose event may not exist serves when its effect does (log entry 1). -/
theorem State.Serves.guarded {s t : State} {q : Prop} [Decidable q] (h : q → s.Serves t) :
    s.Serves (if q then t else s) := .ite h fun _ => .refl s


/-- A command whose event may not exist abides when its effect does (log entry 1). -/
theorem State.Abides.guarded {s t : State} {q : Prop} [Decidable q] (h : s.Abides t) :
    s.Abides (if q then t else s) := by
  split
  · exact h
  · exact (State.Serves.refl s).abides

theorem execSymbolIntake_abides (ch : Ch) (wd wg sg rg : Bool) (s : State) :
    ∃ t, execSymbolIntake ch wd wg sg rg s = .next t ∧ s.Abides t := by
  have r := State.Serves.refl (s.settleEdges ch)
  exact ⟨_, rfl, .guarded ((settleEdges_abides s ch).serves
    (.intakeEdge (.ite (fun _ => r) fun _ => r.releaseEdge ch) ch wd wg sg rg))⟩

theorem execLinkFrameStart_serves (ch : Ch) (s : State) : ∃ t, execLinkFrameStart ch s = .next t ∧ s.Serves t := by
  have low : s.Serves (s.onChan ch fun c => { c with lks := false }) := .beside (.refl s) ch rfl rfl
  exact ⟨_, rfl, .ite (fun _ => .ite (fun _ => low.beside ch rfl rfl) fun _ => .ite (fun _ => low.beside ch rfl rfl) fun _ => low)
    fun _ => low⟩

theorem execLinkFrameEnd_serves (ch : Ch) (bits : List Bool) (s : State) :
    ∃ t, execLinkFrameEnd ch bits s = .next t ∧ s.Serves t := by
  have high : s.Serves (s.onChan ch fun c => { c with lks := true }) := .beside (.refl s) ch rfl rfl
  exact ⟨_, rfl, .ite (fun _ => .ite (fun _ => high.beside ch rfl rfl) fun _ => high.endFrame ch _) fun _ => high⟩

theorem execLrdyFall_serves (ch : Ch) (s : State) : ∃ t, execLrdyFall ch s = .next t ∧ s.Serves t := by
  have low : s.Serves (s.onChan ch fun c => { c with lrdy := false }) := .beside (.refl s) ch rfl rfl
  refine ⟨_, rfl, ?_⟩
  split
  · exact low.raiseFault _
  · exact low

theorem execHeatTick_serves (s : State) : ∃ t, execHeatTick s = .next t ∧ s.Serves t := by
  have marked : s.Serves { s with heatTaken := true } := .shared (.refl s) rfl rfl
  exact ⟨_, rfl, .guarded fun _ => .ite (fun _ => marked) fun _ => marked.takeHeat⟩

theorem execUnknownKind_serves (s : State) : ∃ t, execUnknownKind s = .next t ∧ s.Serves t := by
  refine ⟨_, rfl, ?_⟩
  split
  · exact .guarded fun _ => .takeNext (.post (.refl s) _)
  · exact .refl s

theorem execDeferredIncidentStore_serves (ch : Ch) (s : State) :
    ∃ t, execDeferredIncidentStore ch s = .next t ∧ s.Serves t := by
  refine ⟨_, rfl, ?_⟩
  split
  · exact .storeDeferred (.refl s) _
  · exact .refl s

/-- The commands that take a recognised edge of the write gate, and so can admit a record (R3, R38). -/
def admits : Instr → Bool
  | .writeGateRise _ | .symbolIntake .. | .symbolRelease _ => true
  | _ => false

/-- A command that admits no record and is no reset brings no head a record, and no other copy to one that keeps
records. -/
theorem exec_serves (c : Instr) (s : State) (hc : isReset c = false) (ha : admits c = false) :
    ∃ t, exec c s = .next t ∧ s.Serves t := by
  have r := State.Serves.refl s
  cases c with
  | powerOn | rstnLow | resetRelease => simp [isReset] at hc
  | writeGateRise | symbolIntake | symbolRelease => simp [admits] at ha
  | writeGateFall ch => exact ⟨_, rfl, .guarded fun _ => r.writeFall ch⟩
  | release ch => exact ⟨_, rfl, .guarded fun _ => r.releaseHead ch⟩
  | tailExpiry ch => exact ⟨_, rfl, .guarded fun _ => r.departHead ch _ _⟩
  | promotion ch head =>
    refine ⟨_, rfl, .guarded fun hd => r.promote ?_⟩
    simp only [State.promotionDue, Bool.and_eq_true, Bool.not_eq_true'] at hd
    exact hd.2
  | readyTimeout ch => exact ⟨_, rfl, .guarded fun _ => r.departHead ch _ _⟩
  | lrdyRise ch => exact ⟨_, rfl, r.beside ch rfl rfl⟩
  | lrdyFall ch => exact execLrdyFall_serves ch s
  | pfiChange ch level => exact ⟨_, rfl, r.beside ch rfl rfl⟩
  | rampStep ch => exact ⟨_, rfl, .guarded fun _ => r.view (takeStep_sansLaser s ch)⟩
  | stepGrant => exact ⟨_, rfl, r.settleRecheck⟩
  | rampComplete ch =>
    exact ⟨_, rfl, .guarded fun _ => ((r.beside ch rfl rfl).view (startReady_sansLaser _ ch)).view (leaveIdle_sansLaser _ ch)⟩
  | heatTick => exact execHeatTick_serves s
  | parkExpiry ch => exact ⟨_, rfl, .guarded fun _ => (r.beside ch rfl rfl).retarget ch⟩
  | readGateRise ch => exact ⟨_, rfl, .guarded fun _ => r.readRise ch⟩
  | readGateFall ch => exact ⟨_, rfl, .guarded fun _ => r.readFall ch⟩
  | prgRise ch => exact ⟨_, rfl, .guarded fun _ => r.beside ch rfl rfl⟩
  | servoGateRise ch => exact ⟨_, rfl, .guarded fun _ => r.servoRise ch⟩
  | servoGateFall ch => exact ⟨_, rfl, .guarded fun _ => r.servoFall ch⟩
  | fenceTickReached ch => exact ⟨_, rfl, .guarded fun _ => r.openFence ch⟩
  | acquisitionAbandon ch => exact ⟨_, rfl, .guarded fun _ => r.beside ch rfl rfl⟩
  | wedgeMissExpiry ch =>
    exact ⟨_, rfl, .guarded fun _ => .ite (fun _ => r.coast ch) fun _ => ((r.beside ch rfl rfl).post _).closeFence ch⟩
  | rateWindowComplete ch => exact ⟨_, rfl, .guarded fun _ => r.completeRate ch⟩
  | rateWindowAbandon ch => exact ⟨_, rfl, .guarded fun _ => r.abandonRate ch⟩
  | linkFrameStart ch => exact execLinkFrameStart_serves ch s
  | linkHeaderTaken ch header fall => exact ⟨_, rfl, .guarded fun _ => r.takeHeader ch header fall⟩
  | catchUpComplete ch =>
    exact ⟨_, rfl, .guarded fun _ => .ite (fun _ => r.updateHead ch _) fun _ => r.beside ch rfl rfl⟩
  | linkFrameEnd ch bits => exact execLinkFrameEnd_serves ch bits s
  | heldFrameReplay ch bits fall => exact ⟨_, rfl, .guarded fun _ => r.beside ch rfl rfl⟩
  | replayComplete ch => exact ⟨_, rfl, .guarded fun _ => (r.beside ch rfl rfl).updateHead ch _⟩
  | waitingFrameRelease ch => exact ⟨_, rfl, .guarded fun _ => r.beside ch rfl rfl⟩
  | holdLimitExpiry ch => exact ⟨_, rfl, .guarded fun _ => r.forceSwitch ch⟩
  | directiveFrame ch symbols => exact ⟨_, rfl, .guarded fun _ => .foldl (fun b h => h.handSymbol ch b) symbols r⟩
  | waitingClearJoin ch => exact ⟨_, rfl, .guarded fun _ => r.joinClear ch⟩
  | headContext => exact ⟨_, rfl, r.applyKind _ _ r.applyContext⟩
  | releaseContext => exact ⟨_, rfl, r.applyKind _ _ fun e => .ite (fun _ => r) fun _ => r.setPending _ _ _⟩
  | levelTable => exact ⟨_, rfl, r.applyKind _ _ r.applyLevels⟩
  | channelSetup => exact ⟨_, rfl, r.applyKind _ _ r.applySetup⟩
  | globalSetup => exact ⟨_, rfl, r.applyKind _ _ r.applyGlobal⟩
  | report => exact ⟨_, rfl, r.applyKind _ _ fun _ => .ite (fun _ => r.shared rfl rfl) fun _ => r.shared rfl rfl⟩
  | clear => exact ⟨_, rfl, r.applyKind _ _ r.applyClear⟩
  | deferredIncidentStore ch => exact execDeferredIncidentStore_serves ch s
  | channelReset => exact ⟨_, rfl, r.applyKind _ _ fun e => r.resetChannel e.target⟩
  | forceLevel => exact ⟨_, rfl, r.applyKind _ _ r.applyForce⟩
  | forceEnd => exact ⟨_, rfl, r.applyKind _ _ fun e => (r.beside e.target rfl rfl).retarget e.target⟩
  | unknownKind => exact execUnknownKind_serves s
  | reportFrameEnd => exact ⟨_, rfl, .guarded fun _ => .ite (fun _ => r.shared rfl rfl) fun _ => r.shared rfl rfl⟩

/-- A reset leaves no record (R15). -/
theorem exec_reset_serves {c : Instr} {s t : State} (hc : isReset c = true) (h : exec c s = .next t) : s.Serves t := by
  rcases exec_reset_chan hc h with rfl | ⟨-, -, hchan⟩
  · exact .refl t
  · intro x
    obtain ⟨now, phase, accums, e, -⟩ := hchan x
    rw [e]
    exact .of_empty rfl

theorem exec_abides {c : Instr} {s t : State} (h : exec c s = .next t) : s.Abides t := by
  have run (k : ∃ u, exec c s = .next u ∧ s.Abides u) : s.Abides t := by
    obtain ⟨u, hu, hs⟩ := k
    cases hu.symm.trans h
    exact hs
  cases ha : admits c with
  | true =>
    cases c with
    | writeGateRise ch => exact run ⟨_, rfl, .guarded (writeRise_abides s ch)⟩
    | symbolIntake ch wd wg sg rg => exact run (execSymbolIntake_abides ch wd wg sg rg s)
    | symbolRelease ch =>
      exact run ⟨_, rfl, .guarded ((settleEdges_abides s ch).serves (.releaseEdge (.refl _) ch))⟩
    | _ => simp [admits] at ha
  | false =>
    cases hc : isReset c with
    | true => exact (exec_reset_serves hc h).abides
    | false =>
      obtain ⟨u, hu, hs⟩ := exec_serves c s hc ha
      exact run ⟨u, hu, hs.abides⟩

/-- Settles O59. -/
theorem contextLaw : Obligations.ContextLaw := by
  intro s t ch h hstep
  refine step_law (Pre := fun u => ∀ x, u.chan x = s.chan x)
    (Post := fun u => (s.chan ch).hasRecordOf h = true → (u.chan ch).hasRecordOf h = true →
      (u.chan ch).contextOf h = (s.chan ch).contextOf h)
    (fun u v hu x => (chan_with_pending u v x).trans (hu x)) (fun c u v hu hv hs => ?_) (fun u hu _ _ => ?_)
    (fun _ => rfl) hstep
  · rw [← hu ch] at hs ⊢
    exact (exec_abides hv).contextOf hs
  · rw [tick_chan, ← hu ch]
    rfl

end Sys2Proof.Machine
end

section
/-! PROOFS. Settles O45: HEAD CONTEXT and RELEASE CONTEXT (R118, R121, R126 to R132, R158). -/

namespace Sys2Proof.Machine

/-! ### The payload of a HEAD CONTEXT (R126 to R128, R164) -/

theorem countsMatch_iff (e : Entry) : countsMatch e = true ↔
    e.payload.length = 10 + (e.word 10).toNat / 256 % 4 + 2 * ((e.word 10).toNat % 8) := by
  have hbands : bandCount e = (e.word 10).toNat % 8 := field_low _ 2
  rw [countsMatch, beq_iff_eq, hbands]
  rfl

theorem rangesApart_iff (rs : List Range) :
    rangesApart rs = true ↔ rs.Pairwise fun r q => r.hi < q.lo ∨ q.hi < r.lo := by
  induction rs with
  | nil => simp [rangesApart]
  | cons r rest ih => simp [rangesApart, Range.apart, ih]

/-- Bounds that rise from one to the next rise from each to every later one. -/
theorem boundsRise_iff (low : Nat) (bs : List Band) :
    boundsRise low bs = true ↔ (low :: bs.map fun b => b.bound).Pairwise fun a b => a < b := by
  rw [← List.isChain_iff_pairwise]
  induction bs generalizing low with
  | nil => simp [boundsRise]
  | cons b rest ih => simp [boundsRise, ih]

/-- What the store asks of a payload beside its length (R126 to R128). -/
theorem contextOk_iff (x : Context) (n m : Nat) : contextOk x n m = true ↔
    n ≤ 2 ∧ 1 ≤ m ∧ m ≤ 6 ∧ (∀ r ∈ x.ranges, 1 ≤ r.lo ∧ r.lo ≤ r.hi ∧ r.hi ≤ 62) ∧
      x.ranges.Pairwise (fun r q => r.hi < q.lo ∨ q.hi < r.lo) ∧
      (0 :: x.bands.map fun b => b.bound).Pairwise (fun a b => a < b) ∧
      (∀ b ∈ x.bands, b.code ≠ 0 ∧ belowRanges x.ranges b.code ≠ 0) ∧
      x.releaseMark < x.holdMark ∧ x.holdMark ≤ x.tripMark := by
  simp only [contextOk, Range.ok, writeCodesOk, Bool.and_eq_true, decide_eq_true_eq, List.all_eq_true, bne_iff_ne,
    rangesApart_iff, boundsRise_iff, and_assoc]

/-! ### The two refusals (R158) -/

/-- The refusal of a frame that names a head is its record in the report (R157, R164). -/
theorem refuse_named {e : Entry} {reason : RefuseReason} (s : State) (hk : e.kind = 1) :
    s.refuse e true reason = s.post (refusedFrame e reason.value) := by
  have hd : min 65535 (reason.value * 256 + e.kind.toNat) = reason.value * 256 + e.kind.toNat := by
    have := e.kind.isLt
    cases reason <;> simp only [RefuseReason.value] <;> omega
  simp only [State.refuse, refusalOf, incident, refusedFrame, if_pos (.inl hk : e.kind = 1#6 ∨ e.kind = 2#6), hd]
  rfl

section
variable {s : State} {e : Entry}

theorem applyContext_sound (hc : countsMatch e = true)
    (hok : contextOk (contextOfPayload e) (rangeCount e) (bandCount e) = true) : s.applyContext e = s.loadContext e := by
  simp [State.applyContext, contextRefusal, reasonOpen, hc, hok]

theorem applyContext_payload (hc : countsMatch e = true)
    (hok : contextOk (contextOfPayload e) (rangeCount e) (bandCount e) = false) :
    s.applyContext e = s.refuse e true .payload := by
  simp [State.applyContext, contextRefusal, reasonOpen, hc, hok]

theorem applyContext_length (hc : countsMatch e = false)
    (hok : contextOk (contextOfPayload e) (rangeCount e) (bandCount e) = true) :
    s.applyContext e = s.refuse e true .length := by
  simp [State.applyContext, contextRefusal, reasonOpen, hc, hok]

/-- A payload with both faults is refused for the one that the free choice names (log entry 8). -/
theorem applyContext_either (hc : countsMatch e = false)
    (hok : contextOk (contextOfPayload e) (rangeCount e) (bandCount e) = false) :
    s.applyContext e = s.chosen.refuse e true (if s.choose then .length else .payload) := by
  cases h : s.choose <;> simp [State.applyContext, contextRefusal, reasonOpen, hc, hok, h]

end

/-! ### A pending state is written (R130, R131) -/

/-- The state in which a head's pending state has been written and not yet carried out. -/
def State.pended (s : State) (ch : Ch) (h : HeadNo) (p : Pending) : State :=
  s.onChan ch fun c => c.setHead h { (s.chan ch).headAt h with pending := p }

section
variable {s : State} {ch : Ch} {h : HeadNo} {p : Pending}

theorem pended_chan : (s.pended ch h p).chan ch = (s.chan ch).setHead h { (s.chan ch).headAt h with pending := p } :=
  chan_onChan _ _ _

theorem pended_headAt (hlen : (s.chan ch).heads.length = 8) :
    ((s.pended ch h p).chan ch).headAt h = { (s.chan ch).headAt h with pending := p } := by
  rw [pended_chan]
  exact headAt_set hlen h _

theorem setPending_eq : s.setPending ch h p =
    if (s.chan ch).hasRecordOf h = true then s.pended ch h p else (s.pended ch h p).promote ch h := by
  have hw : (s.onChan ch fun c => c.setHead h { c.headAt h with pending := p }) = s.pended ch h p :=
    onChan_congr s ch rfl
  have hr : ((s.pended ch h p).chan ch).hasRecordOf h = (s.chan ch).hasRecordOf h := by
    rw [pended_chan]
    rfl
  unfold State.setPending
  dsimp only
  rw [hw, hr]

/-- With no record of the head queued the pending state is carried out at once, in this head alone (R132). -/
theorem promote_pended_heads (hlen : (s.chan ch).heads.length = 8) (hp : p ≠ .none) :
    (((s.pended ch h p).promote ch h).chan ch).headAt h = ({ (s.chan ch).headAt h with pending := p } : Head).promoted ∧
      ∀ g, g ≠ h → (((s.pended ch h p).promote ch h).chan ch).headAt g = (s.chan ch).headAt g := by
  have hlen' : ((s.pended ch h p).chan ch).heads.length = 8 := by
    rw [pended_chan]
    exact List.length_set.trans hlen
  have hheads := promote_heads (h := h) hlen' (by rwa [pended_headAt hlen])
  rw [pended_headAt hlen] at hheads
  refine ⟨by rw [Channel.headAt, hheads, headAt_set hlen'], fun g hg => ?_⟩
  rw [Channel.headAt, hheads, headAt_set_other hg, pended_chan]
  exact headAt_set_other hg _

end

/-! ### What a promotion leaves of the directive queue -/

theorem post_directives (s : State) (i : Incident) : (s.post i).directives = s.directives := by
  rcases post_cases s i with ⟨-, e⟩ | ⟨-, -, -, e⟩ | ⟨-, -, e⟩ <;> rw [e]

theorem postAll_directives (is : List Incident) (s : State) : (s.postAll is).directives = s.directives := by
  induction is generalizing s with
  | nil => rfl
  | cons i is ih => exact (ih (s.post i)).trans (post_directives s i)

theorem evaluate_directives (s : State) (ch : Ch) (h : HeadNo) : (s.evaluate ch h).directives = s.directives := by
  have raised (u : State) (i : Incident) : (u.raiseFault i).directives = u.directives := by
    unfold State.raiseFault State.enterLockout
    dsimp only
    split
    · exact post_directives u i
    · rw [postAll_directives, sansLaser_directives (retarget_sansLaser _ _), sansLaser_directives (directZero_sansLaser _ _),
        onChan_directives, post_directives]
  rcases evaluate_cases s ch h with ⟨-, e⟩ | ⟨x, -, ⟨-, -, e⟩ | ⟨-, e⟩⟩ <;> rw [e]
  · exact (raised _ _).trans (onChan_directives _ _ _)
  · exact onChan_directives _ _ _

theorem refenceEmpty_directives (s : State) (ch : Ch) : (s.refenceEmpty ch).directives = s.directives := by
  have computed : (s.computeFence ch).directives = s.directives := onChan_directives _ _ _
  rcases refenceEmpty_cases s ch with ⟨-, e⟩ | ⟨-, ⟨-, -, e⟩ | ⟨-, e⟩⟩ <;> rw [e]
  · rw [sansLaser_directives (retarget_sansLaser _ _), State.beginFence, postAll_directives, onChan_directives, computed]
  · exact computed

theorem promote_copy_directives {s : State} {ch : Ch} {h : HeadNo} {x : Context}
    (hp : ((s.chan ch).headAt h).pending = .copy x) : (s.promote ch h).directives = s.directives := by
  have evaluated : ((s.copied ch h x).evaluate ch h).directives = s.directives :=
    (evaluate_directives _ ch h).trans (onChan_directives _ _ _)
  rw [promote_copy hp]
  split
  · rw [refenceEmpty_directives, sansLaser_directives (promoteLaser_sansLaser _ _ _), evaluated]
  · exact evaluated

/-! ### HEAD CONTEXT (R129, R130) -/

theorem exec_headContext {s : State} {e : Entry} (ha : s.applying = some e) (hr : s.firstRefusal e = none)
    (hk : e.kind = 1) : exec .headContext s = .next (s.applyContext e).nextFrame :=
  congrArg _ (applyKind_of_passes State.applyContext ha hr (by rw [hk]; rfl) rfl)

theorem exec_releaseContext {s : State} {e : Entry} (ha : s.applying = some e) (hr : s.firstRefusal e = none)
    (hk : e.kind = 2) : exec .releaseContext s = .next (s.applyRelease e).nextFrame :=
  congrArg _ (applyKind_of_passes State.applyRelease ha hr (by rw [hk]; rfl) rfl)

/-- What an accepted HEAD CONTEXT tells: one DIRECTIVE_CLAMPED if the clamps changed a field (R129, R158). -/
def State.toldClamps (s : State) (e : Entry) : State :=
  if clampContext (contextOfPayload e) = contextOfPayload e then s else s.post
    { kind := .directiveClamped, ch := e.target, head := some e.head, burst := none, detail := 1 }

theorem toldClamps_chan (s : State) (e : Entry) (x : Ch) : (s.toldClamps e).chan x = s.chan x := by
  unfold State.toldClamps
  split
  · rfl
  · exact chan_post _ _ _

theorem toldClamps_directives (s : State) (e : Entry) : (s.toldClamps e).directives = s.directives := by
  unfold State.toldClamps
  split
  · rfl
  · exact post_directives _ _

theorem loadContext_eq {s : State} {e : Entry} (hk : e.kind = 1) : s.loadContext e =
    (s.toldClamps e).setPending e.target e.head (.copy (clampContext (contextOfPayload e))) := by
  have hi : clampedIncident e =
      { kind := .directiveClamped, ch := e.target, head := some e.head, burst := none, detail := 1 } := by
    simp [clampedIncident, incident, hk]
  unfold State.loadContext State.toldClamps
  dsimp only
  rw [hi]
  simp only [beq_iff_eq]

/-- A change of a channel that is one of its heads alone writes the heads that it ends with. -/
theorem onChan_heads {s : State} {ch : Ch} {f : Channel → Channel}
    (hf : f (s.chan ch) = { s.chan ch with heads := (f (s.chan ch)).heads }) :
    s.onChan ch f = s.onChan ch fun c => { c with heads := ((s.onChan ch f).chan ch).heads } := by
  refine onChan_congr s ch ?_
  rw [chan_onChan]
  exact hf

/-- A copy for a head that is not selected, and not at its trip watermark, touches the heads alone (R118, R132). -/
theorem promote_pended_apart {s : State} {ch : Ch} {h : HeadNo} {x : Context} (hlen : (s.chan ch).heads.length = 8)
    (hs : (s.chan ch).relay.selected ≠ some h) (ht : ((s.chan ch).headAt h).accum < x.tripMark) :
    let t := (s.pended ch h (.copy x)).promote ch h
    t = s.onChan ch fun c => { c with heads := (t.chan ch).heads } := by
  let u := s.pended ch h (.copy x)
  have hat : (u.chan ch).headAt h = { (s.chan ch).headAt h with pending := .copy x } := pended_headAt hlen
  have hlen' : (u.chan ch).heads.length = 8 := by
    rw [pended_chan]
    exact List.length_set.trans hlen
  have hs' : (u.chan ch).relay.selected ≠ some h := by rwa [pended_chan]
  intro t
  have ht' : t = _ := (promote_copy (x := x) (by rw [hat])).trans ((if_neg hs').trans
    (evaluate_quiet (copied_active hlen') (.inl (by rw [copied_accum hlen', hat]; exact ht))))
  rw [State.copied, onChan_onChan, State.pended, onChan_onChan] at ht'
  rw [ht']
  exact onChan_heads rfl

/-! ### RELEASE CONTEXT (R131) -/

theorem applyRelease_unloaded {s : State} {e : Entry} (h : ((s.chan e.target).headAt e.head).active = none) :
    s.applyRelease e = s :=
  if_pos (by rw [Channel.contextOf, h]; rfl)

theorem applyRelease_loaded {s : State} {e : Entry} (h : ((s.chan e.target).headAt e.head).active ≠ none) :
    s.applyRelease e = s.setPending e.target e.head .unload :=
  if_neg fun k => h (Option.isNone_iff_eq_none.1 k)

/-- The unload of the selected head's context leaves the code at 0 (R132). -/
theorem promote_pended_unload_code {s : State} {ch : Ch} {h : HeadNo} (hlen : (s.chan ch).heads.length = 8)
    (hs : (s.chan ch).relay.selected = some h) :
    (((s.pended ch h .unload).promote ch h).chan ch).laser.code = 0 := by
  have hlen' : ((s.pended ch h .unload).chan ch).heads.length = 8 := by
    rw [pended_chan]
    exact List.length_set.trans hlen
  have hs' : ((s.pended ch h .unload).chan ch).relay.selected = some h := by rwa [pended_chan]
  obtain ⟨hcode, -, -⟩ := promote_unload_zeroHeld hlen' hs' (by rw [pended_headAt hlen])
  exact hcode

/-- Settles O45, by the two checks of the payload and then by whether a record of the head is queued. -/
theorem contexts : Obligations.Contexts := by
  intro s e ha hr hlen ch old put
  constructor
  · intro hk x n m fits sound y told
    have hexec := exec_headContext ha hr hk
    have hfits : countsMatch e = true ↔ fits := countsMatch_iff e
    have hm : bandCount e = m := field_low _ 2
    have hsound : contextOk x (rangeCount e) (bandCount e) = true ↔ sound := by
      rw [hm]
      exact contextOk_iff x n m
    have unfit (h : ¬ fits) : countsMatch e = false := Bool.eq_false_iff.2 (hfits.not.2 h)
    have unsound (h : ¬ sound) : contextOk x (rangeCount e) (bandCount e) = false :=
      Bool.eq_false_iff.2 (hsound.not.2 h)
    have loaded (hf : fits) (hs : sound) : s.applyContext e = told.setPending ch e.head (.copy y) :=
      (applyContext_sound (hfits.2 hf) (hsound.2 hs)).trans (loadContext_eq hk)
    have htold : told.chan ch = s.chan ch := toldClamps_chan s e ch
    have hlen' : (told.chan ch).heads.length = 8 := by rwa [htold]
    refine ⟨fun hf hs => ?_, fun hf hs => ?_, fun hf hs => ?_, fun hf hs hq => ?_, fun hf hs hq => ?_⟩
    · rw [hexec, applyContext_payload (hfits.2 hf) (unsound hs), refuse_named s hk]
      rfl
    · rw [hexec, applyContext_length (unfit hf) (hsound.2 hs), refuse_named s hk]
      rfl
    · refine ⟨_, (if s.choose then RefuseReason.length else .payload).value, ?_, hexec, ?_⟩
      · cases s.choose
        · exact .inr rfl
        · exact .inl rfl
      · rw [applyContext_either (unfit hf) (unsound hs), refuse_named _ hk, post_chosen]
        rfl
    · have hput : told.pended ch e.head (.copy y) = put (.copy y) told := by
        rw [State.pended, htold]
      rw [hexec, loaded hf hs, setPending_eq, htold, if_pos hq, hput]
    · let t := (told.pended ch e.head (.copy y)).promote ch e.head
      have hload : s.applyContext e = t := by
        rw [loaded hf hs, setPending_eq, htold, if_neg (by rw [hq]; decide)]
      obtain ⟨hown, hrest⟩ := promote_pended_heads (h := e.head) (p := .copy y) hlen' nofun
      rw [htold] at hown hrest
      have hdir : t.directives = s.directives :=
        (promote_copy_directives (x := y) (by rw [pended_headAt hlen'])).trans
          ((onChan_directives _ _ _).trans (toldClamps_directives s e))
      refine ⟨t.nextFrame, by rw [hexec, hload], ?_, fun g hg => ?_, congrArg List.tail hdir, fun hsel htrip => ?_⟩
      · rw [nextFrame_chan, hown]
        simp [Head.promoted, holdAfter, old]
      · rw [nextFrame_chan]
        exact hrest g hg
      · rw [nextFrame_chan]
        exact congrArg State.nextFrame
          (promote_pended_apart hlen' (by rwa [htold]) (by rwa [htold]))
  · intro hk
    have hexec := exec_releaseContext ha hr hk
    refine ⟨fun hold => ?_, fun hold hq => ?_, fun hold hq => ?_⟩
    · rw [hexec, applyRelease_unloaded hold]
    · rw [hexec, applyRelease_loaded hold, setPending_eq, if_pos hq]
      rfl
    · let t := (s.pended ch e.head .unload).promote ch e.head
      have hload : s.applyRelease e = t := by
        rw [applyRelease_loaded hold, setPending_eq, if_neg (by rw [hq]; decide)]
      obtain ⟨hown, hrest⟩ := promote_pended_heads (h := e.head) (p := .unload) hlen nofun
      refine ⟨t.nextFrame, by rw [hexec, hload], ?_, fun g hg => ?_, fun hsel => ?_⟩
      · rw [nextFrame_chan]
        exact hown
      · rw [nextFrame_chan]
        exact hrest g hg
      · rw [nextFrame_chan]
        exact promote_pended_unload_code hlen hsel

end Sys2Proof.Machine
end

section
/-! PROOFS. Settles O34: a link frame begins, a catch-up completes, and the link lines in each phase (R140, R141, R146,
R147, R149). -/

namespace Sys2Proof.Machine

/-! ### The preamplifier's lines of a live channel (R140, R141, R149) -/

theorem decide_atOrAfter (x y : Tick) : atOrAfter x y = decide (0 ≤ (x - y).toInt) := rfl

theorem not_atOrAfter (x y : Tick) : (!atOrAfter x y) = decide ((x - y).toInt < 0) := by
  rw [decide_atOrAfter, ← decide_not, decide_eq_decide]
  exact Int.not_le

theorem released_high : Level3.released.high = true := rfl

/-- The lines of a live channel are driven by its relay's phase alone. -/
theorem not_absent_of_live {s : State} {ch : Ch} (hl : s.live ch = true) : (!s.rstnLow && !s.present ch) = false := by
  obtain ⟨-, hp⟩ := Bool.and_eq_true_iff.1 hl
  rw [hp, Bool.not_true, Bool.and_false]

theorem served_of_live {s : State} {ch : Ch} (hl : s.live ch = true) : (s.rstnLow || s.present ch) = true := by
  obtain ⟨-, hp⟩ := Bool.and_eq_true_iff.1 hl
  rw [hp, Bool.or_true]

/-- While the part clocks, PLKSx is low from the start on, PLKCx and PLKDx give its own clock and bits, and LKDx is
left to the controller (R140, R141, R147). -/
theorem lines_ownClocking {s : State} {ch : Ch} (hl : s.live ch = true) (up down : Bool)
    (hphase : (s.chan ch).relay.phase = .catchUp ∨ (s.chan ch).relay.phase = .replay) :
    s.plks ch = (!atOrAfter s.now (s.chan ch).relay.start) ∧ s.lkdLevel ch up down = up ∧
      s.plkcLevel ch up down = (down && (s.chan ch).relay.ownClock s.now) ∧
      s.plkdLevel ch up down = (down && (s.chan ch).relay.ownBit s.now) := by
  have hpresent := not_absent_of_live hl
  rcases hphase with hp | hp <;>
    simp [State.plks, State.lkdLevel, State.lkdFollows, State.plkcLevel, State.plkc, State.plkdLevel, State.plkd,
      hpresent, hp]

/-- In THROUGH the clock passes down, and the data pass down in a write and up in a read (R141). -/
theorem lines_through {s : State} {ch : Ch} (hl : s.live ch = true) (up down : Bool)
    (hphase : (s.chan ch).relay.phase = .through) :
    s.plks ch = false ∧ s.plkcLevel ch up down = (down && s.lkcLevel ch up down) ∧
      s.lkdLevel ch up down = (up && (!(s.chan ch).relay.isRead || down)) ∧
      s.plkdLevel ch up down = (down && ((s.chan ch).relay.isRead || s.lkdLevel ch up down)) := by
  have hpresent := not_absent_of_live hl
  have hserved := served_of_live hl
  refine ⟨?_, ?_, ?_, ?_⟩
  · simp [State.plks, hpresent, hphase]
  · simp [State.plkcLevel, State.plkc, hpresent, hphase]
  · rw [State.lkdLevel, State.lkdFollows, hserved, hphase]
    rfl
  · cases hread : (s.chan ch).relay.isRead <;> simp [State.plkdLevel, State.plkd, hpresent, hphase, hread, released_high]

/-- With nothing sent downstream PLKSx is high, and each end keeps its own lines (log entry 38). -/
theorem lines_deselected {s : State} {ch : Ch} (hl : s.live ch = true) (up down : Bool)
    (hphase : (s.chan ch).relay.phase = .idle ∨ (s.chan ch).relay.phase = .header ∨ (s.chan ch).relay.phase = .hold) :
    s.plks ch = true ∧ s.plkcLevel ch up down = down ∧ s.lkdLevel ch up down = up ∧
      s.plkdLevel ch up down = down := by
  have hpresent := not_absent_of_live hl
  rcases hphase with hp | hp | hp <;>
    simp [State.plks, State.lkdLevel, State.lkdFollows, State.plkcLevel, State.plkc, State.plkdLevel, State.plkd,
      hpresent, hp, released_high]

/-- In WIRE PLKSx follows LKSx and the data lines are joined, a frame waiting or not (R149). -/
theorem lines_wire {s : State} {ch : Ch} (hl : s.live ch = true) (up down : Bool)
    (hphase : (s.chan ch).relay.phase = .wire) :
    s.plks ch = (s.chan ch).lks ∧ s.lkdLevel ch up down = (up && down) ∧ s.plkdLevel ch up down = (up && down) := by
  have hpresent := not_absent_of_live hl
  have hjoined : s.lkdLevel ch up down = (up && down) := by
    simp [State.lkdLevel, State.lkdFollows, served_of_live hl, hphase]
  refine ⟨by simp [State.plks, hpresent, hphase], hjoined, ?_⟩
  simp only [State.plkdLevel, State.plkd, hpresent, hphase, hjoined, openDrain_high, Bool.false_eq_true, if_false]
  rw [Bool.and_comm up, Bool.and_self_left]

/-! ### LKCx (R140, R141, R146, R147) -/

theorem lkcHeld_of_waiting {s : State} {ch : Ch} (hl : s.live ch = true) (hwait : (s.chan ch).relay.waiting = true) :
    s.lkcHeld ch = true := by
  simp [State.lkcHeld, hl, hwait]

/-- With no frame waiting, LKCx is held in CATCH-UP alone. -/
theorem lkcHeld_of_not_waiting {s : State} {ch : Ch} (hl : s.live ch = true)
    (hwait : (s.chan ch).relay.waiting = false) : s.lkcHeld ch = ((s.chan ch).relay.phase == .catchUp &&
      !(s.chan ch).relay.ending && atOrAfter s.now (s.chan ch).relay.stretch) := by
  simp [State.lkcHeld, hl, hwait]

theorem lkcLevel_of_held {s : State} {ch : Ch} (hheld : s.lkcHeld ch = true) (up down : Bool) :
    s.lkcLevel ch up down = false := by
  simp [State.lkcLevel, hheld]

/-- Outside WIRE the preamplifier has no hold on LKCx (R149). -/
theorem lkcLevel_of_not_wire {s : State} {ch : Ch} (hphase : (s.chan ch).relay.phase ≠ .wire) (up down : Bool) :
    s.lkcLevel ch up down = (up && !s.lkcHeld ch) := by
  simp [State.lkcLevel, State.wired, hphase]

/-- With no frame waiting LKCx is the controller's in every phase but CATCH-UP and WIRE. -/
theorem lkcLevel_free {s : State} {ch : Ch} (hl : s.live ch = true) (hwait : (s.chan ch).relay.waiting = false)
    (hwire : (s.chan ch).relay.phase ≠ .wire) (hcatch : (s.chan ch).relay.phase ≠ .catchUp) (up down : Bool) :
    s.lkcLevel ch up down = up := by
  simp [lkcLevel_of_not_wire hwire, lkcHeld_of_not_waiting hl hwait, hcatch]

/-- In CATCH-UP LKCx is held from its next fall on, until the upstream frame has ended (R141, R147). -/
theorem lkcLevel_catchUp {s : State} {ch : Ch} (hl : s.live ch = true) (hwait : (s.chan ch).relay.waiting = false)
    (hphase : (s.chan ch).relay.phase = .catchUp) (up down : Bool) :
    s.lkcLevel ch up down =
      (up && ((s.chan ch).relay.ending || decide ((s.now - (s.chan ch).relay.stretch).toInt < 0))) := by
  have hwire : (s.chan ch).relay.phase ≠ .wire := by rw [hphase]; exact nofun
  rw [lkcLevel_of_not_wire hwire, lkcHeld_of_not_waiting hl hwait, hphase, ← not_atOrAfter]
  simp only [beq_self_eq_true, Bool.true_and, Bool.not_and, Bool.not_not]

/-! ### The statement's clauses on the lines -/

/-- Clocking that has begun: PLKCx low for 32 ticks of a bit and high for 32, PLKDx the bit taken (R140). -/
theorem lines_begun {s : State} {ch : Ch} (hl : s.live ch = true) (up down : Bool)
    (hphase : (s.chan ch).relay.phase = .catchUp ∨ (s.chan ch).relay.phase = .replay)
    (hbegun : 0 ≤ (s.now - (s.chan ch).relay.start).toInt) :
    let k := (s.now - (s.chan ch).relay.start).toNat
    s.plks ch = false ∧ s.plkcLevel ch up down = (down && decide (32 ≤ k % 64)) ∧
      ∀ bit, (s.chan ch).relay.taken[k / 64]? = some bit → s.plkdLevel ch up down = (down && bit) := by
  intro k
  have hafter : atOrAfter s.now (s.chan ch).relay.start = true := decide_eq_true hbegun
  obtain ⟨hplks, -, hclock, hdata⟩ := lines_ownClocking hl up down hphase
  refine ⟨by rw [hplks, hafter]; rfl, ?_, fun bit hbit => ?_⟩
  · rw [hclock, Relay.ownClock, hafter]
    rfl
  · have hown : (s.chan ch).relay.ownBit s.now = bit := by
      simp only [Relay.ownBit, List.getD_eq_getElem?_getD]
      exact congrArg (Option.getD · true) hbit
    rw [hdata, hown]

/-- Before its own clocking has begun the part leaves PLKSx high and PLKCx released (log entry 38). -/
theorem lines_not_begun {s : State} {ch : Ch} (hl : s.live ch = true) (up down : Bool)
    (hphase : (s.chan ch).relay.phase = .catchUp ∨ (s.chan ch).relay.phase = .replay)
    (hbegun : ¬ 0 ≤ (s.now - (s.chan ch).relay.start).toInt) :
    s.plks ch = true ∧ s.plkcLevel ch up down = down := by
  have hafter : atOrAfter s.now (s.chan ch).relay.start = false := decide_eq_false hbegun
  obtain ⟨hplks, -, hclock, -⟩ := lines_ownClocking hl up down hphase
  exact ⟨by rw [hplks, hafter]; rfl, by rw [hclock, Relay.ownClock, hafter]; exact Bool.and_true _⟩

/-- A read gives PLKDx up to LKDx, a write LKDx down to PLKDx (R141). -/
theorem data_through {s : State} {ch : Ch} (hl : s.live ch = true) (up down : Bool)
    (hphase : (s.chan ch).relay.phase = .through) :
    ((s.chan ch).relay.taken.head? = some true →
        s.lkdLevel ch up down = (up && down) ∧ s.plkdLevel ch up down = down) ∧
      ((s.chan ch).relay.taken.head? = some false →
        s.lkdLevel ch up down = up ∧ s.plkdLevel ch up down = (up && down)) := by
  obtain ⟨-, -, hlkd, hplkd⟩ := lines_through hl up down hphase
  have hfirst {b : Bool} (h : (s.chan ch).relay.taken.head? = some b) : (s.chan ch).relay.isRead = b := by
    simp [Relay.isRead, List.headD_eq_head?_getD, h]
  refine ⟨fun h => ?_, fun h => ?_⟩
  · rw [hplkd, hlkd, hfirst h]
    exact ⟨rfl, Bool.and_true _⟩
  · rw [hplkd, hlkd, hfirst h]
    exact ⟨Bool.and_true _, by cases up <;> cases down <;> rfl⟩

/-! ### A frame begins (R141, R146, R149) -/

/-- From IDLE with the slot empty a frame begins (R141). -/
theorem exec_linkFrameStart_begins {s : State} {ch : Ch} (hl : s.live ch = true) (hlks : (s.chan ch).lks = true)
    (hphase : (s.chan ch).relay.phase = .idle) (hslot : (s.chan ch).relay.slot = none) :
    exec (.linkFrameStart ch) s = .next (s.onChan ch fun c =>
      { c with lks := false, relay := { c.relay with phase := .header, taken := [], given := 0 } }) := by
  simp [exec, execLinkFrameStart, hl, hlks, hphase, hslot, Channel.onRelay]

/-- Behind an occupied slot, or a frame that is still being finished, it waits (R146; log entry 18). -/
theorem exec_linkFrameStart_waits {s : State} {ch : Ch} (hl : s.live ch = true) (hlks : (s.chan ch).lks = true)
    (hbusy : (s.chan ch).relay.slot.isSome = true ∨ (s.chan ch).relay.phase = .catchUp) :
    exec (.linkFrameStart ch) s = .next (s.onChan ch fun c =>
      { c with lks := false, relay := { c.relay with waiting := true } }) := by
  simp [exec, execLinkFrameStart, hl, hlks, hbusy, Channel.onRelay]

/-- In WIRE it passes (R149). -/
theorem exec_linkFrameStart_wire {s : State} {ch : Ch} (hphase : (s.chan ch).relay.phase = .wire)
    (hslot : (s.chan ch).relay.slot = none) :
    exec (.linkFrameStart ch) s = .next (s.onChan ch fun c => { c with lks := false }) := by
  simp [exec, execLinkFrameStart, hphase, hslot]

/-- A channel stays live whatever changes in it. -/
theorem onChan_live (s : State) (ch : Ch) (f : Channel → Channel) : (s.onChan ch f).live ch = s.live ch :=
  live_congr (onChan_rstnLow _ _ _) (onChan_straps _ _ _) ch

/-! ### A catch-up completes (R141, R143) -/

/-- A catch-up that is over, with no whole write sent behind its upstream end (R141, R143). -/
theorem exec_catchUpComplete_relay {s : State} {ch : Ch} (hl : s.live ch = true)
    (hphase : (s.chan ch).relay.phase = .catchUp) (hdone : (s.chan ch).relay.ownDone s.now = true)
    (hplain : (s.chan ch).relay.ending = false ∨ (s.chan ch).relay.slot = none) :
    exec (.catchUpComplete ch) s = .next (s.onChan ch fun c => c.onRelay Relay.caughtUp) := by
  have hdue : s.catchUpDue ch = true := by simp [State.catchUpDue, hl, hphase, hdone]
  rcases hplain with h | h <;> simp [exec, execCatchUpComplete, hdue, h]

theorem caughtUp_of_arriving {r : Relay} (h : r.ending = false) :
    r.caughtUp = { r with phase := .through, given := r.goal } :=
  if_neg (by rw [h]; exact Bool.false_ne_true)

theorem caughtUp_of_ending {r : Relay} (h : r.ending = true) :
    r.caughtUp = { r with phase := .idle, given := r.goal, goal := 0, ending := false } :=
  if_pos h

/-- Settles O34. -/
theorem linkFrames : Obligations.LinkFrames := by
  refine ⟨fun s ch hl hlks => ⟨fun hphase hslot => ?_, fun hbusy => ?_, fun hphase hslot => ?_⟩,
    fun s ch hl hphase hstart hlong => ?_, fun s ch up down hl => ?_⟩
  · refine ⟨_, exec_linkFrameStart_begins hl hlks hphase hslot, rfl, ?_⟩
    exact (lines_deselected ((onChan_live _ _ _).trans hl) true true (.inr (.inl (by rw [chan_onChan])))).1
  · refine ⟨_, exec_linkFrameStart_waits hl hlks hbusy, rfl, ?_⟩
    exact lkcHeld_of_waiting ((onChan_live _ _ _).trans hl) (by rw [chan_onChan])
  · exact exec_linkFrameStart_wire hphase hslot
  · have hdone := (ownDone_iff s (s.chan ch).relay).2 ⟨hstart, hlong⟩
    refine ⟨fun hending => ?_, fun hending hslot => ?_⟩
    · rw [exec_catchUpComplete_relay hl hphase hdone (.inl hending)]
      exact congrArg _ (onChan_congr s ch (by rw [Channel.onRelay, caughtUp_of_arriving hending]))
    · rw [exec_catchUpComplete_relay hl hphase hdone (.inr hslot)]
      exact congrArg _ (onChan_congr s ch (by rw [Channel.onRelay, caughtUp_of_ending hending]))
  · intro r begun k
    refine ⟨fun hwait => lkcLevel_of_held (lkcHeld_of_waiting hl hwait) up down,
      fun hphase => ⟨(lines_ownClocking hl up down hphase).2.1, lines_begun hl up down hphase,
        lines_not_begun hl up down hphase⟩,
      fun hphase hwait => lkcLevel_catchUp hl hwait hphase up down, fun hphase hwait => ?_, fun hphase hwait => ?_,
      fun hphase => ?_, fun hphase => ?_⟩
    · exact lkcLevel_free hl hwait (by rw [hphase]; exact nofun) (by rw [hphase]; exact nofun) up down
    · have hlkc := lkcLevel_free hl hwait (by rw [hphase]; exact nofun) (by rw [hphase]; exact nofun) up down
      obtain ⟨hplks, hplkc, -, -⟩ := lines_through hl up down hphase
      exact ⟨hplks, hlkc, by rw [hplkc, hlkc, Bool.and_comm], data_through hl up down hphase⟩
    · obtain ⟨hplks, hplkc, hlkd, hplkd⟩ := lines_deselected hl up down hphase
      refine ⟨hplks, fun hwait => lkcLevel_free hl hwait ?_ ?_ up down, hplkc, hlkd, hplkd⟩ <;>
        rcases hphase with hp | hp | hp <;> rw [hp] <;> exact nofun
    · obtain ⟨hplks, hlkd, hplkd⟩ := lines_wire hl up down hphase
      refine ⟨hplks, hlkd, hplkd, fun hwait => ?_⟩
      have hwired : s.wired ch = true := by rw [State.wired, served_of_live hl, hphase]; rfl
      have hfree : s.lkcHeld ch = false := by rw [lkcHeld_of_not_waiting hl hwait, hphase]; rfl
      obtain ⟨hlkc, hplkc, -, -⟩ := wired_levels s ch hwired hfree up down
      exact ⟨hlkc, hplkc⟩

end Sys2Proof.Machine
end

section
/-! PROOFS. Settles O35, O37 and O38: the header of a link frame, the ends of a frame, and the frame behind it (R140 to
R143, R145 to R147, R149). -/

namespace Sys2Proof.Machine

/-! ### The part's own clocking (R140) -/

/-- The quiet time behind a replay, counted from the present tick or from the replay's end. -/
theorem ownStart_eq_beginsAt (r : Relay) (now : Tick) (delay : Nat) : r.ownStart now delay = r.beginsAt now delay := by
  have hquiet : now + BitVec.ofNat 32 (64 - (now - r.lastOwn.tick).toNat) = r.lastOwn.tick + 64 ∨
      64 ≤ (now - r.lastOwn.tick).toNat := by
    refine or_iff_not_imp_right.2 fun h => ?_
    generalize r.lastOwn.tick = b at *
    bv_omega
  unfold Relay.ownStart Relay.beginsAt ticksFrom bitTicks
  cases hold : r.lastOwn.old
  · simp only [Bool.false_eq_true, if_false, false_or]
    split
    · next hlate => rw [max_eq_left (by omega)]
    · next hsoon =>
      rw [max_eq_right (by omega)]
      exact hquiet.resolve_right (by omega)
  · simp

theorem catchUpFrom_eq (r : Relay) (now : Tick) (fall : BitVec 31) : r.catchUpFrom now fall =
    { r with
      phase := .catchUp, start := r.beginsAt now fall.toNat
      stretch := now + BitVec.ofNat 32 fall.toNat, goal := r.taken.length, given := 0, ending := false } := by
  rw [Relay.catchUpFrom, ownStart_eq_beginsAt]

theorem replayFrom_eq (r : Relay) (now : Tick) : r.replayFrom now =
    { r with phase := .replay, holdStart := none, start := r.beginsAt now 0, goal := 24, given := 0 } := by
  rw [Relay.replayFrom, ownStart_eq_beginsAt]

/-! ### The 8th bit (R141, R142, R145) -/

theorem selectsHead_iff (s : State) (header : BitVec 8) : s.selectsHead header = true ↔
    header.getLsbD 7 = false ∧ header.toNat % 128 = s.selectReg.toNat := by
  simp [State.selectsHead]

theorem exec_linkHeaderTaken {s : State} {ch : Ch} (hl : s.live ch = true)
    (hphase : (s.chan ch).relay.phase = .header) (header : BitVec 8) (fall : BitVec 31) :
    exec (.linkHeaderTaken ch header fall) s = .next (s.takeHeader ch header fall) := by
  simp [exec, execLinkHeaderTaken, hl, hphase]

/-- A frame that selects no head goes on to CATCH-UP (R141). -/
theorem takeHeader_other {s : State} {header : BitVec 8} (h : s.selectsHead header = false) (ch : Ch)
    (fall : BitVec 31) : s.takeHeader ch header fall = s.onChan ch fun c => c.onRelay fun r =>
      ({ r with taken := headerBits header } : Relay).catchUpFrom s.now fall := by
  simp [State.takeHeader, h, Channel.onRelay]

/-- A head-select write into an empty queue occupies the slot on its way to CATCH-UP (R142, R145). -/
theorem takeHeader_write_empty {s : State} {ch : Ch} {header : BitVec 8} (h : s.selectsHead header = true)
    (hq : (s.chan ch).queue = []) (fall : BitVec 31) :
    s.takeHeader ch header fall = s.onChan ch fun c => c.onRelay fun r =>
      ({ r with
        taken := headerBits header
        slot := some { bits := headerBits header, complete := false } } : Relay).catchUpFrom s.now fall := by
  simp [State.takeHeader, h, hq, Channel.onRelay]

/-- A head-select write behind a queued record is held from now on (R142). -/
theorem takeHeader_write_queued {s : State} {ch : Ch} {header : BitVec 8} (h : s.selectsHead header = true)
    (hq : (s.chan ch).queue ≠ []) (fall : BitVec 31) :
    s.takeHeader ch header fall = s.onChan ch fun c => c.onRelay fun r =>
      { r with
        taken := headerBits header, slot := some { bits := headerBits header, complete := false }
        phase := .hold, holdStart := some s.now } := by
  simp [State.takeHeader, h, hq, Channel.onRelay]

/-- Settles O35. -/
theorem linkHeaderTaken : Obligations.LinkHeaderTaken := by
  intro s ch header fall hl hphase bits selects slot catchUp
  rw [exec_linkHeaderTaken hl hphase]
  have hselects : s.selectsHead header = true ↔ selects := selectsHead_iff s header
  refine ⟨fun hother => ?_, fun hsel hq => ?_, fun hsel hq => ?_⟩
  · simp only [takeHeader_other (Bool.eq_false_iff.2 (hselects.not.2 hother)), catchUpFrom_eq]
    rfl
  · simp only [takeHeader_write_empty (hselects.2 hsel) hq, catchUpFrom_eq]
    rfl
  · rw [takeHeader_write_queued (hselects.2 hsel) hq]
    rfl

/-! ### The end of an upstream frame (R140, R141, R143, R145, R149) -/

/-- A waiting frame that ends is dropped (R146). -/
theorem exec_linkFrameEnd_waiting {s : State} {ch : Ch} (hl : s.live ch = true) (hlks : (s.chan ch).lks = false)
    (hwait : (s.chan ch).relay.waiting = true) (bits : List Bool) : exec (.linkFrameEnd ch bits) s =
      .next (s.onChan ch fun c => { c with lks := true, relay := { c.relay with waiting := false } }) := by
  simp [exec, execLinkFrameEnd, hl, hlks, hwait, Channel.onRelay]

/-- With no frame waiting the present one ends, its bits past the 24th ignored (R140). -/
theorem exec_linkFrameEnd_present {s : State} {ch : Ch} (hl : s.live ch = true) (hlks : (s.chan ch).lks = false)
    (hwait : (s.chan ch).relay.waiting = false) (bits : List Bool) : exec (.linkFrameEnd ch bits) s =
      .next ((s.onChan ch fun c => { c with lks := true }).endFrame ch (((s.chan ch).relay.taken ++ bits).take 24)) := by
  simp [exec, execLinkFrameEnd, hl, hlks, hwait]

/-- An end in WIRE, and one in the header (R140, R149). -/
theorem endFrame_wire {s : State} {ch : Ch} (hphase : (s.chan ch).relay.phase = .wire) (all : List Bool) :
    s.endFrame ch all = s.onChan ch fun c => c.onRelay Relay.toIdle := by
  simp only [State.endFrame, hphase]

theorem endFrame_header {s : State} {ch : Ch} (hphase : (s.chan ch).relay.phase = .header) (all : List Bool) :
    s.endFrame ch all = s.onChan ch fun c => c.onRelay fun r => { r.toIdle with taken := all } := by
  simp only [State.endFrame, hphase]

theorem endFrame_catchUp {s : State} {ch : Ch} (hphase : (s.chan ch).relay.phase = .catchUp) (all : List Bool) :
    s.endFrame ch all = s.onChan ch fun c => c.onRelay fun r => r.endInCatchUp s.now := by
  simp only [State.endFrame, hphase]

/-- An ordinary frame that was relayed to its end (R141). -/
theorem endFrame_through {s : State} {ch : Ch} (hphase : (s.chan ch).relay.phase = .through)
    (hslot : (s.chan ch).relay.slot = none) (all : List Bool) :
    s.endFrame ch all =
      s.onChan ch fun c => c.onRelay fun r => { r.toIdle with taken := all, given := all.length } := by
  simp only [State.endFrame, hphase, hslot, Option.isNone_none, if_true]

/-- A short head-select write that was relayed to its end (R143). -/
theorem endFrame_through_short {s : State} {ch : Ch} {all : List Bool} (hphase : (s.chan ch).relay.phase = .through)
    (hslot : (s.chan ch).relay.slot.isSome = true) (hshort : all.length < 24) :
    s.endFrame ch all =
      s.onChan ch fun c => c.onRelay fun r => { r.dropSlot with taken := all, given := all.length } := by
  have hslot' : (s.chan ch).relay.slot.isNone = false := by rw [← Option.not_isSome, hslot]; rfl
  simp only [State.endFrame, hphase, hslot', decide_eq_false (Nat.not_le.2 hshort), Bool.false_eq_true, if_false]

/-- A short held write (R143). -/
theorem endFrame_hold_short {s : State} {ch : Ch} {all : List Bool} (hphase : (s.chan ch).relay.phase = .hold)
    (hshort : all.length < 24) :
    s.endFrame ch all = s.onChan ch fun c => c.onRelay fun r => { r.dropSlot with taken := all } := by
  simp only [State.endFrame, hphase, decide_eq_false (Nat.not_le.2 hshort), Bool.false_eq_true, if_false]

/-- A whole held write (R145). -/
theorem endFrame_hold_whole {s : State} {ch : Ch} {all : List Bool} (hphase : (s.chan ch).relay.phase = .hold)
    (hwhole : 24 ≤ all.length) : s.endFrame ch all = s.onChan ch fun c => c.onRelay fun r =>
      { r with taken := all, slot := some { bits := all, complete := true } } := by
  simp only [State.endFrame, hphase, decide_eq_true hwhole, if_true]

/-! ### An end in CATCH-UP (R141, R143, R145, R147; log entries 17, 34) -/

/-- The bits that the part's own clocking has begun by the tick `now` (R140). -/
def Relay.bitsBegun (r : Relay) (now : Tick) : Nat :=
  if 0 ≤ (now - r.start).toInt then min r.goal ((now - r.start).toNat / 64 + 1) else 0

/-- A head-select write has all its 24 bits at the tick `now`, before LKCx has fallen (log entry 34). -/
def Relay.wholeBeforeFall (r : Relay) (now : Tick) : Prop :=
  r.slot.isSome = true ∧ 24 ≤ r.taken.length ∧ (now - r.stretch).toInt < 0

/-- A whole held write that ends before LKCx has fallen is replayed. -/
theorem endInCatchUp_whole {r : Relay} {now : Tick} (h : r.wholeBeforeFall now) :
    r.endInCatchUp now = { r.replayFrom now with slot := some { bits := r.taken, complete := true } } := by
  obtain ⟨hslot, hbits, hfall⟩ := h
  refine if_pos ?_
  rw [hslot, decide_eq_true hbits, not_atOrAfter, decide_eq_true hfall]
  rfl

/-- Any other frame goes by the bits begun. -/
theorem endInCatchUp_of_not_whole {r : Relay} {now : Tick} (h : ¬ r.wholeBeforeFall now) :
    r.endInCatchUp now =
      if r.bitsBegun now = 0 then r.dropSlot
      else if r.bitsBegun now = 24 then { r with goal := r.bitsBegun now, ending := true }
      else { r with slot := none, holdStart := none, goal := r.bitsBegun now, ending := true } := by
  have hbegun : (if atOrAfter now r.start then min r.goal (ticksFrom r.start now / bitTicks + 1) else 0) =
      r.bitsBegun now := by
    simp only [decide_atOrAfter, decide_eq_true_eq]
    rfl
  have hnot : ¬ (r.slot.isSome && decide (24 ≤ r.taken.length) && !atOrAfter now r.stretch) = true := by
    rw [not_atOrAfter, Bool.and_eq_true, Bool.and_eq_true, decide_eq_true_iff, decide_eq_true_iff, and_assoc]
    exact h
  simp only [Relay.endInCatchUp, hbegun, if_neg hnot, beq_iff_eq]

/-- Settles O37. -/
theorem linkFrameEnd : Obligations.LinkFrameEnd := by
  intro s ch bits hl hlks r all ended idle gone begun whole
  refine ⟨fun hwait => exec_linkFrameEnd_waiting hl hlks hwait bits, fun hwait => ?_⟩
  let s1 := s.onChan ch fun c => { c with lks := true }
  have hrelay : (s1.chan ch).relay = r := (congrArg Channel.relay (chan_onChan s ch _) :)
  have ends {f : Relay → Relay} (h : s1.endFrame ch all = s1.onChan ch fun c => c.onRelay f) : ended f :=
    (exec_linkFrameEnd_present hl hlks hwait bits).trans (congrArg _ (h.trans (onChan_onChan _ _ _ _)))
  have hphase {p : LinkPhase} (hp : r.phase = p) : (s1.chan ch).relay.phase = p := by rw [hrelay, hp]
  have caught (hp : r.phase = .catchUp) {x : Relay} (hx : r.endInCatchUp s.now = x) :
      exec (.linkFrameEnd ch bits) s = .next (s.setChan ch { s.chan ch with lks := true, relay := x }) := by
    rw [← hx, ← onChan_now s ch fun c => { c with lks := true }]
    exact ends (endFrame_catchUp (hphase hp) all)
  refine ⟨fun hp => ends (endFrame_wire (hphase hp) all), fun hp => ends (endFrame_header (hphase hp) all),
    fun hp hslot => ends (endFrame_through (hphase hp) (by rw [hrelay, hslot]) all),
    fun hp hslot hshort => ends (endFrame_through_short (hphase hp) (by rw [hrelay, hslot]) hshort),
    fun hp hshort => ends (endFrame_hold_short (hphase hp) hshort),
    fun hp hlen => ends (endFrame_hold_whole (hphase hp) hlen.ge),
    fun hp hpart hnone => ?_, fun hp hpart hsome hfew => ?_, fun hp hpart hall => ?_, fun hp hwhole => ?_⟩
  · exact caught hp ((endInCatchUp_of_not_whole hpart).trans (if_pos hnone))
  · exact caught hp ((endInCatchUp_of_not_whole hpart).trans ((if_neg hsome.ne').trans (if_neg hfew)))
  · have hsome : begun ≠ 0 := by rw [hall]; decide
    refine caught hp ((endInCatchUp_of_not_whole hpart).trans ((if_neg hsome).trans ((if_pos hall).trans ?_)))
    exact congrArg (fun n => { r with goal := n, ending := true }) hall
  · exact caught hp ((endInCatchUp_whole hwhole).trans (by rw [replayFrom_eq]))

/-! ### The hold stops, and the frame behind it (R146, R147) -/

theorem exec_heldFrameReplay {s : State} {ch : Ch} (hl : s.live ch = true) (hphase : (s.chan ch).relay.phase = .hold)
    (hq : (s.chan ch).queue = []) (bits : List Bool) (fall : BitVec 31) :
    exec (.heldFrameReplay ch bits fall) s =
      .next (s.onChan ch fun c => c.onRelay fun r => r.startReplay s.now bits fall) := by
  simp [exec, execHeldFrameReplay, State.replayDue, hl, hphase, hq]

theorem exec_waitingFrameRelease {s : State} {ch : Ch} (hl : s.live ch = true)
    (hphase : (s.chan ch).relay.phase = .idle) (hslot : (s.chan ch).relay.slot = none)
    (hwait : (s.chan ch).relay.waiting = true) : exec (.waitingFrameRelease ch) s = .next (s.onChan ch fun c =>
      c.onRelay fun r => { r with waiting := false, phase := .header, taken := [], given := 0 }) := by
  simp [exec, execWaitingFrameRelease, State.waitingDue, hl, hphase, hslot, hwait]

/-- A complete held frame is replayed (R147). -/
theorem startReplay_complete {r : Relay} {x : Slot} (hslot : r.slot = some x) (hx : x.complete = true) (now : Tick)
    (bits : List Bool) (fall : BitVec 31) : r.startReplay now bits fall = r.replayFrom now := by
  simp only [Relay.startReplay, hslot, hx, if_true]

/-- A held frame that is still arriving is caught up from the bits taken so far (R147; log entry 11). -/
theorem startReplay_arriving {r : Relay} {x : Slot} {bits : List Bool} (hslot : r.slot = some x)
    (hx : x.complete = false) (hlen : (r.taken ++ bits).length ≤ 24) (now : Tick) (fall : BitVec 31) :
    r.startReplay now bits fall =
      ({ r with
        holdStart := none, taken := r.taken ++ bits
        slot := some { bits := r.taken ++ bits, complete := false } } : Relay).catchUpFrom now fall := by
  simp only [Relay.startReplay, hslot, hx, List.take_of_length_le hlen, Bool.false_eq_true, if_false]

/-- Settles O38. -/
theorem heldFrames : Obligations.HeldFrames := by
  intro s ch hl
  refine ⟨fun bits fall x hphase hq hslot hx => ?_, fun bits fall x hphase hq hslot hx hlen => ?_,
    fun hphase hslot hwait => exec_waitingFrameRelease hl hphase hslot hwait⟩
  · rw [exec_heldFrameReplay hl hphase hq]
    refine congrArg _ (onChan_congr s ch ?_)
    rw [Channel.onRelay, startReplay_complete hslot hx, replayFrom_eq]
  · rw [exec_heldFrameReplay hl hphase hq]
    refine congrArg _ (onChan_congr s ch ?_)
    rw [Channel.onRelay, startReplay_arriving hslot hx hlen, catchUpFrom_eq]
    rfl

end Sys2Proof.Machine
end

section
/-! PROOFS. Settles O44: the first failing general check refuses a directive (R156, R157). -/

namespace Sys2Proof.Machine

/-- A refusal carries the head of the frame exactly when the kind names one (R157, R164). -/
theorem refuse_eq_refusedFrame {e : Entry} {named : Bool} (hn : named = true ↔ e.kind = 1#6 ∨ e.kind = 2#6)
    (s : State) (reason : RefuseReason) : s.refuse e named reason = s.post (refusedFrame e reason.value) := by
  have hd : min 65535 (reason.value * 256 + e.kind.toNat) = reason.value * 256 + e.kind.toNat := by
    have := e.kind.isLt
    cases reason <;> simp only [RefuseReason.value] <;> omega
  simp only [State.refuse, refusalOf, incident, refusedFrame, hn, hd]

theorem namesHead_iff {k : BitVec 6} {d : Directive} (hd : kindOf k = some d) :
    d.namesHead = true ↔ k = 1#6 ∨ k = 2#6 := by
  have hk := (kindOf_iff _ _).1 hd
  simp only [← BitVec.toNat_inj, hk]
  cases d <;> decide

/-- The first check of a table that fails, read from the front. -/
theorem firstCheck_cons (b : Bool) (r : RefuseReason) (rest : List (Bool × RefuseReason)) :
    ((((b, r) :: rest).find? fun x => x.1).map fun x => x.2) =
      if b = true then some r else (rest.find? fun x => x.1).map fun x => x.2 := by
  cases b <;> rfl

/-- The tables of R157, for a kind that they hold. -/
theorem directiveChecks_of_kind {s : State} {e : Entry} {d : Directive} (hd : kindOf e.kind = some d) :
    s.directiveChecks e = [(false, .unknownKind), (!d.lengthOk e.payload.length, .length),
      (d.namesChannel && !s.present e.target, .channelAbsent),
      (d.namesHead && decide ((s.chan e.target).setup.headsCount ≤ e.head.toNat), .headRange),
      (d == .forceLevel && !s.straps.bench, .notBench),
      (d.quiet && !(s.a.queue.isEmpty && s.b.queue.isEmpty), .busy)] := by
  have hk := (kindOf_iff _ _).1 hd
  have hpresent : (e.target == .B && !s.straps.twoChannels) = !s.present e.target := by cases e.target <;> rfl
  simp only [State.directiveChecks, hk, Bool.and_assoc, hpresent]
  cases d <;> rfl

theorem generalCheck_eq_firstRefusal {s : State} {e : Entry} {d : Directive} (hd : kindOf e.kind = some d) :
    s.generalCheck d e = s.firstRefusal e := by
  rw [State.firstRefusal, directiveChecks_of_kind hd]
  simp only [firstCheck_cons]
  rfl

theorem firstRefusal_of_unknown {s : State} {e : Entry} (hd : kindOf e.kind = none) :
    s.firstRefusal e = some .unknownKind := by
  have hk : (e.kind.toNat == 0 || decide (9 < e.kind.toNat)) = true := by simpa using (kindOf_none_iff _).1 hd
  rw [State.firstRefusal, State.directiveChecks, firstCheck_cons, if_pos hk]

/-- A frame that a check refuses is refused by the command of its kind, and the next one is taken up (R156, R157). -/
theorem applyKind_of_refusal {s : State} {e : Entry} {d : Directive} {pick : Entry → Bool} {r : RefuseReason}
    (effect : State → Entry → State) (ha : s.applying = some e) (hr : s.firstRefusal e = some r)
    (hd : kindOf e.kind = some d) (hp : pick e = true) :
    s.applyKind d pick effect = (s.post (refusedFrame e r.value)).nextFrame := by
  have hkind : s.applyingKind d pick = some e := by simp [State.applyingKind, ha, hd, hp]
  rw [← takeNext_eq, ← refuse_eq_refusedFrame (namesHead_iff hd)]
  simp only [State.applyKind, hkind, State.apply, (generalCheck_eq_firstRefusal hd).trans hr]

theorem exec_unknownKind {s : State} {e : Entry} (ha : s.applying = some e) (hd : kindOf e.kind = none) :
    exec .unknownKind s = .next (s.post (refusedFrame e RefuseReason.unknownKind.value)).nextFrame := by
  have hn : false = true ↔ e.kind = 1#6 ∨ e.kind = 2#6 := by
    refine ⟨nofun, ?_⟩
    rintro (h | h) <;> simp [h, kindOf] at hd
  rw [← takeNext_eq, ← refuse_eq_refusedFrame hn]
  simp [exec, execUnknownKind, ha, hd]

/-- The command that applies a frame refuses it with the first check that fails (R157). -/
theorem exec_applicationOf_refused {s : State} {e : Entry} {r : RefuseReason} (ha : s.applying = some e)
    (hr : s.firstRefusal e = some r) :
    exec (applicationOf e) s = .next (s.post (refusedFrame e r.value)).nextFrame := by
  cases hd : kindOf e.kind with
  | none =>
    obtain rfl : .unknownKind = r := Option.some.inj ((firstRefusal_of_unknown hd).symm.trans hr)
    rw [applicationOf, hd]
    exact exec_unknownKind ha hd
  | some d =>
    have refused {pick : Entry → Bool} (effect : State → Entry → State) (hp : pick e = true) :
        (.next (s.applyKind d pick effect) : Result) = .next (s.post (refusedFrame e r.value)).nextFrame :=
      congrArg _ (applyKind_of_refusal effect ha hr hd hp)
    rw [applicationOf, hd]
    cases d with
    | forceLevel =>
      dsimp only
      split
      · next hend => exact refused _ hend
      · next hend => exact refused _ (by simp [hend])
    | _ => exact refused _ rfl

/-- Settles O44. -/
theorem directiveRefused : Obligations.DirectiveRefused := by
  intro s e r ha hr reason
  have hreason : reason = r.value := by cases r <;> rfl
  rw [hreason]
  exact exec_applicationOf_refused ha hr

end Sys2Proof.Machine
end

section
/-! PROOFS. Settles O43: the payload words of a context and of a channel setup are read back as written (R164). -/

namespace Sys2Proof.Machine

/-- A field of a word written as a number. -/
theorem field_ofNat (n hi lo : Nat) : Word.field (BitVec.ofNat 16 n) hi lo = n % 65536 / 2 ^ lo % 2 ^ (hi + 1 - lo) := by
  rw [Word.field, BitVec.toNat_ofNat]

theorem rangeOfWord_word {r : Range} (h : r.lo ≤ 63 ∧ r.hi ≤ 63) : rangeOfWord r.word = r := by
  obtain ⟨hlo, hhi⟩ := h
  obtain ⟨lo, hi⟩ := r
  simp only [rangeOfWord, Range.word, field_ofNat, Range.mk.injEq]
  dsimp only at hlo hhi ⊢
  omega

theorem bandOfWords_words {b : Band} (hbound : b.bound ≤ 4095) (hlow : -128 ≤ b.adjust) (hhigh : b.adjust ≤ 127) :
    ∃ w1 w2, b.words = [w1, w2] ∧ bandOfWords w1 w2 = b := by
  refine ⟨_, _, rfl, ?_⟩
  obtain ⟨bound, code, adjust⟩ := b
  have hcode := code.isLt
  have hadjust := (BitVec.ofInt 8 adjust).isLt
  simp only [bandOfWords, field_ofNat, Band.mk.injEq]
  refine ⟨by dsimp only at hbound ⊢; omega, ?_, ?_⟩
  · refine BitVec.eq_of_toNat_eq ?_
    rw [BitVec.toNat_ofNat]
    omega
  · have hback : (code.toNat * 256 + (BitVec.ofInt 8 adjust).toNat) % 65536 / 2 ^ 0 % 2 ^ (7 + 1 - 0) =
        (BitVec.ofInt 8 adjust).toNat := by omega
    rw [hback, BitVec.ofNat_toNat, BitVec.setWidth_eq, BitVec.toInt_ofInt]
    dsimp only at hlow hhigh
    exact Int.bmod_eq_of_le (by omega) (by omega)

/-- The words of bands are read back as the bands. -/
theorem bandsOfWords_flatMap (bs : List Band) (h : ∀ b ∈ bs, b.bound ≤ 4095 ∧ -128 ≤ b.adjust ∧ b.adjust ≤ 127) :
    bandsOfWords bs.length (bs.flatMap Band.words) = bs := by
  induction bs with
  | nil => rfl
  | cons b bs ih =>
    obtain ⟨⟨hbound, hlow, hhigh⟩, hrest⟩ := List.forall_mem_cons.1 h
    obtain ⟨w1, w2, hwords, hb⟩ := bandOfWords_words hbound hlow hhigh
    rw [List.flatMap_cons, hwords, List.length_cons]
    exact congrArg₂ List.cons hb (ih hrest)

/-- The lead mode is the top place of its word. -/
theorem leadMode_word (mode : LeadMode) {lead : Nat} (h : lead ≤ 1023) :
    (if (BitVec.ofNat 16 ((if mode = .ready then 32768 else 0) + lead)).getLsbD 15 then LeadMode.ready else .timed) =
      mode := by
  rw [BitVec.getLsbD_ofNat, Nat.testBit_eq_decide_div_mod_eq]
  cases mode
  · exact if_neg (by simp; omega)
  · exact if_pos (by simp; omega)

section
variable {x : Context} {e : Entry}

/-- The ten words before the ranges. -/
theorem word_of_words (he : e.payload = x.words) :
    e.word 1 = BitVec.ofNat 16 (x.bias.toNat * 256 + x.read.toNat) ∧
    e.word 2 = BitVec.ofNat 16 (x.step * 256 + x.dwell) ∧
    e.word 3 = BitVec.ofNat 16 ((if x.mode = .ready then 32768 else 0) + x.lead) ∧
    e.word 4 = BitVec.ofNat 16 x.readyTimeout ∧ e.word 5 = BitVec.ofNat 16 (x.leak * 4096 + x.tail) ∧
    e.word 6 = BitVec.ofNat 16 x.coldLead ∧ e.word 7 = BitVec.ofNat 16 x.releaseMark ∧
    e.word 8 = BitVec.ofNat 16 x.holdMark ∧ e.word 9 = BitVec.ofNat 16 x.tripMark ∧
    e.word 10 = BitVec.ofNat 16 (x.ranges.length * 256 + x.bands.length) := by
  simp only [Entry.word, he]
  exact ⟨rfl, rfl, rfl, rfl, rfl, rfl, rfl, rfl, rfl, rfl⟩

/-- Word 10 carries the counts. -/
theorem counts_words (he : e.payload = x.words) (hr : x.ranges.length ≤ 2) (hb : x.bands.length ≤ 7) :
    rangeCount e = x.ranges.length ∧ bandCount e = x.bands.length := by
  obtain ⟨-, -, -, -, -, -, -, -, -, hword⟩ := word_of_words he
  simp only [rangeCount, bandCount, hword, field_ofNat]
  omega

/-- Behind word 10 stand the ranges and then the bands. -/
theorem drop_words (x : Context) : x.words.drop 10 = x.ranges.map Range.word ++ x.bands.flatMap Band.words := rfl

theorem rangesOf_words (he : e.payload = x.words) (hn : rangeCount e = x.ranges.length)
    (h : ∀ r ∈ x.ranges, r.lo ≤ 63 ∧ r.hi ≤ 63) : rangesOf e = x.ranges := by
  rw [rangesOf, hn, he, drop_words, List.take_left' (List.length_map _), List.map_map]
  exact (List.map_congr_left fun r hr => rangeOfWord_word (h r hr)).trans (List.map_id _)

theorem bandsOf_words (he : e.payload = x.words) (hn : rangeCount e = x.ranges.length)
    (hm : bandCount e = x.bands.length) (h : ∀ b ∈ x.bands, b.bound ≤ 4095 ∧ -128 ≤ b.adjust ∧ b.adjust ≤ 127) :
    bandsOf e = x.bands := by
  rw [bandsOf, hn, hm, he, ← List.drop_drop, drop_words, List.drop_left' (List.length_map _)]
  exact bandsOfWords_flatMap x.bands h

theorem words_length (x : Context) : x.words.length = 10 + x.ranges.length + 2 * x.bands.length := by
  have hbands : (x.bands.flatMap Band.words).length = 2 * x.bands.length := by
    simp [List.length_flatMap, Band.words, Nat.mul_comm]
  rw [← List.take_append_drop 10 x.words, drop_words, List.length_append, List.length_append, List.length_map, hbands,
    Nat.add_assoc]
  rfl

/-- The words of a context within its fields' ranges are read back as the context (R164). -/
theorem contextOfPayload_words (he : e.payload = x.words) (hrs : rangesOf e = x.ranges) (hbs : bandsOf e = x.bands)
    (hstep : x.step ≤ 31 ∧ x.dwell ≤ 63) (hlead : x.lead ≤ 1023) (htimeout : x.readyTimeout ≤ 4095)
    (htail : x.tail ≤ 255 ∧ x.leak ≤ 15) (hcold : x.coldLead ≤ 4095)
    (hmarks : x.releaseMark ≤ 65535 ∧ x.holdMark ≤ 65535 ∧ x.tripMark ≤ 65535) : contextOfPayload e = x := by
  obtain ⟨h1, h2, h3, h4, h5, h6, h7, h8, h9, -⟩ := word_of_words he
  have code (c : Code) (n : Nat) (h : n = c.toNat) : BitVec.ofNat 6 n = c := by
    rw [h, BitVec.ofNat_toNat, BitVec.setWidth_eq]
  have top : (if x.mode = .ready then 32768 else 0) = 0 ∨ (if x.mode = .ready then 32768 else 0) = 32768 := by
    split <;> simp
  have hbias := x.bias.isLt
  have hread := x.read.isLt
  rw [contextOfPayload, hrs, hbs, h1, h2, h3, leadMode_word x.mode hlead, h4, h5, h6, h7, h8, h9]
  simp only [field_ofNat, BitVec.toNat_ofNat]
  rw [code x.bias _ (by omega), code x.read _ (by omega)]
  cases x
  dsimp only at *
  simp only [Context.mk.injEq, true_and, and_true]
  omega

end

/-- Settles O43. -/
theorem payloadRoundTrip : Obligations.PayloadRoundTrip := by
  refine ⟨?_, ?_⟩
  · intro x kind target source head hstep hdwell hlead htimeout htail hcold hleak hrelease hhold htrip hranges hbands
      hr hb e
    obtain ⟨hn, hm⟩ := counts_words (e := e) rfl hranges hbands
    refine ⟨?_, by rw [countsMatch, hn, hm]; exact beq_iff_eq.2 (words_length x)⟩
    exact contextOfPayload_words rfl (rangesOf_words rfl hn hr) (bandsOf_words rfl hn hm hb) ⟨hstep, hdwell⟩ hlead
      htimeout ⟨htail, hleak⟩ hcold ⟨hrelease, hhold, htrip⟩
  · intro x kind target source head hnominal htolerance hmargin hpark hmask hpriority hheads hdead hlimit
    simp only [setupOfPayload, Setup.words, Entry.word, List.getD_cons_succ, List.getD_cons_zero, Nat.reduceSub,
      field_ofNat, BitVec.toNat_ofNat]
    obtain ⟨nominal, tolerance, margin, parkDelay, faultMask, priority, headsCount, deadTime, holdLimit⟩ := x
    dsimp only at *
    simp only [Setup.mk.injEq]
    omega

end Sys2Proof.Machine
end

section
/-! PROOFS. What a receiver makes of the symbols of a frame: the marker, the words, the guards and the check (R150 to
R152). -/

namespace Sys2Proof.Machine

/-! ### Symbols that bring nothing about -/

/-- A receiver in phase `h` takes the symbols with nothing brought about, and is then in phase `k`. -/
def Hunt.Reads (h k : Hunt) : List Bool → Prop
  | [] => h = k
  | b :: bs => (h.take b).2 = .nothing ∧ (h.take b).1.Reads k bs

theorem Hunt.Reads.append {h k l : Hunt} {bs cs : List Bool} (hb : h.Reads k bs) (hc : k.Reads l cs) :
    h.Reads l (bs ++ cs) := by
  induction bs generalizing h with
  | nil =>
    cases hb
    exact hc
  | cons b bs ih =>
    obtain ⟨hn, hrest⟩ := hb
    exact ⟨hn, ih hrest⟩

theorem Hunt.Reads.single {h k : Hunt} {b : Bool} (hb : h.take b = (k, .nothing)) : h.Reads k [b] := by
  simp [Hunt.Reads, hb]

/-- The symbol behind them that brings something about ends a frame. -/
theorem Hunt.Reads.endsFrame {h k : Hunt} {bs : List Bool} {b : Bool} (hb : h.Reads k bs)
    (he : (k.take b).2 ≠ .nothing) : Sys2Proof.endsFrame h (bs ++ [b]) = true := by
  induction bs generalizing h with
  | nil =>
    cases hb
    simpa [Sys2Proof.endsFrame] using he
  | cons c bs ih =>
    obtain ⟨hn, hrest⟩ := hb
    have hi := ih hrest
    cases bs <;> simpa [Sys2Proof.endsFrame, hn] using hi

/-! ### The words of a frame in assembly -/

/-- A frame in assembly behind whole words and their guards (R151, R152). -/
def assemblyOf (ws : List Word) : Assembly := { words := ws, cur := 0, count := 0, crc := crcWords ws }

theorem crcWords_concat (ws : List Word) (w : Word) :
    crcWords (ws ++ [w]) = crcSymbols (crcWords ws) (wordSymbols w) := by
  simp [crcWords, List.foldl_append]

/-- A symbol shifted into a word behind the others. -/
def shiftIn (w : Word) (b : Bool) : Word := w <<< 1 ||| (if b then 1#16 else 0#16)

/-- The symbols of a word, taken into an assembly. -/
def Assembly.takeAll (a : Assembly) (bs : List Bool) : Assembly := bs.foldl Assembly.takeSymbol a

/-- The check word alone stays out of the check register (R152). -/
theorem takeAll_eq (a : Assembly) (bs : List Bool) : a.takeAll bs =
    { words := a.words, cur := bs.foldl shiftIn a.cur, count := a.count + bs.length
      crc := if a.atCheck then a.crc else crcSymbols a.crc bs } := by
  induction bs generalizing a with
  | nil => simp [Assembly.takeAll, crcSymbols]
  | cons b bs ih =>
    refine (ih (a.takeSymbol b)).trans ?_
    have hat : (a.takeSymbol b).atCheck = a.atCheck := rfl
    have hcount : a.count + 1 + bs.length = a.count + (b :: bs).length := by
      rw [List.length_cons, Nat.add_assoc, Nat.add_comm 1]
    rw [hat, ← hcount]
    cases h : a.atCheck <;> simp [Assembly.takeSymbol, h, crcSymbols, shiftIn]

theorem reads_takeAll (a : Assembly) (bs : List Bool) (h : a.count + bs.length ≤ 16) :
    (Hunt.assembling a).Reads (.assembling (a.takeAll bs)) bs := by
  induction bs generalizing a with
  | nil => rfl
  | cons b bs ih =>
    rw [List.length_cons] at h
    have htake : (Hunt.assembling a).take b = (.assembling (a.takeSymbol b), .nothing) := if_pos (by omega)
    rw [Hunt.Reads, htake]
    exact ⟨rfl, ih _ (by simp only [Assembly.takeSymbol]; omega)⟩

theorem shiftIn_ushiftRight (w : Word) (n : Nat) : shiftIn (w >>> (n + 1)) (w.getLsbD n) = w >>> n := by
  refine BitVec.eq_of_getLsbD_eq fun i hi => ?_
  have hbit : (if w.getLsbD n then 1#16 else 0#16).getLsbD i = (w.getLsbD n && decide (i = 0)) := by
    cases w.getLsbD n <;> simp [BitVec.getLsbD_one]
  rw [shiftIn, BitVec.getLsbD_or, hbit, BitVec.getLsbD_shiftLeft, BitVec.getLsbD_ushiftRight,
    BitVec.getLsbD_ushiftRight]
  cases i with
  | zero => simp
  | succ i => simp [hi, Nat.add_assoc, Nat.add_comm 1]

/-- The symbols of a word, most significant first, make the word (R151). -/
theorem foldl_wordSymbols (w : Word) : (wordSymbols w).foldl shiftIn 0 = w := by
  have front (k : Nat) (hk : k ≤ 16) :
      ((List.range k).map fun i => w.getLsbD (15 - i)).foldl shiftIn 0 = w >>> (16 - k) := by
    induction k with
    | zero => exact (BitVec.ushiftRight_eq_zero (Nat.le_refl 16)).symm
    | succ k ih =>
      rw [List.range_succ, List.map_append, List.foldl_append, ih (by omega), show 16 - k = 15 - k + 1 by omega,
        show 16 - (k + 1) = 15 - k by omega]
      exact shiftIn_ushiftRight w _
  exact front 16 (Nat.le_refl 16)

/-- The assembly with the sixteen symbols of a word taken and its guard to come. -/
def wordTaken (ws : List Word) (w : Word) : Assembly :=
  { words := ws, cur := w, count := 16
    crc := if (assemblyOf ws).atCheck then crcWords ws else crcWords (ws ++ [w]) }

theorem reads_wordSymbols (ws : List Word) (w : Word) :
    (Hunt.assembling (assemblyOf ws)).Reads (.assembling (wordTaken ws w)) (wordSymbols w) := by
  have hall : (assemblyOf ws).takeAll (wordSymbols w) = wordTaken ws w := by
    rw [takeAll_eq, wordTaken, crcWords_concat]
    exact congrArg (fun cur => { words := ws, cur := cur, count := 16, crc := _ : Assembly }) (foldl_wordSymbols w)
  rw [← hall]
  exact reads_takeAll _ _ (Nat.le_refl 16)

/-! ### A frame from its marker on -/

/-- A marker of at least 32 ones and its start symbol begin a frame (R150). -/
theorem reads_opening (ones : Nat) {marker : Nat} (hm : 32 ≤ marker) :
    (Hunt.hunting ones).Reads (.assembling (assemblyOf [])) (List.replicate marker true ++ [false]) := by
  have count (n k : Nat) : (Hunt.hunting n).Reads (.hunting (min 32 (n + k + 1))) (List.replicate (k + 1) true) := by
    induction k generalizing n with
    | zero => exact .single rfl
    | succ k ih =>
      have hnext := ih (min 32 (n + 1))
      rw [show min 32 (min 32 (n + 1) + k + 1) = min 32 (n + (k + 1) + 1) by omega] at hnext
      exact ⟨rfl, hnext⟩
  obtain ⟨k, rfl⟩ : ∃ k, marker = k + 1 := ⟨marker - 1, by omega⟩
  have hmarker := count ones k
  rw [show min 32 (ones + k + 1) = 32 by omega] at hmarker
  exact hmarker.append (.single rfl)

/-- The check word is the one behind as many words as the header says (R151). -/
theorem atCheck_iff (header : Word) (ws : List Word) :
    (assemblyOf (header :: ws)).atCheck = true ↔ ws.length = header.toNat % 32 := by
  change (some (header.toNat % 32 + 1) == some (ws.length + 1)) = true ↔ _
  rw [beq_iff_eq, Option.some.injEq]
  omega

/-- A word short of the check word is taken with its guard (R151). -/
theorem reads_guarded {ws : List Word} (h : (assemblyOf ws).atCheck = false) (w : Word) :
    (Hunt.assembling (assemblyOf ws)).Reads (.assembling (assemblyOf (ws ++ [w]))) (guarded w) := by
  refine (reads_wordSymbols ws w).append (.single ?_)
  have hat : (wordTaken ws w).atCheck = false := h
  have hcrc : (wordTaken ws w).crc = crcWords (ws ++ [w]) := if_neg (by simp [h])
  have hguard : (Hunt.assembling (wordTaken ws w)).take true = (wordTaken ws w).takeGuard true := rfl
  simp only [hguard, Assembly.takeGuard, hat, hcrc, Bool.not_true, Bool.false_eq_true, if_false]
  rfl

/-- The header, and the payload words that it announces, are taken one behind the other (R151). -/
theorem reads_words {header : Word} {payload before after : List Word} (hn : header.toNat % 32 = payload.length)
    (h : header :: payload = before ++ after) :
    (Hunt.assembling (assemblyOf [])).Reads (.assembling (assemblyOf before)) (before.flatMap guarded) := by
  induction before using List.reverseRecOn generalizing after with
  | nil => rfl
  | append_singleton before w ih =>
    rw [List.append_assoc] at h
    rw [List.flatMap_append, List.flatMap_singleton]
    refine (ih h).append (reads_guarded ?_ w)
    cases before with
    | nil => rfl
    | cons v before =>
      obtain ⟨rfl, hp⟩ := List.cons.inj h
      have hlen : payload.length = before.length + (1 + after.length) := by
        rw [hp]
        exact List.length_append.trans (congrArg _ List.length_append)
      refine Bool.eq_false_iff.2 fun hat => ?_
      rw [atCheck_iff, hn] at hat
      omega

/-! ### The guard that ends a frame -/

/-- A guard of 0 ends the frame with the index of the word it follows (R151). -/
theorem take_guard_low (ws : List Word) (w : Word) :
    (Hunt.assembling (wordTaken ws w)).take false = (.hunting 0, .bad (256 + ws.length)) := rfl

/-- The guard of the check word ends the frame, good when the check word is the register's (R152). -/
theorem take_guard_check {header : Word} {payload : List Word} (hn : header.toNat % 32 = payload.length)
    (check : Word) : (Hunt.assembling (wordTaken (header :: payload) check)).take true = (.hunting 0,
      if check = crcWords (header :: payload) then .good header payload else .bad (512 + (payload.length + 1))) := by
  have hat : (assemblyOf (header :: payload)).atCheck = true := (atCheck_iff _ _).2 hn.symm
  have hat' : (wordTaken (header :: payload) check).atCheck = true := hat
  have hguard : (Hunt.assembling (wordTaken (header :: payload) check)).take true =
    (wordTaken (header :: payload) check).takeGuard true := rfl
  simp only [hguard, Assembly.takeGuard, hat', Bool.not_true, Bool.false_eq_true, if_false, if_true]
  simp only [wordTaken, hat, beq_iff_eq, if_true]
  split <;> rfl

/-! ### The header (R157, R164) -/

theorem headerWord_count (kind : BitVec 6) (target : Ch) (head : HeadNo) {n : Nat} (hn : n ≤ 31) :
    (headerWord kind target head n).toNat % 32 = n := by
  rw [headerWord, BitVec.toNat_ofNat]
  omega

/-- The header is read back as it was written. -/
theorem entryOf_headerWord (source : Ch) (kind : BitVec 6) (target : Ch) (head : HeadNo) (payload : List Word) :
    entryOf source (headerWord kind target head payload.length) payload =
      { kind := kind, target := target, head := head, payload := payload, source := source } := by
  have hkind := kind.isLt
  have hhead := head.isLt
  have hbit : chBit target ≤ 1 := by cases target <;> decide
  have hnum : (headerWord kind target head payload.length).toNat =
      kind.toNat * 1024 + chBit target * 512 + head.toNat * 64 + payload.length % 32 := by
    rw [headerWord, BitVec.toNat_ofNat]
    omega
  have hk : Word.field (headerWord kind target head payload.length) 15 10 = kind.toNat := by
    rw [Word.field, hnum]
    omega
  have hh : Word.field (headerWord kind target head payload.length) 8 6 = head.toNat := by
    rw [Word.field, hnum]
    omega
  have ht : (if (headerWord kind target head payload.length).getLsbD 9 then Ch.B else .A) = target := by
    rw [BitVec.getLsbD, hnum, Nat.testBit_eq_decide_div_mod_eq]
    cases target
    · exact if_neg (by rw [decide_eq_true_iff, chBit]; omega)
    · exact if_pos (by rw [decide_eq_true_iff, chBit]; omega)
  rw [entryOf, hk, hh, ht, BitVec.ofNat_toNat, BitVec.ofNat_toNat, BitVec.setWidth_eq, BitVec.setWidth_eq]

end Sys2Proof.Machine
end

section
/-! PROOFS. Settles O40, O41 and O42: a frame from the line to the directive queue, a bad frame, and frames under OVERRUN
(R150 to R156, R164). -/

namespace Sys2Proof.Machine

/-! ### The symbols of a frame, handed in order (R150) -/

/-- The state with the receiver of a channel in another phase. -/
def State.listens (s : State) (ch : Ch) (h : Hunt) : State :=
  s.onChan ch fun c => { c with recv := { c.recv with hunt := h } }

theorem listens_hunt (s : State) (ch : Ch) (h : Hunt) : ((s.listens ch h).chan ch).recv.hunt = h :=
  congrArg (fun c : Channel => c.recv.hunt) (chan_onChan s ch _)

theorem listens_listens (s : State) (ch : Ch) (h k : Hunt) : (s.listens ch h).listens ch k = s.listens ch k :=
  onChan_onChan s ch _ _

theorem listens_same {s : State} {ch : Ch} {h : Hunt} (hh : (s.chan ch).recv.hunt = h) : s.listens ch h = s := by
  subst hh
  exact setChan_chan s ch

/-- Symbols that bring nothing about change the receiver's phase alone. -/
theorem handSymbols_reads {s : State} {ch : Ch} {h k : Hunt} {bs : List Bool} (hh : (s.chan ch).recv.hunt = h)
    (hr : h.Reads k bs) : s.handSymbols ch bs = s.listens ch k := by
  induction bs generalizing s h with
  | nil =>
    cases hr
    exact (listens_same hh).symm
  | cons b bs ih =>
    obtain ⟨hn, hrest⟩ := hr
    have hfirst : s.handSymbol ch b = s.listens ch (h.take b).1 := by
      unfold State.handSymbol
      simp only [hh, hn]
      rfl
    exact (congrArg (fun t : State => t.handSymbols ch bs) hfirst).trans
      ((ih (listens_hunt _ _ _) hrest).trans (listens_listens _ _ _ _))

theorem exec_directiveFrame {s : State} {ch : Ch} (hl : s.live ch = true) (hg : (s.chan ch).intake = .gap)
    (bs : List Bool) : exec (.directiveFrame ch bs) s = .next (s.handSymbols ch bs) := by
  simp [exec, execDirectiveFrame, hl, hg]

/-- A frame whose last symbol ends it leaves the receiver HUNTING, and brings about what that symbol does. -/
theorem exec_directiveFrame_ends {s : State} {ch : Ch} {k : Hunt} {bs : List Bool} {b : Bool} {r : Received}
    (hl : s.live ch = true) (hg : (s.chan ch).intake = .gap) (hr : (s.chan ch).recv.hunt.Reads k bs)
    (hb : k.take b = (.hunting 0, r)) :
    exec (.directiveFrame ch (bs ++ [b])) s = .next ((s.listens ch (.hunting 0)).received ch r) := by
  rw [exec_directiveFrame hl hg]
  have hlast : (s.listens ch k).handSymbol ch b = (s.listens ch (.hunting 0)).received ch r := by
    unfold State.handSymbol
    simp only [listens_hunt, hb]
    exact congrArg (fun t : State => t.received ch r) (listens_listens s ch k (.hunting 0))
  have hsplit : s.handSymbols ch (bs ++ [b]) = (s.handSymbols ch bs).handSymbol ch b := List.foldl_append
  rw [hsplit, handSymbols_reads rfl hr, hlast]

/-- The symbols of a frame up to the last symbol of a word, the words before it being the first of the frame's. -/
theorem reads_toWord {ones marker : Nat} {header : Word} {payload before after : List Word} (hm : 32 ≤ marker)
    (hn : header.toNat % 32 = payload.length) (h : header :: payload = before ++ after) (w : Word) :
    (Hunt.hunting ones).Reads (.assembling (wordTaken before w))
      (List.replicate marker true ++ [false] ++ before.flatMap guarded ++ wordSymbols w) :=
  ((reads_opening ones hm).append (reads_words hn h)).append (reads_wordSymbols before w)

/-! ### A bad frame (R151, R152) -/

/-- The index of a word of a frame fits the detail of its incident. -/
theorem received_bad (s : State) (ch : Ch) {detail : Nat} (h : detail ≤ 65535) : s.received ch (.bad detail) =
    s.post { kind := .directiveBad, ch := ch, head := none, burst := none, detail := detail } := by
  rw [State.received, incident, Nat.min_eq_right h]

/-- Settles O41. -/
theorem badFrames : Obligations.BadFrames := by
  intro s ch ones marker kind target head payload hl hg hh hm hp ws opening heard bad
  have hn := headerWord_count kind target head hp
  have ends {before after : List Word} {w : Word} {b : Bool} {detail : Nat} (h : ws = before ++ after)
      (hb : (Hunt.assembling (wordTaken before w)).take b = (.hunting 0, .bad detail)) (hd : detail ≤ 65535) :
      exec (.directiveFrame ch (opening ++ before.flatMap guarded ++ wordSymbols w ++ [b])) s
        = .next (heard.post (bad detail)) := by
    rw [exec_directiveFrame_ends hl hg (hh ▸ reads_toWord hm hn h w) hb, received_bad _ ch hd]
    rfl
  have whole : ws = ws ++ [] := (List.append_nil ws).symm
  refine ⟨fun check hc => ?_, fun before v after h => ends h (take_guard_low before v) ?_, fun check => ?_⟩
  · rw [guarded, ← List.append_assoc]
    exact ends whole ((take_guard_check hn check).trans (by rw [if_neg hc])) (by omega)
  · have hlen : payload.length + 1 = before.length + (after.length + 1) :=
      (congrArg List.length h).trans List.length_append
    omega
  · exact ends whole (take_guard_low ws check) (by show 256 + (payload.length + 1) ≤ 65535; omega)

/-! ### A good frame and the directive queue (R154, R155, R156) -/

/-- A frame as sent is handed to the directive queue as the entry that it was made from. -/
theorem exec_directiveFrame_good {s : State} {ch : Ch} {ones marker : Nat} (kind : BitVec 6) (target : Ch)
    (head : HeadNo) {payload : List Word} (hl : s.live ch = true) (hg : (s.chan ch).intake = .gap)
    (hh : (s.chan ch).recv.hunt = .hunting ones) (hm : 32 ≤ marker) (hp : payload.length ≤ 31) :
    exec (.directiveFrame ch (frameSymbols marker kind target head payload)) s =
      .next ((s.listens ch (.hunting 0)).offer ch
        { kind := kind, target := target, head := head, payload := payload, source := ch }) := by
  have hn := headerWord_count kind target head hp
  rw [frameSymbols, guarded, ← List.append_assoc, exec_directiveFrame_ends hl hg
    (hh ▸ reads_toWord hm hn (List.append_nil _).symm _) (take_guard_check hn _), if_pos rfl, State.received,
    entryOf_headerWord]

theorem wellFormed_frameSymbols (ch : Ch) {marker : Nat} (kind : BitVec 6) (target : Ch) (head : HeadNo)
    {payload : List Word} (hm : 32 ≤ marker) (hp : payload.length ≤ 31) :
    WellFormed (.directiveFrame ch (frameSymbols marker kind target head payload)) = true := by
  have hn := headerWord_count kind target head hp
  rw [WellFormed, frameShaped, frameSymbols, guarded, ← List.append_assoc]
  refine (reads_toWord hm hn (List.append_nil _).symm _).endsFrame ?_
  rw [take_guard_check hn, if_pos rfl]
  exact nofun

/-- An idle engine takes a frame that joins an empty queue at once (R156). -/
theorem join_idle {s : State} (he : s.engine = none) (hd : s.directives = []) (e : Entry) : s.join e = { s with
    engine := some { entry := e, endTick := s.now + BitVec.ofNat 32 (64 + 16 * e.payload.length) } } := by
  simp only [State.join, he, hd, State.takeNext, Option.isNone_none, if_true, List.nil_append]
  rw [← hd]
  rfl

theorem join_busy {s : State} (he : s.engine.isSome = true) (e : Entry) :
    s.join e = { s with directives := s.directives ++ [e] } :=
  if_neg fun hn => Option.isSome_iff_ne_none.1 he (Option.isNone_iff_eq_none.1 hn)

section
variable {s : State} {ch : Ch} {e : Entry}

theorem offer_joins (ho : s.overrun = false) (hd : s.directives.length < 4) : s.offer ch e = s.join e := by
  simp only [State.offer, ho, hd, Bool.false_eq_true, if_false, if_true]

/-- A frame that finds the queue full begins OVERRUN (R154). -/
theorem offer_full (ho : s.overrun = false) (hd : 4 ≤ s.directives.length) : s.offer ch e =
    ({ s with overrun := true } : State).post
      { kind := .directiveOverrun, ch := ch, head := none, burst := none, detail := e.kind.toNat } := by
  have hk := e.kind.isLt
  simp only [State.offer, ho, Nat.not_lt.2 hd, incident, Nat.min_eq_right (show e.kind.toNat ≤ 65535 by omega),
    Bool.false_eq_true, if_false]

theorem isClear_iff : e.isClear = true ↔ e.kind = 7 := by
  rw [Entry.isClear, beq_iff_eq, kindOf_iff, ← BitVec.toNat_inj]
  rfl

/-- Under OVERRUN a frame that is no CLEAR is discarded (R155). -/
theorem offer_overrun_other (ho : s.overrun = true) (hk : e.kind ≠ 7) : s.offer ch e = s := by
  simp [State.offer, ho, Bool.eq_false_iff.2 (isClear_iff.not.2 hk)]

/-- Under OVERRUN a CLEAR behind a waiting CLEAR is discarded (R155). -/
theorem offer_overrun_second (ho : s.overrun = true) (hw : (s.chan ch).recv.waitingClear.isSome = true) :
    s.offer ch e = s := by
  simp [State.offer, ho, State.keepClear, hw]

/-- Under OVERRUN a CLEAR that finds a place joins (R155). -/
theorem offer_overrun_clear (ho : s.overrun = true) (hk : e.kind = 7) (hd : s.directives.length < 4)
    (hw : (s.chan ch).recv.waitingClear = none) : s.offer ch e = s.join e := by
  simp [State.offer, ho, isClear_iff.2 hk, hd, hw]

/-- Under OVERRUN a CLEAR that finds the queue full waits in its receiver (R155). -/
theorem offer_overrun_waits (ho : s.overrun = true) (hk : e.kind = 7) (hd : 4 ≤ s.directives.length)
    (hw : (s.chan ch).recv.waitingClear = none) :
    s.offer ch e = s.onChan ch fun c => { c with recv := { c.recv with waitingClear := some e } } := by
  simp [State.offer, ho, isClear_iff.2 hk, Nat.not_lt.2 hd, State.keepClear, hw]

theorem exec_waitingClearJoin (hl : s.live ch = true) (hw : (s.chan ch).recv.waitingClear = some e)
    (hd : s.directives.length < 4) : exec (.waitingClearJoin ch) s =
      .next ((s.onChan ch fun c => { c with recv := { c.recv with waitingClear := none } }).join e) := by
  simp [exec, execWaitingClearJoin, State.clearJoinDue, State.joinClear, hl, hw, hd]

end

/-- Settles O40. -/
theorem frameRoundTrip : Obligations.FrameRoundTrip := by
  intro s ch ones marker kind target head payload hl hg hh ho hm hp e heard answer
  have hanswer : answer = .next (heard.offer ch e) := exec_directiveFrame_good kind target head hl hg hh hm hp
  have ho' : heard.overrun = false := (onChan_overrun _ _ _).trans ho
  have hd' : heard.directives = s.directives := onChan_directives _ _ _
  have he' : heard.engine = s.engine := onChan_engine _ _ _
  have hnow : heard.now = s.now := onChan_now _ _ _
  refine ⟨wellFormed_frameSymbols ch kind target head hm hp, fun he hd => ?_, fun he hd => ?_, fun hd => ?_⟩
  · rw [hanswer, offer_joins ho' (by rw [hd', hd]; decide), join_idle (he'.trans he) (hd'.trans hd), hnow]
  · rw [hanswer, offer_joins ho' (by rwa [hd']), join_busy (by rwa [he']), hd']
  · rw [hanswer, offer_full ho' (by rwa [hd'])]

/-- Settles O42. -/
theorem overrunFilter : Obligations.OverrunFilter := by
  intro s ch ones kind target head payload hl hp e heard answer
  have hd' : heard.directives = s.directives := onChan_directives _ _ _
  have he' : heard.engine = s.engine := onChan_engine _ _ _
  have hw' : (heard.chan ch).recv.waitingClear = (s.chan ch).recv.waitingClear :=
    (congrArg (fun c : Channel => c.recv.waitingClear) (chan_onChan s ch _)).trans rfl
  refine ⟨fun hg hh ho => ?_, fun hw hd he => ?_⟩
  · have hanswer : answer = .next (heard.offer ch e) :=
      exec_directiveFrame_good kind target head hl hg hh (Nat.le_refl 32) hp
    have ho' : heard.overrun = true := (onChan_overrun _ _ _).trans ho
    refine ⟨fun hk => ?_, fun hk hd hw => ?_, fun hk hw => ?_, fun hk hd hw he => ?_⟩
    · rw [hanswer, offer_overrun_other ho' hk]
    · rw [hanswer, offer_overrun_waits ho' hk (by rwa [hd']) (hw'.trans hw)]
      exact congrArg _ (onChan_onChan s ch _ _)
    · rw [hanswer, offer_overrun_second ho' (by rwa [hw'])]
    · rw [hanswer, offer_overrun_clear ho' hk (by rwa [hd']) (hw'.trans hw), join_busy (by rwa [he']), hd']
  · rw [exec_waitingClearJoin hl hw hd, join_busy (by rwa [onChan_engine]), onChan_directives]

end Sys2Proof.Machine
end

section
/-! PROOFS. Settles O10: a rise during assembly cuts the frame and is answered as without it (R153, R166). What answers a
rise neither reads nor writes the receiver: each of its operations commutes with a change of the receiver. -/

namespace Sys2Proof.Machine

/-! ### A change of the receiver -/

/-- The state with another receiver in a channel. -/
def State.withRecv (s : State) (ch : Ch) (v : Receiver) : State := s.onChan ch fun c => { c with recv := v }

theorem withRecv_same (s : State) (ch : Ch) : s.withRecv ch (s.chan ch).recv = s := setChan_chan s ch

section
variable (s : State) (ch x : Ch) (v : Receiver)

theorem withRecv_chan : (s.withRecv ch v).chan ch = { s.chan ch with recv := v } := chan_onChan s ch _

/-- A change of a channel that leaves its receiver commutes with one of the receiver. -/
theorem withRecv_onChan {f : Channel → Channel} (hf : ∀ c w, f { c with recv := w } = { f c with recv := w }) :
    (s.withRecv ch v).onChan x f = (s.onChan x f).withRecv ch v := by
  cases ch <;> cases x
  · exact congrArg (fun a => { s with a := a }) (hf s.a v)
  · rfl
  · rfl
  · exact congrArg (fun b => { s with b := b }) (hf s.b v)

/-! ### What is read -/

theorem withRecv_now : (s.withRecv ch v).now = s.now := onChan_now _ _ _

theorem withRecv_fits (b : Code) : (s.withRecv ch v).fits x b = s.fits x b := by cases ch <;> cases x <;> rfl

theorem withRecv_stepCost (b : Code) : (s.withRecv ch v).stepCost x b = s.stepCost x b := by
  cases ch <;> cases x <;> rfl

theorem withRecv_laser : ((s.withRecv ch v).chan x).laser = (s.chan x).laser := by cases ch <;> cases x <;> rfl

theorem withRecv_headRec : ((s.withRecv ch v).chan x).headRec = (s.chan x).headRec := by cases ch <;> cases x <;> rfl

theorem withRecv_rampParams : ((s.withRecv ch v).chan x).rampParams = (s.chan x).rampParams := by
  cases ch <;> cases x <;> rfl

theorem withRecv_firstInContest : (s.withRecv ch v).firstInContest = s.firstInContest := by cases ch <;> rfl

theorem withRecv_stepIsDue : (s.withRecv ch v).stepIsDue x = s.stepIsDue x := by cases ch <;> cases x <;> rfl

theorem withRecv_targetOf : (s.withRecv ch v).targetOf x = s.targetOf x := by cases ch <;> cases x <;> rfl

theorem withRecv_seqState : (s.withRecv ch v).seqState x = s.seqState x := by cases ch <;> cases x <;> rfl

theorem withRecv_admission : (s.withRecv ch v).admission x = s.admission x := by cases ch <;> cases x <;> rfl

theorem withRecv_selected : (s.withRecv ch v).selected x = s.selected x := by cases ch <;> cases x <;> rfl

/-! ### The arbiter and the laser code -/

theorem withRecv_freed : (s.withRecv ch v).freed = s.freed.withRecv ch v := by cases ch <;> rfl

theorem withRecv_stepTo (b : Code) : (s.withRecv ch v).stepTo x b = (s.stepTo x b).withRecv ch v := by
  have hstep : (s.withRecv ch v).onChan x (fun c => c.stepTo s.now b) =
      (s.onChan x fun c => c.stepTo s.now b).withRecv ch v := withRecv_onChan s ch x v fun _ _ => rfl
  have hcode : (s.withRecv ch v).code x = s.code x := congrArg Sequencer.code (withRecv_laser s ch x v)
  simp only [State.stepTo, withRecv_now, hcode, withRecv_stepCost, hstep, withRecv_freed]
  exact (apply_ite (State.withRecv · ch v) _ _ _).symm

theorem withRecv_grant : (s.withRecv ch v).grant x = ((s.grant x).1.withRecv ch v, (s.grant x).2) := by
  unfold State.grant
  rw [withRecv_laser]
  split
  · simp only [withRecv_fits, withRecv_stepTo]
    split <;> rfl
  · rfl

theorem withRecv_contest : (s.withRecv ch v).contest = s.contest.withRecv ch v := by
  simp only [State.contest, withRecv_firstInContest, withRecv_grant]
  cases ch <;> rfl

theorem withRecv_settleRecheck : (s.withRecv ch v).settleRecheck = s.settleRecheck.withRecv ch v := by
  let u : State := { s with recheckDue := false }
  have hu : ({ s.withRecv ch v with recheckDue := false } : State) = u.withRecv ch v := by cases ch <;> rfl
  have hdue : (s.withRecv ch v).recheckDue = s.recheckDue := onChan_recheckDue _ _ _
  have ha : (s.withRecv ch v).a.laser = s.a.laser := withRecv_laser s ch .A v
  have hb : (s.withRecv ch v).b.laser = s.b.laser := withRecv_laser s ch .B v
  have hrecheck : (s.withRecv ch v).recheck = s.recheck.withRecv ch v := by
    unfold State.recheck
    dsimp only
    rw [hu, ha, hb]
    cases s.a.laser.want with
    | none =>
      cases s.b.laser.want with
      | none => rfl
      | some _ => exact congrArg Prod.fst (withRecv_grant u ch .B v)
    | some _ =>
      cases s.b.laser.want with
      | none => exact congrArg Prod.fst (withRecv_grant u ch .A v)
      | some _ => exact withRecv_contest u ch v
  rw [State.settleRecheck, State.settleRecheck, hdue, hrecheck]
  exact (apply_ite (State.withRecv · ch v) _ _ _).symm

theorem withRecv_takeStep : (s.withRecv ch v).takeStep x = (s.takeStep x).withRecv ch v := by
  unfold State.takeStep
  simp only [withRecv_settleRecheck, withRecv_laser, withRecv_rampParams, withRecv_fits, withRecv_stepTo]
  split
  · rfl
  · split
    · rfl
    · exact withRecv_onChan _ ch x v fun _ _ => rfl

theorem withRecv_turn : (s.withRecv ch v).turn x = (s.turn x).withRecv ch v := by
  unfold State.turn
  simp only [withRecv_stepIsDue, withRecv_laser]
  rw [withRecv_onChan s ch x v fun _ _ => rfl, withRecv_takeStep]
  exact (apply_ite (State.withRecv · ch v) _ _ _).symm

theorem withRecv_leaveIdle : (s.withRecv ch v).leaveIdle x = (s.leaveIdle x).withRecv ch v := by
  unfold State.leaveIdle
  rw [withRecv_seqState, withRecv_onChan s ch x v fun _ _ => rfl]
  exact (apply_ite (State.withRecv · ch v) _ _ _).symm

theorem withRecv_retarget : (s.withRecv ch v).retarget x = (s.retarget x).withRecv ch v := by
  unfold State.retarget
  dsimp only
  rw [withRecv_targetOf, withRecv_laser, withRecv_onChan s ch x v fun _ _ => rfl, withRecv_turn, ← withRecv_leaveIdle]
  exact congrArg (State.leaveIdle · x) (apply_ite (State.withRecv · ch v) _ _ _).symm

/-! ### The queue -/

theorem withRecv_startReady : (s.withRecv ch v).startReady ch = (s.startReady ch).withRecv ch v := by
  have hready (r : Rec) : ((s.withRecv ch v).chan ch).readyMode r = (s.chan ch).readyMode r := by
    rw [withRecv_chan]
    rfl
  unfold State.startReady
  simp only [withRecv_headRec, withRecv_laser, withRecv_now]
  cases (s.chan ch).headRec with
  | none => rfl
  | some r =>
    dsimp only
    rw [hready, withRecv_onChan s ch ch v fun _ _ => rfl]
    exact (apply_ite (State.withRecv · ch v) _ _ _).symm

theorem withRecv_becomeHead (bridged : Bool) :
    (s.withRecv ch v).becomeHead ch bridged = (s.becomeHead ch bridged).withRecv ch v := by
  unfold State.becomeHead
  simp only [withRecv_chan]
  cases (s.chan ch).queue with
  | nil => rfl
  | cons r rest =>
    dsimp only
    rw [withRecv_onChan s ch ch v fun _ _ => rfl, withRecv_retarget, withRecv_startReady]

theorem dropHead_with_recv (c : Channel) (w : Receiver) :
    ({ c with recv := w } : Channel).dropHead = { c.dropHead with recv := w } := by
  unfold Channel.dropHead
  dsimp only
  split <;> rfl

theorem withRecv_enqueue (r : Rec) : (s.withRecv ch v).enqueue ch r = (s.enqueue ch r).withRecv ch v := by
  have hdrop : (s.withRecv ch v).onChan ch (fun c => { c.dropHead with queue := c.dropHead.queue ++ [r] }) =
      (s.onChan ch fun c => { c.dropHead with queue := c.dropHead.queue ++ [r] }).withRecv ch v :=
    withRecv_onChan s ch ch v fun c w => by rw [dropHead_with_recv]
  unfold State.enqueue
  rw [withRecv_headRec]
  cases (s.chan ch).headRec with
  | none =>
    dsimp only
    rw [withRecv_onChan s ch ch v fun _ _ => rfl, withRecv_becomeHead]
  | some q =>
    dsimp only
    rw [hdrop, withRecv_onChan s ch ch v fun _ _ => rfl, withRecv_becomeHead]
    exact (apply_ite (State.withRecv · ch v) _ _ _).symm

/-- A rise is answered without regard to the receiver (R38 to R41). -/
theorem withRecv_answerRise (n : Seq) : (s.withRecv ch v).answerRise ch n = (s.answerRise ch n).withRecv ch v := by
  unfold State.answerRise
  rw [withRecv_admission]
  cases s.admission ch with
  | ok a =>
    dsimp only
    rw [withRecv_onChan s ch ch v fun _ _ => rfl, withRecv_enqueue]
  | error e =>
    dsimp only
    rw [withRecv_onChan s ch ch v fun _ _ => rfl, withRecv_selected]
    exact post_onChan _ _ _ _

end

/-- The answer to a rise leaves the receiver as it was. -/
theorem answerRise_recv (s : State) (ch : Ch) (n : Seq) : ((s.answerRise ch n).chan ch).recv = (s.chan ch).recv := by
  have h := withRecv_answerRise s ch (s.chan ch).recv n
  rw [withRecv_same] at h
  rw [h, withRecv_chan]

/-! ### The frame that is cut (R150, R153) -/

/-- The receiver HUNTING from an empty count. -/
def Receiver.afresh (v : Receiver) : Receiver := { v with hunt := .hunting 0 }

/-- The DIRECTIVE_CUT of a frame in assembly, by the rise that has taken number `n` (R153). -/
def Assembly.cutBy (a : Assembly) (ch : Ch) (n : Seq) : Incident :=
  { kind := .directiveCut, ch := ch, head := none, burst := some n, detail := min 65535 a.words.length }

theorem cutFrame_assembling {s : State} {ch : Ch} {a : Assembly} (hh : (s.chan ch).recv.hunt = .assembling a)
    (n : Seq) : s.cutFrame ch n = (s.withRecv ch (s.chan ch).recv.afresh).post (a.cutBy ch n) := by
  unfold State.cutFrame
  rw [hh]
  rfl

/-- A rise during assembly has its two parts taken in the order of a free choice (R153, R166). -/
theorem writeRise_assembling {s : State} {ch : Ch} {a : Assembly} (hh : (s.chan ch).recv.hunt = .assembling a)
    (hq : s.storeQuiet ch = true) : s.writeRise ch = (s.raised ch).eitherOrder
      (fun t => t.cutFrame ch (s.chan ch).nextSeq) (fun t => t.answerRise ch (s.chan ch).nextSeq) := by
  have hs : (s.raised ch).settleStore ch = s.raised ch := settleStore_quiet (by rw [raised_storeQuiet, hq])
  have hr : ((s.raised ch).chan ch).recv.hunt = .assembling a := by rw [State.raised, chan_onChan, ← hh]
  change (if (((s.raised ch).settleStore ch).chan ch).assembling then
    ((s.raised ch).settleStore ch).eitherOrder _ _ else _) = _
  rw [hs, if_pos (by rw [Channel.assembling, hr])]

theorem post_live (s : State) (i : Incident) (ch : Ch) : (s.post i).live ch = s.live ch := by
  refine live_congr ?_ ?_ ch <;> rcases post_cases s i with ⟨-, h⟩ | ⟨-, -, -, h⟩ | ⟨-, -, h⟩ <;> rw [h]

theorem storeQuiet_congr {s t : State} {ch : Ch} (hl : t.live ch = s.live ch)
    (hr : (t.chan ch).relay = (s.chan ch).relay) (hh : (t.chan ch).heads = (s.chan ch).heads)
    (hq : (t.chan ch).queue = (s.chan ch).queue) : t.storeQuiet ch = s.storeQuiet ch := by
  simp only [State.storeQuiet, State.promotionDue, Channel.headAt, Channel.hasRecordOf, hl, hr, hh, hq]

/-- Settles O10: the cut comes first, or the answer does and the cut finds the receiver as it was. -/
theorem riseCutsAFrame : Obligations.RiseCutsAFrame := by
  intro s ch a hl hw hh hq bare cut
  let n := (s.chan ch).nextSeq
  let v := (s.chan ch).recv.afresh
  let u := (s.raised ch).chosen
  have hexec : exec (.writeGateRise ch) s = .next (s.writeRise ch) := by simp [exec, execWriteGateRise, hl, hw]
  have hu : u.chan ch = { s.chan ch with wg := filterAt true, nextSeq := n + 1 } :=
    (chan_chosen _ _).trans (chan_onChan _ _ _)
  have hur : (u.chan ch).recv = (s.chan ch).recv := by rw [hu]
  have hbare : bare.chan ch = { s.chan ch with recv := v } := (chan_with_freeCount _ _ _).trans (chan_onChan _ _ _)
  have hrisen : bare.risen ch = u.withRecv ch v := by cases ch <;> rfl
  have hlive : bare.live ch = true := (live_congr (onChan_rstnLow _ _ _) (onChan_straps _ _ _) ch).trans hl
  have hquiet : bare.storeQuiet ch = true := by
    rw [← hq]
    refine storeQuiet_congr (hlive.trans hl.symm) ?_ ?_ ?_ <;> rw [hbare]
  have answered {t : State} (hc : t.chan ch = bare.chan ch) (ht : t.live ch = bare.live ch) :
      exec (.writeGateRise ch) t = .next ((t.risen ch).answerRise ch n) := by
    have htq : t.storeQuiet ch = true :=
      (storeQuiet_congr ht (by rw [hc]) (by rw [hc]) (by rw [hc])).trans hquiet
    rw [exec_writeGateRise_quiet (ones := 0) (ht.trans hlive) (by rw [hc, hbare, ← hw]) (by rw [hc, hbare]; rfl) htq,
      hc, hbare]
  rw [hexec, writeRise_assembling hh hq, State.eitherOrder]
  split
  · left
    have hfirst : u.cutFrame ch n = (bare.post cut).risen ch := by
      rw [cutFrame_assembling (by rw [hur, hh]), hur, ← hrisen]
      exact post_onChan _ _ _ _
    rw [answered (chan_post _ _ _) (post_live _ _ _), ← hfirst]
  · right
    have hkept : ((u.answerRise ch n).chan ch).recv = (s.chan ch).recv := (answerRise_recv _ _ _).trans hur
    have hlast : (u.answerRise ch n).cutFrame ch n = ((bare.risen ch).answerRise ch n).post cut := by
      rw [cutFrame_assembling (by rw [hkept, hh]), hkept, hrisen, withRecv_answerRise]
      rfl
    exact ⟨_, answered rfl rfl, congrArg _ hlast⟩

end Sys2Proof.Machine
end

section
/-! PROOFS. What is written to the incident queue: what each shared operation, and then each command, can do to the
stored and the deferred incidents (R166, R167, R170). -/

namespace Sys2Proof.Machine

/-! ### What is written -/

/-- From `s` on, nothing is written to the incident queue but incidents that reach it, deferred ones that are stored,
and the removal of the oldest (R166, R167, R170). -/
inductive State.Logs (s : State) : State → Prop
  | refl : State.Logs s s
  /-- What leaves the stored incidents, the next number and the deferred incidents. -/
  | same {t u} (h : State.Logs s t) (e : u.ledger = t.ledger) : State.Logs s u
  /-- R166, R167. -/
  | post {t} (h : State.Logs s t) (i : Incident) : State.Logs s (t.post i)
  /-- R167. -/
  | storeDeferred {t} (h : State.Logs s t) (d : Deferred) : State.Logs s (t.storeDeferred d)
  /-- R170. -/
  | removeIncidents {t} (h : State.Logs s t) (n : Nat) : State.Logs s (t.removeIncidents n)

namespace State.Logs

variable {s0 s t : State}

theorem onChan (h : s0.Logs s) (ch : Ch) (f : Channel → Channel) : s0.Logs (s.onChan ch f) :=
  h.same (onChan_ledger s ch f)

/-- A change of the sequencers and the arbiter alone. -/
theorem view (h : s0.Logs s) (hv : t.sansLaser = s.sansLaser) : s0.Logs t := h.same (ledger_of_sansLaser hv)

theorem ite {p : Prop} [Decidable p] (hs : s0.Logs s) (ht : s0.Logs t) : s0.Logs (if p then s else t) := by
  split
  · exact hs
  · exact ht

theorem foldl {α : Type} {f : State → α → State} (hf : ∀ {s : State} (x : α), s0.Logs s → s0.Logs (f s x)) (xs : List α)
    (h : s0.Logs s) : s0.Logs (xs.foldl f s) := by
  induction xs generalizing s with
  | nil => exact h
  | cons x xs ih => exact ih (hf x h)

theorem postAll (h : s0.Logs s) (is : List Incident) : s0.Logs (s.postAll is) := foldl (fun i h => h.post i) is h

theorem chosen (h : s0.Logs s) : s0.Logs s.chosen := h.same rfl

theorem eitherOrder (h : s0.Logs s) {f g : State → State} (hf : ∀ {s : State}, s0.Logs s → s0.Logs (f s))
    (hg : ∀ {s : State}, s0.Logs s → s0.Logs (g s)) : s0.Logs (s.eitherOrder f g) := by
  rcases eitherOrder_cases s f g with e | e <;> rw [e]
  · exact hg (hf h.chosen)
  · exact hf (hg h.chosen)

/-! ### The laser code -/

theorem settleRecheck (h : s0.Logs s) : s0.Logs s.settleRecheck := h.view (settleRecheck_sansLaser s)

theorem retarget (h : s0.Logs s) (ch : Ch) : s0.Logs (s.retarget ch) := h.view (retarget_sansLaser s ch)

theorem directZero (h : s0.Logs s) (ch : Ch) : s0.Logs (s.directZero ch) := h.view (directZero_sansLaser s ch)

/-! ### Lockout and the thermal monitor -/

theorem enterLockout (h : s0.Logs s) (ch : Ch) : s0.Logs (s.enterLockout ch) :=
  (((h.onChan ch _).directZero ch).retarget ch).postAll _

theorem raiseFault (h : s0.Logs s) (i : Incident) : s0.Logs (s.raiseFault i) :=
  ite (h.post i) ((h.post i).enterLockout _)

theorem evaluate (h : s0.Logs s) (ch : Ch) (hd : HeadNo) : s0.Logs (s.evaluate ch hd) := by
  rcases evaluate_cases s ch hd with ⟨-, e⟩ | ⟨x, -, ⟨-, -, e⟩ | ⟨-, e⟩⟩ <;> rw [e]
  · exact h
  · exact (h.onChan ch _).raiseFault _
  · exact h.onChan ch _

theorem evaluateAll (h : s0.Logs s) (ch : Ch) : s0.Logs (s.evaluateAll ch) :=
  foldl (fun hd h => h.evaluate ch hd) allHeads h

/-! ### The fence window and promotion -/

theorem beginFence (h : s0.Logs s) (ch : Ch) : s0.Logs (s.beginFence ch) := (h.onChan ch _).postAll _

theorem computeFence (h : s0.Logs s) (ch : Ch) : s0.Logs (s.computeFence ch) := h.onChan ch _

theorem refenceEmpty (h : s0.Logs s) (ch : Ch) : s0.Logs (s.refenceEmpty ch) :=
  ite (ite (((h.computeFence ch).beginFence ch).retarget ch) (h.computeFence ch)) h

theorem promote (h : s0.Logs s) (ch : Ch) (hd : HeadNo) : s0.Logs (s.promote ch hd) := by
  unfold State.promote
  dsimp only
  split
  · exact h
  · next x _ =>
    have evaluated := (h.onChan ch (fun c =>
      c.setHead hd { (s.chan ch).headAt hd with active := some x, pending := .none })).evaluate ch hd
    exact ite ((evaluated.view (promoteLaser_sansLaser _ ch x)).refenceEmpty ch) evaluated
  · exact ite ((((h.onChan ch _).directZero ch).retarget ch).refenceEmpty ch) (h.onChan ch _)

theorem settleStore (h : s0.Logs s) (ch : Ch) : s0.Logs (s.settleStore ch) := by
  unfold State.settleStore
  split
  · exact ite (h.promote ch _) h
  · exact h

theorem announceEmpty (h : s0.Logs s) (ch : Ch) : s0.Logs (s.announceEmpty ch) := by
  rcases announceEmpty_cases s ch with ⟨-, e⟩ | ⟨hd, -, e | e⟩ <;> rw [e]
  · exact h.retarget ch
  · exact (h.chosen.promote ch hd).retarget ch
  · exact h.chosen.retarget ch

theorem openFenceAfter (h : s0.Logs s) (ch : Ch) (had : Bool) : s0.Logs (s.openFenceAfter ch had) := by
  rcases openFenceAfter_cases s ch had with ⟨-, e⟩ | ⟨-, e | e⟩ <;> rw [e]
  · exact h
  · exact (h.beginFence ch).announceEmpty ch
  · exact (h.beginFence ch).retarget ch

theorem openFence (h : s0.Logs s) (ch : Ch) : s0.Logs (s.openFence ch) := h.openFenceAfter ch _

theorem refence (h : s0.Logs s) (ch : Ch) : s0.Logs (s.refence ch) := by
  rcases refence_cases s ch with ⟨-, e⟩ | ⟨-, ⟨-, e⟩ | ⟨-, e⟩⟩ <;> rw [e]
  · exact h
  · exact (h.computeFence ch).openFence ch
  · exact h.computeFence ch

theorem closeFence (h : s0.Logs s) (ch : Ch) : s0.Logs (s.closeFence ch) := ite ((h.onChan ch _).retarget ch) h

theorem switchHead (h : s0.Logs s) (ch : Ch) (hd : Option HeadNo) : s0.Logs (s.switchHead ch hd) :=
  (((h.onChan ch _).directZero ch).retarget ch).refence ch

/-! ### Departures -/

theorem becomeHead (h : s0.Logs s) (ch : Ch) (b : Bool) : s0.Logs (s.becomeHead ch b) := by
  unfold State.becomeHead
  dsimp only
  split
  · exact h
  · exact ((h.onChan ch _).retarget ch).view (startReady_sansLaser _ ch)

theorem afterDeparture (h : s0.Logs s) (ch : Ch) (b : Bool) : s0.Logs (s.afterDeparture ch b) :=
  ite (h.announceEmpty ch) (h.becomeHead ch b)

theorem departHead (h : s0.Logs s) (ch : Ch) (b : Bool) (is : List Incident) : s0.Logs (s.departHead ch b is) :=
  ((h.onChan ch _).postAll is).afterDeparture ch b

/-! ### The gates -/

theorem answerRise (h : s0.Logs s) (ch : Ch) (n : Seq) : s0.Logs (s.answerRise ch n) := by
  unfold State.answerRise State.enqueue
  split
  · dsimp only
    split
    · exact ((h.onChan ch _).onChan ch _).becomeHead ch _
    · exact ite (((h.onChan ch _).onChan ch _).becomeHead ch _) ((h.onChan ch _).onChan ch _)
  · exact (h.onChan ch _).post _

theorem cutFrame (h : s0.Logs s) (ch : Ch) (n : Seq) : s0.Logs (s.cutFrame ch n) := by
  unfold State.cutFrame
  dsimp only
  split
  · exact h.onChan ch _
  · exact (h.onChan ch _).post _

theorem writeRise (h : s0.Logs s) (ch : Ch) : s0.Logs (s.writeRise ch) := by
  have settled := (h.onChan ch (fun c =>
    { c with wg := filterAt true, nextSeq := (s.chan ch).nextSeq + 1 })).settleStore ch
  exact ite (settled.eitherOrder (fun h => h.cutFrame ch _) fun h => h.answerRise ch _)
    ((settled.cutFrame ch _).answerRise ch _)

theorem readRise (h : s0.Logs s) (ch : Ch) : s0.Logs (s.readRise ch) := (h.onChan ch _).retarget ch

theorem readFall (h : s0.Logs s) (ch : Ch) : s0.Logs (s.readFall ch) := (h.onChan ch _).retarget ch

theorem encroach (h : s0.Logs s) (ch : Ch) : s0.Logs (s.encroach ch) := by
  unfold State.encroach
  dsimp only
  split
  · exact ite ((h.onChan ch _).post _) (h.onChan ch _)
  · exact h.onChan ch _

theorem servoFence (h : s0.Logs s) (ch : Ch) : s0.Logs (s.servoFence ch) :=
  ite (ite ((h.encroach ch).afterDeparture ch _) (h.encroach ch)) ((h.encroach ch).openFenceAfter ch _)

theorem capture (h : s0.Logs s) (ch : Ch) : s0.Logs (s.capture ch) := by
  unfold State.capture
  dsimp only
  split
  · exact h.onChan ch _
  · exact (h.onChan ch _).refence ch
  · exact ite ((h.onChan ch _).refence ch) ((h.onChan ch _).post _)

theorem servoRise (h : s0.Logs s) (ch : Ch) : s0.Logs (s.servoRise ch) := by
  have risen := h.onChan ch (fun c => { c with sg := filterAt true })
  exact ite (risen.eitherOrder (fun h => h.servoFence ch) fun h => h.capture ch) ((risen.servoFence ch).capture ch)

theorem servoFall (h : s0.Logs s) (ch : Ch) : s0.Logs (s.servoFall ch) := (h.onChan ch _).closeFence ch

/-! ### The directive receivers -/

theorem takeNext (h : s0.Logs s) : s0.Logs s.takeNext := by
  rw [takeNext_eq]
  exact h.same rfl

theorem join (h : s0.Logs s) (e : Entry) : s0.Logs (s.join e) := by
  have joined : s0.Logs { s with directives := s.directives ++ [e] } := h.same rfl
  exact ite joined.takeNext joined

theorem offer (h : s0.Logs s) (ch : Ch) (e : Entry) : s0.Logs (s.offer ch e) := by
  have marked : s0.Logs { s with overrun := true } := h.same rfl
  have kept : s0.Logs (s.keepClear ch e) := ite h (h.onChan ch _)
  exact ite (ite h (ite (ite h (h.join e)) kept)) (ite (h.join e) (marked.post _))

theorem handSymbol (h : s0.Logs s) (ch : Ch) (b : Bool) : s0.Logs (s.handSymbol ch b) := by
  unfold State.handSymbol State.received
  dsimp only
  split
  · exact h.onChan ch _
  · exact (h.onChan ch _).post _
  · exact (h.onChan ch _).offer ch _

theorem handSymbols (h : s0.Logs s) (ch : Ch) (bs : List Bool) : s0.Logs (s.handSymbols ch bs) :=
  foldl (fun b h => h.handSymbol ch b) bs h

theorem joinClear (h : s0.Logs s) (ch : Ch) : s0.Logs (s.joinClear ch) := by
  unfold State.joinClear
  split
  · exact (h.onChan ch _).join _
  · exact h

/-! ### The write clock -/

theorem abandonRate (h : s0.Logs s) (ch : Ch) : s0.Logs (s.abandonRate ch) :=
  ite (h.onChan ch _) ((h.onChan ch _).post _)

theorem rateEdge (h : s0.Logs s) (ch : Ch) : s0.Logs (s.rateEdge ch) := by
  have timed : s0.Logs (if s.rateExpired ch then s.abandonRate ch else s) := ite (h.abandonRate ch) h
  exact timed.onChan ch fun c => { c with rate := c.rate.countEdge s.now }

theorem settleGate (h : s0.Logs s) (f : Filter) {rise fall : State → State} (hr : s0.Logs (rise s))
    (hf : s0.Logs (fall s)) : s0.Logs (s.settleGate f rise fall) := ite h (ite hf hr)

theorem settleEdges (h : s0.Logs s) (ch : Ch) : s0.Logs (s.settleEdges ch) := by
  have gated (f g k : Filter) : s0.Logs (((s.settleGate f (fun t => t.writeRise ch)
      fun t => t.writeFall ch).settleGate g (fun t => t.servoRise ch) fun t => t.servoFall ch).settleGate k
        (fun t => t.readRise ch) fun t => t.readFall ch) := by
    have wg : s0.Logs (s.settleGate f (fun t => t.writeRise ch) fun t => t.writeFall ch) :=
      h.settleGate f (h.writeRise ch) (h.onChan ch _)
    have sg : s0.Logs (State.settleGate _ g (fun t => t.servoRise ch) fun t => t.servoFall ch) :=
      wg.settleGate g (wg.servoRise ch) (wg.servoFall ch)
    exact sg.settleGate k (sg.readRise ch) (sg.readFall ch)
  exact ite ((gated _ _ _).onChan ch _) (gated _ _ _)

theorem releaseHead (h : s0.Logs s) (ch : Ch) : s0.Logs (s.releaseHead ch) := by
  unfold State.releaseHead
  dsimp only
  split
  · exact h
  · exact ite (h.departHead ch _ _) (h.onChan ch _)

theorem afterSymbol (h : s0.Logs s) (ch : Ch) (r : Rec) : s0.Logs (s.afterSymbol ch r) := by
  have ended : s0.Logs (s.normalEnd ch) := ite ((h.onChan ch _).departHead ch _ _) ((h.onChan ch _).onChan ch _)
  have truncated : s0.Logs (s.truncateHead ch r) := (h.onChan ch _).post _
  exact ite ended (ite truncated h)

theorem sendSymbol (h : s0.Logs s) (ch : Ch) (r : Rec) : s0.Logs (s.sendSymbol ch r) := by
  unfold State.sendSymbol
  split
  · exact h
  · exact (h.onChan ch _).afterSymbol ch _

theorem releaseEdge (h : s0.Logs s) (ch : Ch) : s0.Logs (s.releaseEdge ch) := by
  have taken := h.onChan ch (fun c => { c with releaseTaken := true })
  refine ite ((ite (taken.releaseHead ch) taken).onChan ch _) ?_
  split
  · exact taken.sendSymbol ch _
  · exact taken.onChan ch _

theorem overflowAbort (h : s0.Logs s) (ch : Ch) (r : Rec) : s0.Logs (s.overflowAbort ch r) :=
  ite ((((h.onChan ch _).post _).onChan ch _).announceEmpty ch) ((h.onChan ch _).post _)

theorem routeSymbol (h : s0.Logs s) (ch : Ch) (b : Bool) : s0.Logs (s.routeSymbol ch b) := by
  unfold State.routeSymbol State.storeSymbol State.discardSymbol
  split
  · exact h.handSymbol ch b
  · split
    · exact h
    · exact ite (h.onChan ch _) (h.overflowAbort ch _)
  · split
    · exact h
    · exact h.onChan ch _

theorem intakeEdge (h : s0.Logs s) (ch : Ch) (wd wg sg rg : Bool) : s0.Logs (s.intakeEdge ch wd wg sg rg) := by
  have advanced : s0.Logs (s.advanceHold ch wd) := by
    unfold State.advanceHold
    split
    · exact (h.onChan ch _).routeSymbol ch _
    · exact h.onChan ch _
  exact (advanced.rateEdge ch).onChan ch _

/-! ### The heat, the wedge timer and the link relay -/

theorem advancePark (h : s0.Logs s) (ch : Ch) : s0.Logs (s.advancePark ch) := ite (h.onChan ch _) h

theorem takeHeat (h : s0.Logs s) : s0.Logs s.takeHeat :=
  (((((h.onChan .A _).onChan .B _).evaluateAll .A).evaluateAll .B).advancePark .A).advancePark .B

theorem coast (h : s0.Logs s) (ch : Ch) : s0.Logs (s.coast ch) := by
  have coasted := (h.onChan ch (fun c => { c with wedge := c.wedge.coast })).computeFence ch
  exact ite (coasted.closeFence ch) (ite (coasted.openFence ch) coasted)

theorem secondMiss (h : s0.Logs s) (ch : Ch) : s0.Logs (s.secondMiss ch) := ((h.onChan ch _).post _).closeFence ch

theorem takeHeader (h : s0.Logs s) (ch : Ch) (header : BitVec 8) (fall : BitVec 31) :
    s0.Logs (s.takeHeader ch header fall) :=
  ite (ite (((h.onChan ch _).onChan ch _).onChan ch _) (((h.onChan ch _).onChan ch _).onChan ch _))
    ((h.onChan ch _).onChan ch _)

theorem updateHead (h : s0.Logs s) (ch : Ch) (bits : List Bool) : s0.Logs (s.updateHead ch bits) :=
  ite ((h.onChan ch _).switchHead ch _) (((h.onChan ch _).post _).switchHead ch _)

theorem endFrame (h : s0.Logs s) (ch : Ch) (all : List Bool) : s0.Logs (s.endFrame ch all) := by
  unfold State.endFrame
  dsimp only
  split
  · exact h.onChan ch _
  · exact h.onChan ch _
  · exact h.onChan ch _
  · exact ite (h.onChan ch _) (ite (h.updateHead ch all) (h.onChan ch _))
  · exact ite (h.onChan ch _) (h.onChan ch _)
  · exact h
  · exact h

theorem forceSwitch (h : s0.Logs s) (ch : Ch) : s0.Logs (s.forceSwitch ch) := by
  unfold State.forceSwitch
  dsimp only
  split
  · exact ((h.onChan ch _).post _).announceEmpty ch
  · exact h.onChan ch _

/-! ### Reports and CLEAR -/

theorem requestReport (h : s0.Logs s) : s0.Logs s.requestReport := ite (h.same rfl) (h.same rfl)

theorem finishReport (h : s0.Logs s) : s0.Logs s.finishReport := ite (h.same rfl) (h.same rfl)

theorem storeAllDeferred (h : s0.Logs s) : s0.Logs s.storeAllDeferred :=
  foldl (fun d h => h.storeDeferred d) _ (ite h.chosen h)

theorem checkLockout (h : s0.Logs s) (ch : Ch) (was : Bool) : s0.Logs (s.checkLockout ch was) :=
  (h.postAll (s.checkTrips ch was)).same (checkLockout_ledger s ch was)

/-- A CLEAR removes the oldest, stores what is deferred, and sends the fresh trips of the channels it examines (R120,
R170). -/
theorem applyClear (h : s0.Logs s) (e : Entry) : s0.Logs (s.applyClear e) := by
  have stored := (h.removeIncidents (e.word 1).toNat).storeAllDeferred
  have checked : s0.Logs (s.afterClear (e.word 1).toNat) := by
    obtain ⟨first, t, ht, eq⟩ := checkLockouts_cases (s.removeIncidents (e.word 1).toNat).storeAllDeferred s
    have begun : s0.Logs t := stored.same (chosen_shared ht).2.1
    rw [State.afterClear, eq]
    exact (begun.checkLockout _ _).checkLockout _ _
  refine checked.same ?_
  rw [State.applyClear, clearIncidents_eq]
  rfl

/-! ### The directive engine -/

theorem setPending (h : s0.Logs s) (ch : Ch) (hd : HeadNo) (p : Pending) : s0.Logs (s.setPending ch hd p) :=
  ite (h.onChan ch _) ((h.onChan ch _).promote ch hd)

theorem applyContext (h : s0.Logs s) (e : Entry) : s0.Logs (s.applyContext e) := by
  have begun : s0.Logs (if reasonOpen e then s.chosen else s) := ite h.chosen h
  unfold State.applyContext State.loadContext
  dsimp only
  split
  · exact begun.post _
  · exact setPending (ite begun (begun.post _)) _ _ _

theorem applyRelease (h : s0.Logs s) (e : Entry) : s0.Logs (s.applyRelease e) := ite h (h.setPending _ _ _)

theorem applyLevels (h : s0.Logs s) (e : Entry) : s0.Logs (s.applyLevels e) := by
  have settled := h.settleRecheck
  exact ite (settled.post _) (ite (settled.post _) (ite (settled.same rfl) (settled.same rfl)))

theorem applyGlobal (h : s0.Logs s) (e : Entry) : s0.Logs (s.applyGlobal e) := by
  have settled := h.settleRecheck
  exact ite (settled.post _) (ite (settled.post _) (ite (settled.same rfl) (settled.same rfl)))

theorem recheckHead (h : s0.Logs s) (ch : Ch) : s0.Logs (s.recheckHead ch) := by
  unfold State.recheckHead
  dsimp only
  split
  · exact ite ((h.post _).switchHead ch _) h
  · exact h

theorem applySetup (h : s0.Logs s) (e : Entry) : s0.Logs (s.applySetup e) :=
  ite (ite (h.chosen.post _) (h.post _))
    (ite (h.post _) (((h.onChan _ _).view (parkOff_sansLaser _ _)).recheckHead _))

theorem resetChannel (h : s0.Logs s) (ch : Ch) : s0.Logs (s.resetChannel ch) :=
  ite (((h.onChan ch _).directZero ch).retarget ch) (((h.onChan ch _).directZero ch).announceEmpty ch)

theorem applyForce (h : s0.Logs s) (e : Entry) : s0.Logs (s.applyForce e) := ite ((h.onChan _ _).retarget _) (h.post _)

theorem endForce (h : s0.Logs s) (ch : Ch) : s0.Logs (s.endForce ch) := (h.onChan ch _).retarget ch

/-- An application writes what its effect writes, or its refusal (R156, R157). -/
theorem applyKind (h : s0.Logs s) (d : Directive) (pick : Entry → Bool) {effect : State → Entry → State}
    (he : ∀ e, s0.Logs (effect s e)) : s0.Logs (s.applyKind d pick effect) := by
  unfold State.applyKind State.apply
  split
  · next e _ =>
    refine takeNext ?_
    split
    · exact h.post _
    · exact he e
  · exact h

end State.Logs

/-! ### Every command -/

theorem execLinkFrameStart_logs (ch : Ch) (s : State) : ∃ t, execLinkFrameStart ch s = .next t ∧ s.Logs t := by
  have low := State.Logs.refl.onChan (s := s) ch (fun c => { c with lks := false })
  exact ⟨_, rfl, .ite (.ite (low.onChan ch _) (.ite (low.onChan ch _) low)) low⟩

theorem execLinkFrameEnd_logs (ch : Ch) (bits : List Bool) (s : State) :
    ∃ t, execLinkFrameEnd ch bits s = .next t ∧ s.Logs t := by
  have high := State.Logs.refl.onChan (s := s) ch (fun c => { c with lks := true })
  exact ⟨_, rfl, .ite (.ite (high.onChan ch _) (high.endFrame ch _)) high⟩

theorem execLrdyFall_logs (ch : Ch) (s : State) : ∃ t, execLrdyFall ch s = .next t ∧ s.Logs t := by
  refine ⟨_, rfl, ?_⟩
  split
  · exact (State.Logs.refl.onChan ch _).raiseFault _
  · exact State.Logs.refl.onChan ch _

theorem execSymbolIntake_logs (ch : Ch) (wd wg sg rg : Bool) (s : State) :
    ∃ t, execSymbolIntake ch wd wg sg rg s = .next t ∧ s.Logs t := by
  have settled : s.Logs (s.settleEdges ch) := State.Logs.refl.settleEdges ch
  exact ⟨_, rfl, .ite ((State.Logs.ite settled (settled.releaseEdge ch)).intakeEdge ch wd wg sg rg) .refl⟩

theorem execHeatTick_logs (s : State) : ∃ t, execHeatTick s = .next t ∧ s.Logs t := by
  have marked : s.Logs { s with heatTaken := true } := State.Logs.refl.same rfl
  exact ⟨_, rfl, .ite (.ite marked marked.takeHeat) .refl⟩

theorem execUnknownKind_logs (s : State) : ∃ t, execUnknownKind s = .next t ∧ s.Logs t := by
  refine ⟨_, rfl, ?_⟩
  split
  · exact .ite (State.Logs.refl.post _).takeNext .refl
  · exact .refl

theorem execDeferredIncidentStore_logs (ch : Ch) (s : State) :
    ∃ t, execDeferredIncidentStore ch s = .next t ∧ s.Logs t := by
  refine ⟨_, rfl, ?_⟩
  split
  · exact State.Logs.refl.storeDeferred _
  · exact .refl

/-- Every command but a reset of the whole part answers a next state, and writes to the incident queue in these ways
alone. -/
theorem exec_logs (c : Instr) (s : State) (hc : isReset c = false) : ∃ t, exec c s = .next t ∧ s.Logs t := by
  have h : s.Logs s := .refl
  have changed (ch : Ch) (f : Channel → Channel) : s.Logs (s.onChan ch f) := h.onChan ch f
  cases c with
  | powerOn | rstnLow | resetRelease => simp [isReset] at hc
  | writeGateRise ch => exact ⟨_, rfl, .ite (h.writeRise ch) h⟩
  | writeGateFall ch => exact ⟨_, rfl, .ite (changed ch _) h⟩
  | symbolIntake ch wd wg sg rg => exact execSymbolIntake_logs ch wd wg sg rg s
  | symbolRelease ch => exact ⟨_, rfl, .ite ((h.settleEdges ch).releaseEdge ch) h⟩
  | release ch => exact ⟨_, rfl, .ite (h.releaseHead ch) h⟩
  | tailExpiry ch => exact ⟨_, rfl, .ite (h.departHead ch _ _) h⟩
  | promotion ch head => exact ⟨_, rfl, .ite (h.promote ch head) h⟩
  | readyTimeout ch => exact ⟨_, rfl, .ite (h.departHead ch _ _) h⟩
  | lrdyRise ch => exact ⟨_, rfl, changed ch _⟩
  | lrdyFall ch => exact execLrdyFall_logs ch s
  | pfiChange ch level => exact ⟨_, rfl, changed ch _⟩
  | rampStep ch => exact ⟨_, rfl, .ite (h.view (takeStep_sansLaser s ch)) h⟩
  | stepGrant => exact ⟨_, rfl, h.settleRecheck⟩
  | rampComplete ch =>
    exact ⟨_, rfl, .ite (((changed ch _).view (startReady_sansLaser _ ch)).view (leaveIdle_sansLaser _ ch)) h⟩
  | heatTick => exact execHeatTick_logs s
  | parkExpiry ch => exact ⟨_, rfl, .ite ((changed ch _).retarget ch) h⟩
  | readGateRise ch => exact ⟨_, rfl, .ite (h.readRise ch) h⟩
  | readGateFall ch => exact ⟨_, rfl, .ite (h.readFall ch) h⟩
  | prgRise ch => exact ⟨_, rfl, .ite (changed ch _) h⟩
  | servoGateRise ch => exact ⟨_, rfl, .ite (h.servoRise ch) h⟩
  | servoGateFall ch => exact ⟨_, rfl, .ite (h.servoFall ch) h⟩
  | fenceTickReached ch => exact ⟨_, rfl, .ite (h.openFence ch) h⟩
  | acquisitionAbandon ch => exact ⟨_, rfl, .ite (changed ch _) h⟩
  | wedgeMissExpiry ch => exact ⟨_, rfl, .ite (.ite (h.coast ch) (h.secondMiss ch)) h⟩
  | rateWindowComplete ch => exact ⟨_, rfl, .ite (changed ch _) h⟩
  | rateWindowAbandon ch => exact ⟨_, rfl, .ite (h.abandonRate ch) h⟩
  | linkFrameStart ch => exact execLinkFrameStart_logs ch s
  | linkHeaderTaken ch header fall => exact ⟨_, rfl, .ite (h.takeHeader ch header fall) h⟩
  | catchUpComplete ch => exact ⟨_, rfl, .ite (.ite (h.updateHead ch _) (changed ch _)) h⟩
  | linkFrameEnd ch bits => exact execLinkFrameEnd_logs ch bits s
  | heldFrameReplay ch bits fall => exact ⟨_, rfl, .ite (changed ch _) h⟩
  | replayComplete ch => exact ⟨_, rfl, .ite ((changed ch _).updateHead ch _) h⟩
  | waitingFrameRelease ch => exact ⟨_, rfl, .ite (changed ch _) h⟩
  | holdLimitExpiry ch => exact ⟨_, rfl, .ite (h.forceSwitch ch) h⟩
  | directiveFrame ch symbols => exact ⟨_, rfl, .ite (h.handSymbols ch symbols) h⟩
  | waitingClearJoin ch => exact ⟨_, rfl, .ite (h.joinClear ch) h⟩
  | headContext => exact ⟨_, rfl, h.applyKind _ _ h.applyContext⟩
  | releaseContext => exact ⟨_, rfl, h.applyKind _ _ h.applyRelease⟩
  | levelTable => exact ⟨_, rfl, h.applyKind _ _ h.applyLevels⟩
  | channelSetup => exact ⟨_, rfl, h.applyKind _ _ h.applySetup⟩
  | globalSetup => exact ⟨_, rfl, h.applyKind _ _ h.applyGlobal⟩
  | report => exact ⟨_, rfl, h.applyKind _ _ fun _ => h.requestReport⟩
  | clear => exact ⟨_, rfl, h.applyKind _ _ h.applyClear⟩
  | deferredIncidentStore ch => exact execDeferredIncidentStore_logs ch s
  | channelReset => exact ⟨_, rfl, h.applyKind _ _ fun e => h.resetChannel e.target⟩
  | forceLevel => exact ⟨_, rfl, h.applyKind _ _ h.applyForce⟩
  | forceEnd => exact ⟨_, rfl, h.applyKind _ _ fun e => h.endForce e.target⟩
  | unknownKind => exact execUnknownKind_logs s
  | reportFrameEnd => exact ⟨_, rfl, .ite h.finishReport h⟩

end Sys2Proof.Machine
end

section
/-! PROOFS. Settles O52: what is written to the incident queue keeps its numbers consecutive (R166, R167, R170). -/

namespace Sys2Proof.Machine

/-! ### The numbers of the stored incidents (R166) -/

/-- The law place by place: an incident with `k` others behind it carries the number `k + 1` before the next one. -/
theorem incidentsOk_iff (s : State) : s.IncidentsOk ↔ s.incidents.length ≤ 16 ∧
    ∀ (i : Nat) (hi : i < s.incidents.length),
      (s.incidents[i]).number = s.nextIncident - BitVec.ofNat 16 (s.incidents.length - i) := by
  unfold State.IncidentsOk
  refine and_congr_right fun _ => ⟨fun h i hi => ?_, fun h => ?_⟩
  · have := List.getElem_of_eq h (i := i) (by simpa using hi)
    simpa using this
  · refine List.ext_getElem (by simp) fun i hi _ => ?_
    simpa using h i (by simpa using hi)

theorem incidentsOk_of_ledger {s t : State} (h : t.ledger = s.ledger) (hs : s.IncidentsOk) : t.IncidentsOk := by
  obtain ⟨hi, hn, -⟩ := ledger_ext h
  rw [incidentsOk_iff] at hs ⊢
  simpa only [hi, hn] using hs

/-- With one incident more, the ones before it stand one place further from the next number. -/
theorem number_next (n : Seq) {k i : Nat} (h : i ≤ k) :
    n + 1 - BitVec.ofNat 16 (k + 1 - i) = n - BitVec.ofNat 16 (k - i) := by
  have : k + 1 - i = k - i + 1 := by omega
  rw [this, BitVec.ofNat_add]
  bv_omega

/-- An incident stored with the next number keeps the law. -/
theorem incidentsOk_stored {s t : State} {i : Incident} (hs : s.IncidentsOk) (hroom : s.incidents.length < 16)
    (hi : t.incidents = s.incidents ++ [{ number := s.nextIncident, incident := i }])
    (hn : t.nextIncident = s.nextIncident + 1) : t.IncidentsOk := by
  rw [incidentsOk_iff] at hs ⊢
  have hlen : t.incidents.length = s.incidents.length + 1 := by simp [hi]
  refine ⟨by omega, fun j hj => ?_⟩
  have hle : j ≤ s.incidents.length := by omega
  rw [hlen, hn, number_next _ hle]
  simp only [hi]
  rcases Nat.lt_or_eq_of_le hle with hlt | rfl
  · rw [List.getElem_append_left hlt]
    exact hs.2 j hlt
  · simp

theorem post_incidentsOk {s : State} (i : Incident) (h : s.IncidentsOk) : (s.post i).IncidentsOk := by
  rcases post_cases s i with ⟨hroom, e⟩ | ⟨-, -, -, e⟩ | ⟨-, -, e⟩ <;> rw [e]
  · exact incidentsOk_stored h hroom rfl rfl
  · exact h
  · exact h

theorem storeDeferred_incidentsOk {s : State} (d : Deferred) (h : s.IncidentsOk) : (s.storeDeferred d).IncidentsOk := by
  unfold State.storeDeferred
  split
  · next hroom => exact incidentsOk_stored h hroom rfl rfl
  · exact h

/-- The incidents that stay behind a removal of the oldest keep their distance from the next number (R170). -/
theorem removeIncidents_incidentsOk {s : State} (n : Nat) (h : s.IncidentsOk) : (s.removeIncidents n).IncidentsOk := by
  rw [incidentsOk_iff] at h ⊢
  obtain ⟨hlen, hnum⟩ := h
  simp only [State.removeIncidents, List.length_drop, List.getElem_drop]
  refine ⟨by omega, fun i hi => ?_⟩
  rw [hnum (n + i) (by omega), Nat.sub_add_eq]

/-! ### The law -/

/-- The incident queue is in order: the stored incidents and the deferred ones (R166, R167). -/
def State.InOrder (s : State) : Prop := s.IncidentsOk ∧ s.DeferredOk

theorem inOrder_of_ledger {s t : State} (h : t.ledger = s.ledger) (hs : s.InOrder) : t.InOrder :=
  ⟨incidentsOk_of_ledger h hs.1, deferredOk_of_ledger h hs.2⟩

theorem inOrder_of_empty {s : State} (hi : s.incidents = []) (hd : s.deferred = []) : s.InOrder := by
  simp [State.InOrder, State.IncidentsOk, State.DeferredOk, hi, hd]

/-- Whatever is written to the incident queue keeps it in order. -/
theorem State.Logs.inOrder {s t : State} (h : s.Logs t) (hs : s.InOrder) : t.InOrder := by
  induction h with
  | refl => exact hs
  | same _ e ih => exact inOrder_of_ledger e ih
  | post _ i ih => exact ⟨post_incidentsOk i ih.1, post_deferredOk i ih.2⟩
  | storeDeferred _ d ih => exact ⟨storeDeferred_incidentsOk d ih.1, (storeDeferred_keeps _ d).2 ih.2⟩
  | removeIncidents _ n ih => exact ⟨removeIncidents_incidentsOk n ih.1, ih.2⟩

theorem exec_inOrder {c : Instr} {s t : State} (h : s.InOrder) (ht : exec c s = .next t) : t.InOrder := by
  cases hc : isReset c with
  | true =>
    rcases exec_reset_chan hc ht with rfl | ⟨hi, hd, -⟩
    · exact h
    · exact inOrder_of_empty hi hd
  | false =>
    obtain ⟨u, hu, hlogs⟩ := exec_logs c s hc
    cases hu.symm.trans ht
    exact hlogs.inOrder h

/-- The passing of a tick leaves the stored incidents, and of the deferred ones their class and channel (R17). -/
theorem tick_inOrder {s : State} (h : s.InOrder) : s.tick.InOrder := by
  obtain ⟨hi, hcls, hnodup⟩ := h
  refine ⟨hi, fun d hd => ?_, ?_⟩
  · obtain ⟨e, he, rfl⟩ := List.mem_map.1 hd
    exact hcls e he
  · simpa only [State.tick, List.map_map, Function.comp_def] using hnodup

/-- Settles O52: an incident is stored with the next number behind the others, the oldest leave first, and one is
deferred only if it is of class 3 with none of its channel deferred; nothing else is written to the queue. -/
theorem incidentLaw : Obligations.IncidentLaw := by
  intro s t hi hd h
  exact step_law (Pre := State.InOrder) (Post := State.InOrder) (fun s v => inOrder_of_ledger rfl)
    (fun c s t => exec_inOrder) (fun s => tick_inOrder) ⟨hi, hd⟩ h

end Sys2Proof.Machine
end

section
/-! PROOFS. Settles O1: the machine's own statement of the command queue (log entry 2). -/

namespace Sys2Proof.Machine

/-- Settles O1: with a command at the front of the queue, `step` takes its first arm, which asks nothing of the state
but its queue. -/
theorem stepTakesTheFrontCommand : Obligations.StepTakesTheFrontCommand := by
  intro c rest s
  rfl

end Sys2Proof.Machine
end
